-- ==== Sys2Proof/Word.lean ====
section
/-! DEFINITION. The word types of the Pelgris K40: bytes, 512-byte sectors and the fixed index types
(front and media tags, key slots, profile slots, region positions, keys of the keypad).

Sectors and headers are bit vectors because the manual encrypts, compares and lays out their bytes; byte `j` of one
stands in bits `8 j + 7 .. 8 j` (R188 to R190 send bytes in offset order). -/

namespace Sys2Proof

/-- One byte of a header, of a request sector or of a response sector (R188 to R190). -/
abbrev Byte := BitVec 8

/-- One sector of 512 bytes (spec/00_scope.md, Conventions). -/
abbrev Sector := BitVec 4096

/-- The 16-byte header of a sector link request or reply (R188). -/
abbrev Header := BitVec 128

/-- A front or media tag, 0 to 15. -/
abbrev Tag := Fin 16

/-- A key slot, 0 to 7. -/
abbrev SlotIx := Fin 8

/-- A profile slot, 0 to 7. -/
abbrev ProfIx := Fin 8

/-- A region position, 0 to 15. -/
abbrev Pos := Fin 16

/-- A key of the keypad by its place in the matrix: `3 * row + column` (spec/06, section 6.1). -/
abbrev KeyIx := Fin 12

/-- A digit of a PIN. -/
abbrev Digit := Fin 10

end Sys2Proof
end

