-- ==== Sys2Proof/Config.lean ====
section
/-! DEFINITION. The constants the manual fixes, and the one free value it leaves open: the content of
"unrelated data" (R74), an opaque function that nothing in Lean can evaluate. -/

namespace Sys2Proof.Config

/-- W, the base of the control window (R6). -/
abbrev windowBase : Nat := 4294967232

/-- One past the highest LBA (spec/00_scope.md, Conventions). -/
abbrev lbaLimit : Nat := 4294967296

/-- Length of the scratch area, and the difference between C_eff and U (R6). -/
abbrev scratchSectors : Nat := 64

/-- The least media capacity the K40 accepts (R5). -/
abbrev minCapacity : Nat := 4096

/-- Sectors of the data buffer (R43). -/
abbrev bufferSectors : Nat := 2048

/-- The largest count of one front request (R7). -/
abbrev maxCount : Nat := 256

/-- Retired tags at which the media link is reset (R15). -/
abbrev retireLimit : Nat := 8

/-- The timeout of one media command, in ms (R11). -/
abbrev tagTimeoutMs : Nat := 2000

/-- The least length of a region (R22). -/
abbrev minRegion : Nat := 2048

/-- The highest generation of a key slot (R70), and the highest 32-bit count. -/
abbrev maxGen : Nat := 4294967295

/-- The most ranges the keep list may hold (R101). -/
abbrev keepMax : Nat := 16

/-- The most jobs the erase queue may hold (R85). -/
abbrev jobMax : Nat := 4

/-- Retries of one chunk (R95). -/
abbrev retryMax : Nat := 3

/-- Distance w - c at which a checkpoint commit is requested (R94). -/
abbrev checkpointStep : Nat := 4096

/-- The entry timer, in ms (R119). -/
abbrev entryMs : Nat := 10000

/-- The attach window, in ms (R157). -/
abbrev attachWindowMs : Nat := 30000

/-- The standby idle timer, in ms (R203). -/
abbrev idleMs : Nat := 20000

/-- The settling timer, in ms (R205). -/
abbrev settlingMs : Nat := 16

/-- One comparison, in ms (R132). -/
abbrev comparisonMs : Nat := 320

/-- One cipher test run, in ms (R78). -/
abbrev cipherTestMs : Nat := 5

/-- One pattern unit, in ms (R125). -/
abbrev patternUnitMs : Nat := 50

/-- The most digits the entry buffer holds (R118). -/
abbrev maxDigits : Nat := 15

/-- FREE VALUE. The `n`-th sector of unrelated data (R74): a sector value the manual does not state. No body: a
claim that holds, holds whatever it is. DESIGN CHOICE (assumption 10). -/
opaque unrelated : Nat → Sector

end Sys2Proof.Config
end

