-- ==== Sys2Proof/Syntax.lean ====
section
/-! DEFINITION. The commands of the K40: one constructor of `Instr` for each row of spec/opcode_table.json,
with the operands the spec's text gives the event, and the content of media sectors that a completion
carries (R73).

The rows STATUS to UNKNOWN_REQUEST are window WRITEs that carry a correctly signed request sector of that
code: their operands are the front tag of the WRITE, the sequence byte and the parameter bytes of R189.
FRONT_REQUEST_ARRIVAL is an arrival given by its raw header fields (R188) and, for the one access that has
its sector pulled at once (R8), the request sector. -/

namespace Sys2Proof

/-- A key instance: a key slot together with a generation (spec/00_scope.md, Terms), with the model's name of the
key that the slot held at it, so that two keys that were given one slot and generation stay apart (R70). DEDUCED
(assumption 37). -/
structure KeyInstance where
  slot : SlotIx
  gen  : Nat
  key  : Option Nat
deriving DecidableEq, Repr

/-- What one media sector holds, as the K40's account of it goes (R73). The pair stands for the ciphertext:
DESIGN CHOICE (assumption 8). -/
inductive Content where
  /-- Plain p. -/
  | plain (p : Sector)
  /-- Encrypted (i, p): plaintext `p` under the key instance `i`, meaningful at the LBA it stands at. -/
  | cipher (i : KeyInstance) (p : Sector)
  /-- Unknown: its value is unrelated data. -/
  | unknown
deriving DecidableEq, Repr

/-- The data a media completion of a READ carries (R12). -/
inductive MediaData where
  /-- What the media image of R73 held when the READ was issued. -/
  | asStored
  /-- Sectors given by the media controller, in LBA order. -/
  | given (l : List Content)
deriving DecidableEq, Repr

/-- One constructor per row of spec/opcode_table.json, in the table's order. -/
inductive Instr where
  /-- POWER_ON (R197). `decayed`: the record copies whose check value no longer matches when start-up loads
  them: bit 2 k for the first copy and bit 2 k + 1 for the second copy of record k
  (0 OPTIONS, 1 to 8 PROFILE0 to PROFILE7, 9 MAP, 10 ATTEMPTS, 11 SWEEP). -/
  | powerOn (decayed : BitVec 24)
  /-- ATTACH (R3). -/
  | attach
  /-- DETACH (R20). -/
  | detach
  /-- LINK_RESET (R19). -/
  | linkReset
  /-- MEDIA_READY (R4). -/
  | mediaReady
  /-- FRONT_REQUEST_ARRIVAL (R7): kind byte, tag byte, start LBA and count of the header (R188; `arrivalOf` reads them
  from its bytes), and the one sector that is pulled at once if the request is a window WRITE (R8). -/
  | frontRequestArrival (kind tag : Byte) (start : BitVec 32) (count : BitVec 16) (sector : Sector)
  /-- STATUS (R178). -/
  | status (tag : Tag) (seq : Byte)
  /-- LOCK (R179). -/
  | lock (tag : Tag) (seq : Byte)
  /-- READ_TABLE (R180). -/
  | readTable (tag : Tag) (seq : Byte)
  /-- STAGE_REGION (R26): bytes 8 to 12 and the base and length of R189. -/
  | stageRegion (tag : Tag) (seq position present cls writable slot : Byte) (base length : BitVec 32)
  /-- SET_SLOT_MASK (R27). -/
  | setSlotMask (tag : Tag) (seq slot mask : Byte)
  /-- CLEAR_PENDING (R28). -/
  | clearPending (tag : Tag) (seq : Byte)
  /-- APPLY_TABLE (R29). -/
  | applyTable (tag : Tag) (seq : Byte)
  /-- ERASE_REGION (R86). -/
  | eraseRegion (tag : Tag) (seq position mode : Byte)
  /-- CANCEL_SWEEP (R100). -/
  | cancelSweep (tag : Tag) (seq : Byte)
  /-- ENROLL (R133). -/
  | enroll (tag : Tag) (seq slot kind : Byte)
  /-- REMOVE_PROFILE (R140). -/
  | removeProfile (tag : Tag) (seq slot : Byte)
  /-- SET_OPTIONS (R184): minimum PIN length, F, T, v, chunk code, P. -/
  | setOptions (tag : Tag) (seq minPin free threshold inactivity chunk pace : Byte)
  /-- SELF_TEST CIPHER (R79). -/
  | selfTestCipher (tag : Tag) (seq : Byte)
  /-- SELF_TEST CIPHER_INJECT (R79). -/
  | selfTestCipherInject (tag : Tag) (seq : Byte)
  /-- SELF_TEST MEDIA with N (R81). -/
  | selfTestMedia (tag : Tag) (seq passes : Byte)
  /-- WIPE_ALL (R186). -/
  | wipeAll (tag : Tag) (seq : Byte)
  /-- A request sector whose code names no request (R176). -/
  | unknownRequest (tag : Tag) (seq code : Byte)
  /-- ADMISSION (R42). -/
  | admission
  /-- WRITE_DATA_SECTOR (R56): the next sector of the WRITE whose data is being pulled. -/
  | writeDataSector (data : Sector)
  /-- SLOT_GRANT (R17): one grant of the arbiter. -/
  | slotGrant
  /-- MEDIA_COMPLETION (R12): tag, status code (0 is OK, any other FAIL) and span of a SIZE from the reply's header
  (R188; `completionOf` reads them from its bytes), data of a READ. -/
  | mediaCompletion (tag : Tag) (status : Byte) (span : BitVec 32) (data : MediaData)
  /-- TAG_TIMEOUT (R13). -/
  | tagTimeout (tag : Tag)
  /-- COMMIT_COMPLETION (R194); `verified = false` is a read-back that differs (R195). -/
  | commitCompletion (verified : Bool)
  /-- CIPHER_TEST_END (R78). `mismatches`: bit 2 (k - 1) is set when the encryption compare of vector k differs,
  bit 2 (k - 1) + 1 when its decryption compare differs; bit 0 is the compare that CIPHER_INJECT alters. -/
  | cipherTestEnd (mismatches : BitVec 16)
  /-- COMPARISON_RESULT (R132). -/
  | comparisonResult
  /-- KEYPAD_SCAN (R113): bit `3 * row + column` is set for a key seen pressed. -/
  | keypadScan (pressed : BitVec 12)
  /-- PATTERN_STEP_EXPIRY (R125). -/
  | patternStepExpiry
  /-- ENTRY_TIMER_EXPIRY (R122). -/
  | entryTimerExpiry
  /-- BACKOFF_TIMER_EXPIRY (R149). -/
  | backoffTimerExpiry
  /-- ATTACH_WINDOW_EXPIRY (R159). -/
  | attachWindowExpiry
  /-- INACTIVITY_EXPIRY (R161). -/
  | inactivityExpiry
  /-- STANDBY_IDLE_TIMER_EXPIRY (R203). -/
  | standbyIdleTimerExpiry
  /-- KEYPAD_COLUMN_EDGE (R205). -/
  | keypadColumnEdge
  /-- SETTLING_TIMER_EXPIRY (R205), with the keys its first scan sees pressed (R116). -/
  | settlingTimerExpiry (pressed : BitVec 12)
  /-- POWER_LOSS (R201). -/
  | powerLoss
deriving DecidableEq, Repr

end Sys2Proof
end

