-- ==== Sys2Proof/Machine/State.lean ====
section
/-! DEFINITION. The whole state of the K40 as plain data: one structure per block of the manual's block
overview, with every piece of state its chapter gives it; the records of the settings store; the model's
own fields (command queue, output logs, counters for fresh and free values); and the state after reset. -/

namespace Sys2Proof.Machine

open Sys2Proof

/-- A timer: `none` while stopped, `some ms` while running with `ms` milliseconds left. -/
abbrev Timer := Option Nat

/-- A range of sectors [lo, hi) (spec/00_scope.md, Conventions). -/
structure Range where
  lo : Nat
  hi : Nat
deriving DecidableEq, Repr

/-! ### Sector links (chapter 1) -/

/-- The front link state (section 1.2). -/
inductive LinkState where
  | detached
  | attached
deriving DecidableEq, Repr

/-- The five kinds of a sector link request (section 1.1). -/
inductive Kind where
  | read
  | write
  | discard
  | sync
  | size
deriving DecidableEq, Repr

/-- The ten front statuses (R2). -/
inductive FrontStatus where
  | good
  | badRequest
  | tagInUse
  | outOfRange
  | locked
  | noAccess
  | readOnly
  | eraseBusy
  | notReady
  | mediaError
deriving DecidableEq, Repr

/-- One entry of the front tag table; an OUTSTANDING entry names its transaction (R1). -/
inductive TagEntry where
  | free
  | outstanding (txn : Nat)
deriving DecidableEq, Repr

/-- One reply on the front link (R2): `span` is present for a SIZE with status GOOD, whose sector size is
always 512; `data` holds the sectors of a READ with status GOOD. -/
structure Reply where
  tag    : Tag
  status : FrontStatus
  span   : Option Nat
  data   : List Sector
deriving DecidableEq, Repr

/-- The front port: link state and tag table (R1, R3). -/
structure FrontPort where
  link : LinkState
  tags : Vector TagEntry 16
deriving DecidableEq, Repr

/-- The media state (section 1.2). -/
inductive MediaState where
  | notReady
  | sizing
  | ready
deriving DecidableEq, Repr

/-- Who waits for the result of a media command (section 1.5). `chunk` and `test` carry the model's serial
number of the chunk and of the test run, by which a later result is known to be stale. -/
inductive Requester where
  | fragment (id : Nat)
  | chunk (serial : Nat)
  | test (run : Nat)
  | size
deriving DecidableEq, Repr

/-- An outstanding media command (R11): its requester, what was sent, and the time left of its timeout.
For a READ, `data` is what the media image held at its issue. -/
structure Command where
  requester : Requester
  kind      : Kind
  range     : Range
  data      : List Content
  left      : Nat
deriving DecidableEq, Repr

/-- The state of one media tag (section 1.5). -/
inductive MediaTag where
  | free
  | busy (c : Command)
  | retired
deriving DecidableEq, Repr

/-- What the media port sends: a command on a tag (R11), or the signal of a media link reset (R15). -/
inductive MediaOut where
  | command (tag : Tag) (kind : Kind) (range : Range) (data : List Content)
  | linkReset
deriving DecidableEq, Repr

/-- The media port: media state, capacity C while the geometry is in force (R6), tags, retired count, and
whether a fresh SIZE waits for a FREE tag (R5). -/
structure MediaPort where
  state       : MediaState
  capacity    : Option Nat
  tags        : Vector MediaTag 16
  retired     : Nat
  sizeWaiting : Bool
deriving DecidableEq, Repr

/-! ### The region map (chapter 2) -/

/-- The class of a region: PUBLIC or PRIVATE. -/
inductive RegionClass where
  | pub
  | priv
deriving DecidableEq, Repr

/-- A region entry (section 2.1). -/
structure Entry where
  base     : Nat
  length   : Nat
  cls      : RegionClass
  writable : Bool
  slot     : Option SlotIx
deriving DecidableEq, Repr

/-- The snapshot an apply works from (R32): the positions, the masks, the key copies not yet used, and
whether the swap of R34 has happened. -/
structure Snapshot where
  entries : Vector (Option Entry) 16
  masks   : Vector Byte 8
  copies  : Vector (Option Nat) 8
  swapped : Bool
deriving DecidableEq, Repr

/-- The apply state (R32). -/
inductive ApplyState where
  | idle
  | draining
deriving DecidableEq, Repr

/-- The region map: active table, epoch, pending table with its masks, apply state and snapshot. -/
structure RegionMap where
  table    : List Entry
  epoch    : BitVec 32
  pending  : Vector (Option Entry) 16
  masks    : Vector Byte 8
  apply    : ApplyState
  snapshot : Option Snapshot
deriving DecidableEq, Repr

/-! ### Admission and fragments (chapter 3) -/

/-- The kind of a fragment; a HOLD piece names the chunk it waits for by the model's serial number (R57). -/
inductive FragKind where
  | pass
  | zero
  | masked
  | hold (chunk : Nat)
  | skip
deriving DecidableEq, Repr

/-- The state of a fragment (R53). -/
inductive FragState where
  | waiting
  | issued
  | done
  | failed
deriving DecidableEq, Repr

/-- A fragment record (section 3.4). `id` is the model's name for it; `workKey` is the working key of a write
piece (R75); `stored` holds a write piece's pulled sectors in their media form and `plain` a read fragment's
delivered sectors (R43); `counted` says whether its end lowers its region's count (R64). -/
structure Frag where
  id       : Nat
  range    : Range
  kind     : FragKind
  recorded : Bool
  pos      : Option Pos
  key      : Option KeyInstance
  zeros    : List Range
  state    : FragState
  workKey  : Option Nat
  stored   : List Content
  plain    : List Sector
  counted  : Bool
deriving DecidableEq, Repr

/-- The state of a transaction (R54); COMPLETE transactions are replied to and removed in the same event. -/
inductive TxnState where
  | queued
  | admitted
deriving DecidableEq, Repr

/-- A transaction record (section 3.4). `id` is the model's name for it, `pulled` counts the sectors of a WRITE
pulled so far, and `dropped` marks the record the filter keeps only for the ISSUED fragments of a transaction
that a LINK_RESET dropped (R19, R54). -/
structure Txn where
  id       : Nat
  kind     : Kind
  tag      : Tag
  range    : Range
  state    : TxnState
  frags    : List Frag
  held     : Nat
  waiting  : Bool
  recorded : Option Range
  addition : Option (BitVec 32)
  status   : FrontStatus
  pulled   : Nat
  dropped  : Bool
deriving DecidableEq, Repr

/-- The quiesce state (R44). -/
inductive Quiesce where
  | none
  | apply
  | test
deriving DecidableEq, Repr

/-- The filter: admission queue, admitted transactions in the order of their admission, issue queue (fragment
names), in-flight counts and quiesce state. The buffer space held is the sum of the transactions' `held`. -/
structure Filter where
  queue    : List Txn
  txns     : List Txn
  issueQ   : List Nat
  total    : Nat
  inFlight : Vector Nat 16
  quiesce  : Quiesce
deriving DecidableEq, Repr

/-! ### Cipher unit and key slots (chapter 4) -/

/-- The state of a key slot (R67). -/
inductive SlotState where
  | empty
  | closed
  | opened
deriving DecidableEq, Repr

/-- A key slot (R23, R67): `key` is the name of the key held, a number no other key ever made carries. DESIGN
CHOICE (assumption 7). -/
structure KeySlot where
  state : SlotState
  key   : Option Nat
  gen   : Nat
  mask  : Byte
deriving DecidableEq, Repr

/-- Which cipher test run is in progress (R78, R79). -/
inductive RunKind where
  | startUp
  | plain
  | inject
deriving DecidableEq, Repr

/-- A cipher test run in progress, with the time left of its 5 ms. -/
structure CipherRun where
  kind : RunKind
  left : Nat
deriving DecidableEq, Repr

/-- The cipher test result shown in STATUS (R187). -/
inductive CipherResult where
  | none
  | running
  | pass
  | fail
  | injectDetected
deriving DecidableEq, Repr

/-- The state of the media test (R80). -/
inductive TestState where
  | none
  | draining
  | running
  | done
  | aborted
deriving DecidableEq, Repr

/-- The media test (R80 to R83): state, the four result fields, the command of the current pass that waits at
the arbiter (WRITE or READ), and the model's number of the run. -/
structure MediaTest where
  state      : TestState
  requested  : Nat
  done       : Nat
  mismatched : Nat
  errors     : Nat
  waiting    : Option Kind
  run        : Nat
deriving DecidableEq, Repr

/-- The cipher unit: key slots, cipher test and media test. -/
structure CipherUnit where
  slots  : Vector KeySlot 8
  run    : Option CipherRun
  result : CipherResult
  test   : MediaTest
deriving DecidableEq, Repr

/-! ### Erase engine (chapter 5) -/

/-- The mode of an erase job (R85). -/
inductive EraseMode where
  | quick
  | full
deriving DecidableEq, Repr

/-- An erase job (R85). -/
structure Job where
  pos  : Pos
  mode : EraseMode
deriving DecidableEq, Repr

/-- How far the head job has come: waiting for its region's in-flight count (R87), for its MAP commit or for its
SWEEP commit (R88), or SWEEPING (R89). In the first three its region is ERASE_PENDING. -/
inductive HeadStage where
  | idle
  | waitCount
  | waitMap
  | waitSweep
  | sweeping
deriving DecidableEq, Repr

/-- The chunk in flight, whose range is [w, q): its serial number, and whether a command of it is on a media tag
(else its retry waits). -/
structure Chunk where
  serial : Nat
  onTag  : Bool
deriving DecidableEq, Repr

/-- The phase of a sweep (section 5.3). -/
inductive SweepPhase where
  | running
  | cancelling
  | ending
deriving DecidableEq, Repr

/-- The outcome of a sweep, and the last sweep result (R99, R187). -/
inductive SweepResult where
  | none
  | done
  | cancelled
  | failed (lba : Nat)
deriving DecidableEq, Repr

/-- The sweep context (section 5.3). The paused flag follows from the rest (R92). -/
structure Sweep where
  pos     : Pos
  gen     : Option Nat
  c       : Nat
  w       : Nat
  q       : Nat
  chunk   : Option Chunk
  keep    : List Range
  retry   : Nat
  phase   : SweepPhase
  outcome : SweepResult
deriving DecidableEq, Repr

/-- The erase engine: queue, progress of its head, sweep context, count of additions (R102), last result, the
arbiter's passed-over count (section 1.6) and the model's count of chunks formed. -/
structure EraseEngine where
  queue      : List Job
  stage      : HeadStage
  sweep      : Option Sweep
  additions  : BitVec 32
  lastResult : SweepResult
  passedOver : Nat
  chunks     : Nat
deriving DecidableEq, Repr

/-! ### Keypad and indicators (chapter 6) -/

/-- The debounce state of one key (R114). -/
structure KeyState where
  down : Bool
  run  : Nat
deriving DecidableEq, Repr

/-- The entry kind while COLLECTING (R118). -/
inductive EntryKind where
  | unlock
  | enroll
deriving DecidableEq, Repr

/-- The fifteen fixed patterns (R126). -/
inductive Pattern where
  | idleLocked
  | factory
  | entry
  | evaluating
  | backoff
  | opened
  | openUnattached
  | enrolling
  | wiping
  | fault
  | keyAck
  | reject
  | short
  | accept
  | enrollStep
deriving DecidableEq, Repr

/-- A player at work (R125): pattern, index of the step, time left in the step in ms, and passes left (0 for a
pattern that repeats without end). -/
structure Player where
  pattern : Pattern
  step    : Nat
  left    : Nat
  passes  : Nat
deriving DecidableEq, Repr

/-- The keypad unit: debounce state per key, entry buffer, entry phase (`none` is NONE), entry timer, background
selection, background player (`none` while stopped) and one-shot player (`none` while idle). `withdrawn` holds, until
time passes, that the entry timer stood at 0 ms when a PRESS taken first restarted it, so that the expiry of that
moment does not take place (R122). DEDUCED (assumption 36). -/
structure KeypadUnit where
  keys      : Vector KeyState 12
  buffer    : List Digit
  phase     : Option EntryKind
  timer     : Timer
  selection : Pattern
  player    : Option Player
  oneShot   : Option Player
  withdrawn : Bool
deriving DecidableEq, Repr

/-! ### Profiles and PIN evaluation (chapter 7) -/

/-- The kind of a profile (R131). -/
inductive ProfileKind where
  | admin
  | user
  | reader
  | wipe
deriving DecidableEq, Repr

/-- A verifier as a term: the salt and digits it is derived from, so that equal verifiers under one salt mean
equal digit sequences (R132). DESIGN CHOICE (assumption 8). -/
structure Verifier where
  salt   : Nat
  digits : List Digit
deriving DecidableEq, Repr

/-- The content of an ACTIVE profile record (R131); an EMPTY record is `none`. -/
structure Profile where
  kind     : ProfileKind
  pinLen   : Nat
  salt     : Nat
  verifier : Verifier
deriving DecidableEq, Repr

/-- The phase of an evaluation (section 7.5). -/
inductive EvalPhase where
  | counting
  | comparing
  | resetting (p : ProfIx)
deriving DecidableEq, Repr

/-- The evaluation context (section 7.5). -/
structure Eval where
  digits : List Digit
  phase  : EvalPhase
deriving DecidableEq, Repr

/-- What a comparison is for (R132). -/
inductive Purpose where
  | evaluation
  | duplicate
deriving DecidableEq, Repr

/-- The comparison in progress, with the time left of its 320 ms (R132). -/
structure Comparison where
  purpose : Purpose
  digits  : List Digit
  left    : Nat
deriving DecidableEq, Repr

/-- Where an enrollment began (section 7.2). -/
inductive Origin where
  | opened
  | factory
deriving DecidableEq, Repr

/-- The step of an enrollment (section 7.2). -/
inductive EnrollStep where
  | waitFirst
  | first
  | waitSecond
  | second
  | testing
  | committing
deriving DecidableEq, Repr

/-- The enrollment context (section 7.2), with what its step COMMITTING still awaits (R137) and whether it was
cancelled in that step (R139). -/
structure Enroll where
  target      : ProfIx
  kind        : ProfileKind
  origin      : Origin
  step        : EnrollStep
  first       : List Digit
  profileDone : Bool
  mapDone     : Bool
  cancelled   : Bool
deriving DecidableEq, Repr

/-- The last enrollment result (section 7.2). -/
inductive EnrollResult where
  | none
  | running
  | ok
  | short
  | mismatch
  | duplicate
  | overflow
  | timeout
  | noMedia
  | keyLimit
  | cancelled
deriving DecidableEq, Repr

/-- The credential unit: profile records, attempt counter n, evaluation context, comparison, back-off timer,
enrollment context, removal pending per slot, last enrollment result. -/
structure CredentialUnit where
  profiles   : Vector (Option Profile) 8
  n          : Nat
  eval       : Option Eval
  comparison : Option Comparison
  backoff    : Timer
  enroll     : Option Enroll
  removal    : Vector Bool 8
  lastEnroll : EnrollResult
deriving DecidableEq, Repr

/-! ### Lock controller (chapter 8) -/

/-- The drive state. `starting` is the model's word for "none yet": no state has been chosen by start-up (the
table of spec/10, "A start-up in sequence"), or the part is without power. DESIGN CHOICE (assumption 6). -/
inductive DriveState where
  | starting
  | factory
  | locked
  | entry
  | evaluating
  | backoff
  | opened
  | enrolling
  | wiping
  | fault
deriving DecidableEq, Repr

/-- The fault causes (R170). -/
inductive FaultCause where
  | cipherTest
  | storeCheck
  | storeWrite
  | mediaSmall
deriving DecidableEq, Repr

/-- The lock controller; `wipeStep` is the step of R167 whose commit is awaited. `withdrawn` holds, until time passes,
that the inactivity timer stood at 0 ms when a restart was taken first, so that the expiry of that moment does not take
place (R161). DEDUCED (assumption 36). -/
structure LockController where
  drive       : DriveState
  openProfile : Option ProfIx
  attached    : Bool
  window      : Timer
  inactivity  : Timer
  cause       : Option FaultCause
  wipeStep    : Option Nat
  wipeFlag    : Bool
  withdrawn   : Bool
deriving DecidableEq, Repr

/-! ### Control window (chapter 9) -/

/-- The result codes (R190). -/
inductive Result where
  | none
  | ok
  | accepted
  | denied
  | notNow
  | badField
  | invalidTable
  | busy
  | exists
  | sharedKey
  | lastHolder
  | eraseLimit
  | unknownRequest
deriving DecidableEq, Repr

/-- The response sector (R174): its fields after the fixed signature; `payload` holds the bytes from offset 8 on,
all further bytes zero (R190). -/
structure Response where
  seq     : Byte
  code    : Byte
  result  : Result
  payload : List Byte
deriving DecidableEq, Repr

/-- The six option values as given or stored (R184). -/
structure RawOptions where
  minPin     : Byte
  free       : Byte
  threshold  : Byte
  inactivity : Byte
  chunk      : Byte
  pace       : Byte
deriving DecidableEq, Repr

/-- The control window: response sector and staged options. -/
structure Window where
  response : Response
  staged   : RawOptions
deriving DecidableEq, Repr

/-! ### Settings store (chapter 10) -/

/-- The six options in force (R196): m, F, T, v, chunk code, P. -/
structure Options where
  minPin     : Nat
  free       : Nat
  threshold  : Nat
  inactivity : Nat
  chunk      : Nat
  pace       : Nat
deriving DecidableEq, Repr

/-- The names of the twelve records (R191). -/
inductive RecordId where
  | options
  | profile (p : ProfIx)
  | map
  | attempts
  | sweep
deriving DecidableEq, Repr

/-- What MAP stores of a key slot (R23): key if it holds one, generation and mask. -/
structure StoredSlot where
  key  : Option Nat
  gen  : Nat
  mask : Byte
deriving DecidableEq, Repr

/-- The content of the MAP record (R191). -/
structure MapRecord where
  table    : List Entry
  epoch    : BitVec 32
  slots    : Vector StoredSlot 8
  wipeFlag : Bool
deriving DecidableEq, Repr

/-- The sweep a SWEEP record names (R104). -/
structure StoredSweep where
  pos        : Pos
  gen        : Option Nat
  checkpoint : Nat
  keep       : List Range
deriving DecidableEq, Repr

/-- The content of the SWEEP record (R104). -/
structure SweepRecord where
  sweep : Option StoredSweep
  jobs  : List Job
deriving DecidableEq, Repr

/-- The content of one record, taken at a commit's start (R193). -/
inductive RecordContent where
  | options (o : RawOptions)
  | profile (p : ProfIx) (x : Option Profile)
  | map (m : MapRecord)
  | attempts (n : Nat)
  | sweep (r : SweepRecord)
deriving DecidableEq, Repr

/-- One copy of a record (R192): content, whether its check value matches, copy count. -/
structure RecordCopy (α : Type) where
  content : α
  intact  : Bool
  count   : BitVec 32
deriving DecidableEq, Repr

/-- The two copies of a record (R192). -/
structure Copies (α : Type) where
  a : RecordCopy α
  b : RecordCopy α
deriving DecidableEq, Repr

/-- A requester that acts when its commit request is answered (R194). -/
inductive Waiter where
  | applyEnd
  | eraseMap
  | eraseSweep
  | countAttempts
  | resetAttempts
  | enrollProfile
  | enrollMap
  | removal (r : ProfIx)
  | wipe (step : Nat)
deriving DecidableEq, Repr

/-- An entry of the commit queue: a record and the requests that joined it, in their order (R193, R194). -/
structure QueueEntry where
  record  : RecordId
  waiters : List Waiter
deriving DecidableEq, Repr

/-- The commit in progress: the content taken at its start, the requests it answers, and the count of additions
to K noted for it (R104). -/
structure Commit where
  content   : RecordContent
  waiters   : List Waiter
  additions : BitVec 32
deriving DecidableEq, Repr

/-- The settings store: the twelve records as two copies each, commit queue, commit in progress, effective
options and the options default flag. -/
structure Store where
  options        : Copies RawOptions
  profiles       : Vector (Copies (Option Profile)) 8
  map            : Copies MapRecord
  attempts       : Copies Nat
  sweep          : Copies SweepRecord
  queue          : List QueueEntry
  busy           : Option Commit
  effective      : Options
  optionsDefault : Bool
deriving DecidableEq, Repr

/-! ### Power unit (chapter 11) -/

/-- The power source (R202). -/
inductive PowerSource where
  | link
  | battery
deriving DecidableEq, Repr

/-- The power mode (chapter 11). -/
inductive PowerMode where
  | active
  | settling
  | standby
deriving DecidableEq, Repr

/-- The standby idle timer (R203); `stopped` before start-up has ended. `restarted` is one at its full 20 s since a
PRESS of this very moment, which was taken before the expiry it met: that expiry does not take place. DEDUCED
(assumption 36). -/
inductive IdleTimer where
  | stopped
  | running (left : Nat)
  | restarted
  | expired
deriving DecidableEq, Repr

/-- The power unit; `on` says that a supply holds the part up (R202). `lastScan` holds, from the entry into STANDBY
until time passes, the debounce states for a scan made at that moment, whose PRESS is taken second (R117, R203).
DEDUCED (assumption 36). -/
structure PowerUnit where
  on       : Bool
  source   : PowerSource
  mode     : PowerMode
  idle     : IdleTimer
  settling : Timer
  lastScan : Option (Vector KeyState 12)
deriving DecidableEq, Repr

/-! ### The machine -/

/-- The model's own counters: names for transactions and fragments, names for fresh keys, fresh salts, and the
index of the next free value of unrelated data (R74). DESIGN CHOICE (assumption 7). -/
structure Counters where
  ids       : Nat
  keys      : Nat
  salts     : Nat
  unrelated : Nat
deriving DecidableEq, Repr

/-- The state of the K40. `flash` is the stored media image of R73, a list of (LBA, content) with rising LBAs
and no `unknown` entry; `replies` and `mediaOut` log what the two links have been sent; `pending` is the queue
of commands that wait. -/
structure State where
  front    : FrontPort
  media    : MediaPort
  regions  : RegionMap
  filter   : Filter
  cipher   : CipherUnit
  erase    : EraseEngine
  keypad   : KeypadUnit
  cred     : CredentialUnit
  ctl      : LockController
  window   : Window
  store    : Store
  power    : PowerUnit
  flash    : List (Nat × Content)
  replies  : List Reply
  mediaOut : List MediaOut
  counters : Counters
  pending  : List Instr
deriving DecidableEq, Repr

/-- The reasons a step can stop with a fault. There are none: the manual gives every event of the table an
effect, or says that it has none, in every state. -/
inductive Fault where
deriving DecidableEq, Repr

/-- The reasons a step can be refused. -/
inductive Refusal where
  /-- Raised by an arm of `exec` whose command has no meaning yet (safe: the run stops). No arm raises it. -/
  | notModelled (mnemonic : String)
deriving DecidableEq, Repr

/-! ### Values after reset -/

/-- The NONE response (R174). -/
def Response.noneResponse : Response := ⟨0, 0, .none, []⟩

/-- The default start options (R196). -/
def RawOptions.defaults : RawOptions := ⟨7, 5, 20, 5, 1, 4⟩

/-- The default start options in force (R196). -/
def Options.defaults : Options := ⟨7, 5, 20, 5, 1, 4⟩

/-- MAP in a part as delivered (R191). -/
def MapRecord.delivered : MapRecord := ⟨[], 0, Vector.replicate 8 ⟨none, 0, 0⟩, false⟩

/-- SWEEP in a part as delivered (R191). -/
def SweepRecord.delivered : SweepRecord := ⟨none, []⟩

/-- Two intact copies of a delivered content; the first is the current one (assumption 9). DESIGN CHOICE. -/
def Copies.delivered {α : Type} (x : α) : Copies α := ⟨⟨x, true, 1⟩, ⟨x, true, 0⟩⟩

/-- A part as delivered, without power: every volatile field at its power-on value (R21, R40, R66, R84, R112,
R130, R153, R173, R174, R201, R206), no drive state chosen, the records as delivered (R191). The background selection,
which R130 ties to the drive state, is IDLE_LOCKED until one is chosen. DESIGN CHOICE (assumption 6). -/
def State.blank : State where
  front := ⟨.detached, Vector.replicate 16 .free⟩
  media := ⟨.notReady, none, Vector.replicate 16 .free, 0, false⟩
  regions := ⟨[], 0, Vector.replicate 16 none, Vector.replicate 8 0, .idle, none⟩
  filter := ⟨[], [], [], 0, Vector.replicate 16 0, .none⟩
  cipher := ⟨Vector.replicate 8 ⟨.empty, none, 0, 0⟩, none, .none, ⟨.none, 0, 0, 0, 0, none, 0⟩⟩
  erase := ⟨[], .idle, none, 0, .none, 0, 0⟩
  keypad := ⟨Vector.replicate 12 ⟨false, 0⟩, [], none, none, .idleLocked, none, none, false⟩
  cred := ⟨Vector.replicate 8 none, 0, none, none, none, none, Vector.replicate 8 false, .none⟩
  ctl := ⟨.starting, none, false, none, none, none, none, false, false⟩
  window := ⟨.noneResponse, .defaults⟩
  store :=
    { options := .delivered .defaults, profiles := Vector.replicate 8 (.delivered none),
      map := .delivered .delivered, attempts := .delivered 0, sweep := .delivered .delivered,
      queue := [], busy := none, effective := .defaults, optionsDefault := false }
  power := ⟨false, .battery, .active, .stopped, none, none⟩
  flash := []
  replies := []
  mediaOut := []
  counters := ⟨0, 0, 0, 0⟩
  pending := []

/-- The machine right after reset: a part as delivered whose start-up has ended, in FACTORY (R191, R198, R200).
Scanning and the background player have started and the standby idle timer runs. DESIGN CHOICE (assumption 5). -/
def State.reset : State :=
  { State.blank with
    ctl := ⟨.factory, none, false, none, none, none, none, false, false⟩
    keypad := ⟨Vector.replicate 12 ⟨false, 0⟩, [], none, none, .factory, some ⟨.factory, 0, 500, 0⟩, none,
      false⟩
    power := ⟨true, .battery, .active, .running 20000, none, none⟩ }

end Sys2Proof.Machine
end

