-- ==== Sys2Proof/Machine/Ranges.lean ====
section
/-! DEFINITION. Arithmetic on ranges of sectors, the keep list (R101 to R103), the zero set (R48), and the
stored media image (R73) in its one canonical form. -/

namespace Sys2Proof.Machine

open Sys2Proof

/-- The number of sectors of a range. -/
def Range.len (r : Range) : Nat := r.hi - r.lo

/-- Whether a range is empty. -/
def Range.isEmpty (r : Range) : Bool := r.hi ≤ r.lo

/-- Whether a sector lies in a range. -/
def Range.has (r : Range) (a : Nat) : Bool := r.lo ≤ a && a < r.hi

/-- Whether two non-empty ranges overlap or are adjacent (R102). -/
def Range.touches (r k : Range) : Bool := k.lo ≤ r.hi && r.lo ≤ k.hi

/-- The end of an entry: base + length, without wrapping (section 2.1, R30). -/
def Entry.stop (e : Entry) : Nat := e.base + e.length

/-- `floor8 x`, the largest multiple of 8 not above `x`. -/
def floor8 (x : Nat) : Nat := x - x % 8

/-! ### The keep list -/

/-- Inserts a range that touches no range of the list, in order of start. DEDUCED (assumption 30). -/
def insertSorted (r : Range) : List Range → List Range
  | [] => [r]
  | k :: ks => if r.lo < k.lo then r :: k :: ks else k :: insertSorted r ks

/-- The least start among a range and the ranges removed by its merge (R102). -/
def mergedLo (r : Range) (removed : List Range) : Nat := removed.foldl (fun m k => min m k.lo) r.lo

/-- The greatest end among a range and the ranges removed by its merge (R102). -/
def mergedHi (r : Range) (removed : List Range) : Nat := removed.foldl (fun m k => max m k.hi) r.hi

/-- The keep list with a recorded range merged in (R102). -/
def keepMerge (r : Range) (keep : List Range) : List Range :=
  let removed := keep.filter (Range.touches r)
  insertSorted ⟨mergedLo r removed, mergedHi r removed⟩ (keep.filter (fun k => !Range.touches r k))

/-- The keep list pruned at a stored checkpoint (R103). -/
def keepPrune (checkpoint : Nat) (keep : List Range) : List Range :=
  keep.filter (fun k => decide (checkpoint < k.hi))

/-- The next sweep sector from `q`: `q`, or the end of the keep range `q` lies in (R92, R93). -/
def stepOver (keep : List Range) (q : Nat) : Nat :=
  match keep.find? (fun k => k.has q) with
  | some k => k.hi
  | none => q

/-- The least start of a keep range above `q`, at most `top` (R93). -/
def nextKeepStart (q top : Nat) (keep : List Range) : Nat :=
  keep.foldl (fun m k => if q < k.lo then min m k.lo else m) top

/-- [lo, hi) with every range of a sorted list removed, as sub-ranges in LBA order (R48). -/
def subtractKeep (lo hi : Nat) : List Range → List Range
  | [] => if lo < hi then [⟨lo, hi⟩] else []
  | k :: ks =>
    if k.hi ≤ lo then subtractKeep lo hi ks
    else if hi ≤ k.lo then (if lo < hi then [⟨lo, hi⟩] else [])
    else if lo < k.lo then ⟨lo, k.lo⟩ :: subtractKeep k.hi hi ks
    else subtractKeep k.hi hi ks

/-- The law of the keep list (R101): sorted by start, disjoint, not adjacent, none empty. -/
def keepSorted : List Range → Bool
  | [] => true
  | [k] => decide (k.lo < k.hi)
  | k :: l :: ks => decide (k.lo < k.hi) && decide (k.hi < l.lo) && keepSorted (l :: ks)

/-! ### The media image -/

/-- What the image holds at an LBA: an unlisted sector is `unknown` (R73). -/
def flashRead : List (Nat × Content) → Nat → Content
  | [], _ => .unknown
  | (b, c) :: l, a => if a = b then c else flashRead l a

/-- Removes the entry of an LBA. -/
def flashErase (a : Nat) : List (Nat × Content) → List (Nat × Content)
  | [] => []
  | (b, c) :: l => if a = b then l else if a < b then (b, c) :: l else (b, c) :: flashErase a l

/-- Puts an entry in its place. -/
def flashPut (a : Nat) (x : Content) : List (Nat × Content) → List (Nat × Content)
  | [] => [(a, x)]
  | (b, c) :: l =>
    if a = b then (a, x) :: l else if a < b then (a, x) :: (b, c) :: l else (b, c) :: flashPut a x l

/-- Sets what one sector holds, keeping the canonical form: writing `unknown` removes the entry. -/
def flashWrite (a : Nat) (x : Content) (l : List (Nat × Content)) : List (Nat × Content) :=
  match x with
  | .unknown => flashErase a l
  | x => flashPut a x l

/-- Sets the sectors from `a` up to the contents given, in LBA order (R73). -/
def flashWriteAll (a : Nat) : List Content → List (Nat × Content) → List (Nat × Content)
  | [], l => l
  | x :: xs, l => flashWriteAll (a + 1) xs (flashWrite a x l)

/-- Makes every sector of a range unknown (R73). -/
def flashForget (r : Range) (l : List (Nat × Content)) : List (Nat × Content) :=
  l.filter (fun p => !r.has p.1)

/-- What the image holds in the sectors of a range, in LBA order. -/
def flashReadAll (l : List (Nat × Content)) (r : Range) : List Content :=
  (List.range r.len).map (fun k => flashRead l (r.lo + k))

/-- The canonical form of the image: LBAs strictly rising and at least `lo`, no `unknown` entry. -/
def flashWfFrom (lo : Nat) : List (Nat × Content) → Bool
  | [] => true
  | (a, c) :: l => decide (lo ≤ a) && decide (c ≠ .unknown) && flashWfFrom (a + 1) l

/-- The canonical form of the media image. -/
def flashWf (l : List (Nat × Content)) : Bool := flashWfFrom 0 l

end Sys2Proof.Machine
end

