-- ==== Sys2Proof/Machine/Operands.lean ====
section
/-! DEFINITION. The byte layouts of R188 to R190 and the operand forms that commands carry: bytes of sectors,
sector link headers, request sectors, response sectors, key numbers and record numbers. -/

namespace Sys2Proof.Machine

open Sys2Proof

/-! ### Bytes and sectors -/

/-- Byte `j` of a sector. -/
def sectorByte (x : Sector) (j : Nat) : Byte := x.extractLsb' (8 * j) 8

/-- The number whose bytes are given, least significant first. -/
def bytesValue : List Byte → Nat
  | [] => 0
  | b :: bs => b.toNat + 256 * bytesValue bs

/-- The sector whose bytes are given from offset 0 on, the rest zero. -/
def sectorOfBytes (l : List Byte) : Sector := BitVec.ofNat 4096 (bytesValue l)

/-- The four bytes of a 32-bit value, least significant first (section 9.6). -/
def le32 (n : Nat) : List Byte :=
  [BitVec.ofNat 8 n, BitVec.ofNat 8 (n / 256), BitVec.ofNat 8 (n / 65536), BitVec.ofNat 8 (n / 16777216)]

/-- The two bytes of a 16-bit value, least significant first (section 9.6). -/
def le16 (n : Nat) : List Byte := [BitVec.ofNat 8 n, BitVec.ofNat 8 (n / 256)]

/-- A Boolean as a byte. -/
def byteOfBool (b : Bool) : Byte := if b then 1 else 0

/-- The 32-bit value at an offset of a sector. -/
def sectorWord (x : Sector) (j : Nat) : BitVec 32 := x.extractLsb' (8 * j) 32

/-- A slot number 0 to 7 from a byte, none above 7. -/
def slotOfByte (b : Byte) : Option (Fin 8) :=
  if h : b.toNat < 8 then some ⟨b.toNat, h⟩ else none

/-- A position 0 to 15 from a byte, none above 15. -/
def posOfByte (b : Byte) : Option Pos :=
  if h : b.toNat < 16 then some ⟨b.toNat, h⟩ else none

/-- Whether a mask names an index 0 to 7. -/
def maskHas (m : Byte) (p : Fin 8) : Bool := m.getLsbD p.val

/-- The mask that names one index. -/
def maskOf (p : Fin 8) : Byte := BitVec.ofNat 8 (2 ^ p.val)

/-- A mask with one bit cleared. -/
def maskClear (m : Byte) (p : Fin 8) : Byte := m &&& ~~~(maskOf p)

/-! ### Sector link headers (R188) -/

/-- The kind named by a kind byte. -/
def kindOfByte (b : Byte) : Option Kind :=
  match b.toNat with
  | 1 => some .read
  | 2 => some .write
  | 3 => some .discard
  | 4 => some .sync
  | 5 => some .size
  | _ => none

/-- The kind byte of a kind. -/
def Kind.code : Kind → Byte
  | .read => 1
  | .write => 2
  | .discard => 3
  | .sync => 4
  | .size => 5

/-- The tag named by a tag byte: its low four bits. -/
def tagOfByte (b : Byte) : Tag := ⟨b.toNat % 16, Nat.mod_lt _ (by decide)⟩

/-- The status code of a front status. -/
def FrontStatus.code : FrontStatus → Byte
  | .good => 0
  | .badRequest => 1
  | .tagInUse => 2
  | .outOfRange => 3
  | .locked => 4
  | .noAccess => 5
  | .readOnly => 6
  | .eraseBusy => 7
  | .notReady => 8
  | .mediaError => 9

/-- Whether a completion's status code is OK: 0 is OK, any other value FAIL. -/
def statusIsOk (b : Byte) : Bool := b == 0

/-- Byte `j` of a header. -/
def headerByte (h : Header) (j : Nat) : Byte := h.extractLsb' (8 * j) 8

/-- The start LBA of a request's header, at offsets 4 to 7; in a reply's, the span of a SIZE. -/
def headerWord (h : Header) : BitVec 32 := h.extractLsb' 32 32

/-- The count of a request's header, at offsets 8 to 9; in a reply's, the sector size of a SIZE. -/
def headerCount (h : Header) : BitVec 16 := h.extractLsb' 64 16

/-- The header whose bytes are given from offset 0 on. -/
def headerOfBytes (l : List Byte) : Header := BitVec.ofNat 128 (bytesValue l)

/-- The 16-byte header of a reply. -/
def Reply.header (r : Reply) : List Byte :=
  [BitVec.ofNat 8 r.tag.val, r.status.code, 0, 0] ++
    (match r.span with
     | some n => le32 n ++ le16 512
     | none => le32 0 ++ le16 0) ++ [0, 0, 0, 0, 0, 0]

/-- The 16-byte header of a request the K40 sends on the media link. -/
def requestHeader (tag : Tag) (kind : Kind) (r : Range) : List Byte :=
  [kind.code, BitVec.ofNat 8 tag.val, 0, 0] ++ le32 r.lo ++ le16 r.len ++ [0, 0, 0, 0, 0, 0]

/-! ### Request sectors (R189) -/

/-- Whether a sector bears the request signature 4Bh, 34h, 30h, 57h. -/
def requestSigned (x : Sector) : Bool := x.extractLsb' 0 32 == 0x5730344B#32

/-- The sequence byte of a request sector. -/
def requestSeq (x : Sector) : Byte := sectorByte x 4

/-- The code byte of a request sector. -/
def requestCode (x : Sector) : Byte := sectorByte x 5

/-- The class named by the class byte of STAGE_REGION. -/
def classOfByte (b : Byte) : Option RegionClass :=
  match b.toNat with
  | 1 => some .pub
  | 2 => some .priv
  | _ => none

/-- The mode named by the mode byte of ERASE_REGION. -/
def modeOfByte (b : Byte) : Option EraseMode :=
  match b.toNat with
  | 1 => some .quick
  | 2 => some .full
  | _ => none

/-- The kind named by the kind byte of ENROLL. -/
def profileKindOfByte (b : Byte) : Option ProfileKind :=
  match b.toNat with
  | 1 => some .admin
  | 2 => some .user
  | 3 => some .reader
  | 4 => some .wipe
  | _ => none

/-- The entry that STAGE_REGION's bytes give; `none` where R26 and R181 answer BAD_FIELD. -/
def stagedEntry (cls writable slot : Byte) (base length : BitVec 32) : Option Entry :=
  match classOfByte cls with
  | none => none
  | some .pub => some ⟨base.toNat, length.toNat, .pub, writable != 0, none⟩
  | some .priv =>
    if slot == 0xFF then some ⟨base.toNat, length.toNat, .priv, writable != 0, none⟩
    else match slotOfByte slot with
      | none => none
      | some k => some ⟨base.toNat, length.toNat, .priv, writable != 0, some k⟩

/-! ### Response sectors (R190) -/

/-- The code of a result. -/
def Result.code : Result → Byte
  | .none => 0
  | .ok => 1
  | .accepted => 2
  | .denied => 3
  | .notNow => 4
  | .badField => 5
  | .invalidTable => 6
  | .busy => 7
  | .exists => 8
  | .sharedKey => 9
  | .lastHolder => 10
  | .eraseLimit => 11
  | .unknownRequest => 12

/-- The response sector as it is read at W + 1: signature 4Bh, 34h, 30h, 52h, the fields, the payload. -/
def Response.toSector (r : Response) : Sector :=
  sectorOfBytes ([0x4B, 0x34, 0x30, 0x52, r.seq, r.code, r.result.code, 0] ++ r.payload)

/-- The code of a drive state in STATUS. -/
def DriveState.code : DriveState → Byte
  | .starting => 0
  | .factory => 1
  | .locked => 2
  | .entry => 3
  | .evaluating => 4
  | .backoff => 5
  | .opened => 6
  | .enrolling => 7
  | .wiping => 8
  | .fault => 9

/-- The code of a fault cause in STATUS. -/
def FaultCause.code : FaultCause → Byte
  | .cipherTest => 1
  | .storeCheck => 2
  | .storeWrite => 3
  | .mediaSmall => 4

/-- The code of a sweep result in STATUS. -/
def SweepResult.code : SweepResult → Byte
  | .none => 0
  | .done => 1
  | .cancelled => 2
  | .failed _ => 3

/-- The code of a cipher test result in STATUS. -/
def CipherResult.code : CipherResult → Byte
  | .none => 0
  | .running => 1
  | .pass => 2
  | .fail => 3
  | .injectDetected => 4

/-- The code of a media test state in STATUS. -/
def TestState.code : TestState → Byte
  | .none => 0
  | .draining => 1
  | .running => 2
  | .done => 3
  | .aborted => 4

/-- The code of an enrollment result in STATUS. -/
def EnrollResult.code : EnrollResult → Byte
  | .none => 0
  | .running => 1
  | .ok => 2
  | .short => 3
  | .mismatch => 4
  | .duplicate => 5
  | .overflow => 6
  | .timeout => 7
  | .noMedia => 8
  | .keyLimit => 9
  | .cancelled => 10

/-- The state code of a key slot in READ_TABLE. -/
def SlotState.code : SlotState → Byte
  | .empty => 0
  | .closed => 1
  | .opened => 2

/-- The class byte of an entry in READ_TABLE. -/
def RegionClass.code : RegionClass → Byte
  | .pub => 1
  | .priv => 2

/-- The twelve bytes of an entry in READ_TABLE. -/
def Entry.bytes (e : Entry) : List Byte :=
  le32 e.base ++ le32 e.length ++
    [e.cls.code, byteOfBool e.writable,
     match e.slot with
     | some k => BitVec.ofNat 8 k.val
     | none => 0xFF, 0]

/-- The eight bytes of a key slot record in READ_TABLE. -/
def KeySlot.bytes (k : KeySlot) : List Byte :=
  [k.state.code, k.mask, 0, 0] ++ le32 k.gen

/-! ### The validation reasons of an INVALID_TABLE payload -/

/-- The reasons of R30 and R31. -/
inductive Reason where
  | order
  | gapPosition
  | overlap
  | align
  | short
  | beyondSpan
  | publicWritable
  | badSlot
  | badMask
  | keyClosed
deriving DecidableEq, Repr

/-- The code of a reason (R190). -/
def Reason.code : Reason → Byte
  | .order => 1
  | .gapPosition => 2
  | .overlap => 3
  | .align => 4
  | .short => 5
  | .beyondSpan => 6
  | .publicWritable => 7
  | .badSlot => 8
  | .badMask => 9
  | .keyClosed => 10

/-! ### Keys (section 6.1) -/

/-- The twelve keys: ten digits, LOCK and OPEN. -/
inductive Key where
  | digit (d : Digit)
  | lockKey
  | openKey
deriving DecidableEq, Repr

/-- The key at a place of the matrix: rows 1 2 3, 4 5 6, 7 8 9, LOCK 0 OPEN. -/
def keyAt (i : KeyIx) : Key :=
  match i.val with
  | 9 => .lockKey
  | 10 => .digit 0
  | 11 => .openKey
  | n => .digit (Fin.ofNat 10 (n + 1))

/-! ### Options (R196) -/

/-- The options in force for stored values, each clamped, T after F. -/
def RawOptions.clamp (o : RawOptions) : Options :=
  let f := if o.free.toNat = 0 then 1 else if 10 < o.free.toNat then 10 else o.free.toNat
  { minPin := if o.minPin.toNat < 6 then 6 else if 12 < o.minPin.toNat then 12 else o.minPin.toNat
    free := f
    threshold :=
      if o.threshold.toNat = 0 then 0
      else if o.threshold.toNat ≤ f then f + 1
      else if 99 < o.threshold.toNat then 99
      else o.threshold.toNat
    inactivity := if 8 < o.inactivity.toNat then 8 else o.inactivity.toNat
    chunk := if 2 < o.chunk.toNat then 2 else o.chunk.toNat
    pace := if o.pace.toNat = 0 then 1 else if 16 < o.pace.toNat then 16 else o.pace.toNat }

/-- The chunk size S of a chunk code: 64, 128 or 256 sectors. -/
def chunkSize (code : Nat) : Nat :=
  match code with
  | 0 => 64
  | 1 => 128
  | _ => 256

/-- The inactivity period I in ms for code v: 2^(v - 1) minutes (R160); meant for v from 1 to 8. -/
def inactivityMs (v : Nat) : Nat := 60000 * 2 ^ (v - 1)

/-- The back-off delay d(n) in seconds for free attempts F (R148). -/
def backoffSeconds (free n : Nat) : Nat :=
  if n < free then 0 else 2 * 2 ^ min (n - free) 10

/-! ### The media test's pattern (R82) -/

/-- The bytes of a function from offset `j` on, as a number, least significant first. -/
def bytesFrom (f : Nat → Byte) : Nat → Nat → Nat
  | 0, _ => 0
  | k + 1, j => (f j).toNat + 256 * bytesFrom f k (j + 1)

/-- Scratch sector `i` in the pattern of pass `p`: byte `j` is (37 p + 5 i + j) mod 256. -/
def testPattern (p i : Nat) : Sector :=
  BitVec.ofNat 4096 (bytesFrom (fun j => BitVec.ofNat 8 (37 * p + 5 * i + j)) 512 0)

/-! ### The fixed patterns (R126) -/

/-- The indicators a step lights: red, green, blue. -/
structure Leds where
  red   : Bool
  green : Bool
  blue  : Bool
deriving DecidableEq, Repr

/-- No indicator. -/
def Leds.off : Leds := ⟨false, false, false⟩

/-- RED alone. -/
def Leds.r : Leds := ⟨true, false, false⟩

/-- GREEN alone. -/
def Leds.g : Leds := ⟨false, true, false⟩

/-- BLUE alone. -/
def Leds.b : Leds := ⟨false, false, true⟩

/-- The steps of a pattern: LED set and duration in units of 50 ms. -/
def Pattern.steps : Pattern → List (Leds × Nat)
  | .idleLocked => [(.r, 2), (.off, 38)]
  | .factory => [(.b, 10), (.g, 10)]
  | .entry => [(.b, 40)]
  | .evaluating => [(.r, 2), (.g, 2)]
  | .backoff => [(.r, 2), (.off, 2), (.r, 2), (.off, 14)]
  | .opened => [(.g, 40)]
  | .openUnattached => [(.g, 5), (.off, 5)]
  | .enrolling => [(.b, 5), (.g, 5)]
  | .wiping => [(.r, 2), (.b, 2)]
  | .fault => [(.r, 40)]
  | .keyAck => [(.off, 1)]
  | .reject => [(.r, 2), (.off, 2)]
  | .short => [(.r, 2), (.off, 2)]
  | .accept => [(.g, 10)]
  | .enrollStep => [(.g, 2), (.off, 2)]

/-- The repeat count of a pattern; 0 repeats without end. -/
def Pattern.repeats : Pattern → Nat
  | .keyAck => 1
  | .reject => 3
  | .short => 2
  | .accept => 1
  | .enrollStep => 2
  | _ => 0

/-- The time of a step of a pattern, in ms. -/
def Pattern.stepMs (p : Pattern) (k : Nat) : Nat :=
  match p.steps[k]? with
  | some (_, u) => u * Config.patternUnitMs
  | none => 0

/-- A player at the first step of a pattern (R125). -/
def Player.start (p : Pattern) : Player := ⟨p, 0, p.stepMs 0, p.repeats⟩

/-! ### Records -/

/-- The bit of POWER_ON's operand that stands for a copy of record `k`. -/
def copyDecayed (d : BitVec 24) (k copy : Nat) : Bool := d.getLsbD (2 * k + copy)

end Sys2Proof.Machine
end

