-- ==== Sys2Proof/WellFormed.lean ====
section
/-! DEFINITION. Which command terms spell an event of the spec. Every meaning is total; a term refused here
names nothing that the spec's operand fields can carry. -/

namespace Sys2Proof

/-- UNKNOWN_REQUEST is a code outside the fourteen of R189 (01h to 0Eh). -/
def codeIsUnknown (code : Byte) : Bool := code.toNat == 0 || 15 ≤ code.toNat

/-- The media link carries at most 256 sectors in one completion (R188). -/
def mediaDataFits : MediaData → Bool
  | .asStored => true
  | .given l => l.length ≤ Config.maxCount

/-- The checks on a command term. -/
def Instr.wf : Instr → Bool
  | .unknownRequest _ _ code => codeIsUnknown code
  | .mediaCompletion _ _ _ data => mediaDataFits data
  | .powerOn _ | .attach | .detach | .linkReset | .mediaReady | .frontRequestArrival _ _ _ _ _
  | .status _ _ | .lock _ _ | .readTable _ _ | .stageRegion _ _ _ _ _ _ _ _ _ | .setSlotMask _ _ _ _
  | .clearPending _ _ | .applyTable _ _ | .eraseRegion _ _ _ _ | .cancelSweep _ _ | .enroll _ _ _ _
  | .removeProfile _ _ _ | .setOptions _ _ _ _ _ _ _ _ | .selfTestCipher _ _ | .selfTestCipherInject _ _
  | .selfTestMedia _ _ _ | .wipeAll _ _ | .admission | .writeDataSector _ | .slotGrant | .tagTimeout _
  | .commitCompletion _ | .cipherTestEnd _ | .comparisonResult | .keypadScan _ | .patternStepExpiry
  | .entryTimerExpiry | .backoffTimerExpiry | .attachWindowExpiry | .inactivityExpiry
  | .standbyIdleTimerExpiry | .keypadColumnEdge | .settlingTimerExpiry _ | .powerLoss => true

end Sys2Proof
end

