-- ==== Sys2Proof/Decode.lean ====
section
/-! DEFINITION. What the links' bytes spell. The table of spec/opcode_table.json gives no row any bits, so no word of
the table spells a command. The two rows that a header of R188 brings are read from its bytes here: the arrival of a
front request and the completion of a media command. Request and response sectors are read and written in
Machine/Operands.lean. -/

namespace Sys2Proof

open Sys2Proof.Machine

/-- The arrival that a request's header spells (R188): kind at offset 0, tag byte at 1, start LBA at 4 to 7, count at 8
to 9. The other bytes are ignored. -/
def arrivalOf (h : Header) (x : Sector) : Instr :=
  .frontRequestArrival (headerByte h 0) (headerByte h 1) (headerWord h) (headerCount h) x

/-- The completion that a reply's header spells (R188): tag in the low four bits of offset 0, status code at 1, the span
of a SIZE at 4 to 7. The other bytes are ignored. -/
def completionOf (h : Header) (data : MediaData) : Instr :=
  .mediaCompletion (tagOfByte (headerByte h 0)) (headerByte h 1) (headerWord h) data

/-- The command a word of the table spells: none, since no row of the table has bits. -/
def decodeTableWord (_nbits _w : Nat) : Option Instr := none

end Sys2Proof
end

