-- ==== Sys2Proof/Machine/Flags.lean ====
section
/-! DEFINITION. The conditions and views that the rules compute from the state: geometry, erase states, chunk
readiness, what profiles may do, the fields of STATUS and READ_TABLE, the lit indicators. -/

namespace Sys2Proof.Machine

open Sys2Proof

/-! ### Geometry (R6) -/

/-- The clamped capacity C_eff, while the geometry is in force. -/
def State.cEff (s : State) : Option Nat := s.media.capacity.map (fun c => min c Config.windowBase)

/-- The user span U, while the media is READY. -/
def State.uSpan (s : State) : Option Nat := s.cEff.map (fun c => c - Config.scratchSectors)

/-- The scratch area [C_eff - 64, C_eff). -/
def State.scratch (s : State) : Range :=
  match s.cEff with
  | some c => ⟨c - Config.scratchSectors, c⟩
  | none => ⟨0, 0⟩

/-! ### Drive-level conditions -/

/-- Start-up has ended: the part has power and a drive state has been chosen. -/
def State.started (s : State) : Bool := s.power.on && s.ctl.drive != .starting

/-- Admin open: the open profile is profile 0. -/
def State.adminOpen (s : State) : Bool := s.ctl.openProfile == some 0

/-- "The media test is running" (R80). -/
def State.testRunning (s : State) : Bool := s.cipher.test.state == .running

/-- The media test is DRAINING or RUNNING. -/
def State.testBusy (s : State) : Bool :=
  s.cipher.test.state == .draining || s.cipher.test.state == .running

/-- The drive is ENROLLING with the origin given. -/
def State.enrollingFrom (s : State) (o : Origin) : Bool :=
  s.ctl.drive == .enrolling && (match s.cred.enroll with | some e => e.origin == o | none => false)

/-- The drive states in which a lock trigger locks (R162). -/
def State.lockable (s : State) : Bool := s.ctl.drive == .opened || s.enrollingFrom .opened

/-- Free sectors of the data buffer (R43). -/
def State.bufferHeld (s : State) : Nat := (s.filter.txns.map Txn.held).sum

/-- The free space of the data buffer (R43). -/
def State.bufferFree (s : State) : Nat := Config.bufferSectors - s.bufferHeld

/-- The buffer space the head of the admission queue needs (R42). -/
def Txn.need (t : Txn) : Nat :=
  match t.kind with
  | .read | .write | .discard => t.range.len
  | .sync | .size => 0

/-- DONE or FAILED: final (R53). -/
def Frag.ended (g : Frag) : Bool := g.state == .done || g.state == .failed

/-- All data of a write piece has been pulled (R56). -/
def Frag.pulled (g : Frag) : Bool := g.stored.length == g.range.len

/-! ### Tables and slots -/

/-- Whether a present entry of a list names a key slot. -/
def tableNames (t : List Entry) (k : SlotIx) : Bool := t.any (fun e => e.slot == some k)

/-- Whether a present position names a key slot. -/
def positionsName (t : Vector (Option Entry) 16) (k : SlotIx) : Bool :=
  t.toList.any (fun o => match o with | some e => e.slot == some k | none => false)

/-- The state of a slot that holds a key, against the open profile (R67). -/
def slotStateFor (openProfile : Option ProfIx) (mask : Byte) : SlotState :=
  match openProfile with
  | some p => if maskHas mask p then .opened else .closed
  | none => .closed

/-- The pending form of a table (R25). -/
def pendingOf (t : List Entry) : Vector (Option Entry) 16 := Vector.ofFn (fun i => t[i.val]?)

/-- The masks of the slot records (R25). -/
def masksOf (slots : Vector KeySlot 8) : Vector Byte 8 := slots.map KeySlot.mask

/-! ### Erase states and the sweep -/

/-- The erase state of a position (R85). -/
inductive EraseState where
  | idle
  | erasePending
  | sweeping
deriving DecidableEq, Repr

/-- The erase state of a position follows the queue: the head's region is ERASE_PENDING, then SWEEPING. -/
def State.eraseState (s : State) (p : Pos) : EraseState :=
  match s.erase.queue with
  | [] => .idle
  | j :: _ => if j.pos = p then (if s.erase.stage = .sweeping then .sweeping else .erasePending) else .idle

/-- The sweep context of the SWEEPING region, if any region is SWEEPING. -/
def State.sweeping (s : State) : Option Sweep :=
  if s.erase.stage = .sweeping then s.erase.sweep else none

/-- The table entry at a position. -/
def State.entryAt (s : State) (p : Pos) : Option Entry := s.regions.table[p.val]?

/-- The end of the region at a position; 0 where the position is absent, so that a sweep whose position the default
table has left absent has nothing left below L and finishes: DESIGN CHOICE (assumption 40). -/
def State.regionEnd (s : State) (p : Pos) : Nat :=
  match s.entryAt p with
  | some e => e.stop
  | none => 0

/-- The sweep limit L = min(region end, U), with the U in force (R92). -/
def State.sweepLimit (s : State) (p : Pos) : Option Nat := s.uSpan.map (fun u => min (s.regionEnd p) u)

/-- PUBLIC, or the slot is OPEN: the first condition of R92. -/
def State.sweepKeyOpen (s : State) (p : Pos) : Bool :=
  match s.entryAt p with
  | some e =>
    match e.cls, e.slot with
    | .pub, _ => true
    | .priv, some k => s.cipher.slots[k].state == .opened
    | .priv, none => false
  | none => false

/-- The four conditions under which a chunk may be ready (R92). -/
def State.sweepAllowed (s : State) (p : Pos) : Bool :=
  s.sweepKeyOpen p && s.media.state == .ready && !s.testRunning && s.ctl.drive != .fault

/-- Whether a chunk, or the retry of a chunk, is ready at the arbiter (R92, R95). -/
def State.chunkReady (s : State) : Bool :=
  match s.sweeping with
  | none => false
  | some x =>
    x.phase == .running && s.sweepAllowed x.pos &&
      (match x.chunk with
       | some k => !k.onTag
       | none =>
         match s.sweepLimit x.pos with
         | some l => decide (stepOver x.keep x.q < l)
         | none => false)

/-- The paused flag of a sweep (R92). -/
def State.paused (s : State) (x : Sweep) : Bool := x.phase != .running || !s.sweepAllowed x.pos

/-- The key instance data of a region is under: its slot with the slot's current generation and key; none for
PUBLIC. -/
def State.instanceOf (s : State) (e : Entry) : Option KeyInstance :=
  match e.cls, e.slot with
  | .priv, some k => some ⟨k, s.cipher.slots[k].gen, s.cipher.slots[k].key⟩
  | _, _ => none

/-- The content a sweep chunk writes: zero plaintext under the slot's current instance, or plain zeros (R77). -/
def State.zeroContent (s : State) (p : Pos) : Content :=
  match (s.entryAt p).bind s.instanceOf with
  | some i => .cipher i 0
  | none => .plain 0

/-! ### Indicators -/

/-- The background pattern of a drive state (R127); none before start-up has chosen one. -/
def backgroundFor (d : DriveState) (attached : Bool) : Option Pattern :=
  match d with
  | .starting => none
  | .factory => some .factory
  | .locked => some .idleLocked
  | .entry => some .entry
  | .evaluating => some .evaluating
  | .backoff => some .backoff
  | .opened => some (if attached then .opened else .openUnattached)
  | .enrolling => some .enrolling
  | .wiping => some .wiping
  | .fault => some .fault

/-- The indicators a player lights. -/
def Player.lit (p : Player) : Leds :=
  match p.pattern.steps[p.step]? with
  | some (l, _) => l
  | none => .off

/-- The indicators lit now: the one-shot's over the background's; none while both are stopped (R128, R129). -/
def State.leds (s : State) : Leds :=
  match s.keypad.oneShot, s.keypad.player with
  | some p, _ => p.lit
  | none, some p => p.lit
  | none, none => .off

/-! ### STATUS and READ_TABLE -/

/-- Commit pending (R187, R193). -/
def State.commitPending (s : State) : Bool := s.store.busy.isSome || !s.store.queue.isEmpty

/-- The back-off time left in whole seconds, rounded up; 1 for the last second, until the timer's expiry is taken
(R149). With 0 ms left: DEDUCED (assumption 2). -/
def State.backoffLeft (s : State) : Nat :=
  match s.cred.backoff with
  | some ms => max 1 ((ms + 999) / 1000)
  | none => 0

/-- The bytes 33 to 48 of STATUS: erase queue length, sweeping region, paused, c, w, q, keep count. -/
def State.sweepBytes (s : State) : List Byte :=
  [BitVec.ofNat 8 s.erase.queue.length] ++
    (match s.sweeping with
     | some x =>
       [BitVec.ofNat 8 x.pos.val, byteOfBool (s.paused x)] ++ le32 x.c ++ le32 x.w ++ le32 x.q ++
         [BitVec.ofNat 8 x.keep.length]
     | none => [0xFF, 0] ++ le32 0 ++ le32 0 ++ le32 0 ++ [0])

/-- The bytes 49 to 55 of STATUS: last sweep result, zeros, LBA of a FAILED result. -/
def SweepResult.bytes (r : SweepResult) : List Byte :=
  [r.code, 0, 0] ++ le32 (match r with | .failed a => a | _ => 0)

/-- The STATUS payload from offset 8 on (R187, R190). -/
def State.statusPayload (s : State) : List Byte :=
  [s.ctl.drive.code,
   (match s.ctl.openProfile with | some p => BitVec.ofNat 8 p.val | none => (0xFF : Byte)),
   byteOfBool s.ctl.attached,
   (match s.power.source with | .link => (1 : Byte) | .battery => 2),
   BitVec.ofNat 8 s.cred.n,
   (match s.ctl.cause with | some c => c.code | none => (0 : Byte))] ++
  le16 s.backoffLeft ++
  [BitVec.ofNat 8 s.store.effective.minPin, BitVec.ofNat 8 s.store.effective.free,
   BitVec.ofNat 8 s.store.effective.threshold, BitVec.ofNat 8 s.store.effective.inactivity,
   BitVec.ofNat 8 s.store.effective.chunk, BitVec.ofNat 8 s.store.effective.pace,
   byteOfBool s.store.optionsDefault, byteOfBool s.commitPending] ++
  le32 (s.uSpan.getD 0) ++ le32 s.regions.epoch.toNat ++
  [(match s.regions.apply with | .idle => (0 : Byte) | .draining => 1)] ++
  s.sweepBytes ++ s.erase.lastResult.bytes ++
  [s.cipher.result.code, s.cipher.test.state.code,
   BitVec.ofNat 8 s.cipher.test.requested, BitVec.ofNat 8 s.cipher.test.done] ++
  le16 s.cipher.test.mismatched ++ le16 s.cipher.test.errors ++
  [s.cred.lastEnroll.code]

/-- The bytes of the sixteen positions of READ_TABLE: present entries, then zeros. -/
def tableBytes (t : List Entry) : List Byte :=
  (List.range 16).flatMap (fun p => match t[p]? with | some e => e.bytes | none => List.replicate 12 0)

/-- The READ_TABLE payload from offset 8 on (R180, R190). -/
def State.tablePayload (s : State) : List Byte :=
  [BitVec.ofNat 8 s.regions.table.length,
   (match s.regions.apply with | .idle => (0 : Byte) | .draining => 1), 0, 0] ++
  le32 s.regions.epoch.toNat ++ tableBytes s.regions.table ++
  s.cipher.slots.toList.flatMap KeySlot.bytes

end Sys2Proof.Machine
end

