-- ==== Sys2Proof/Machine/Ops.lean ====
section
/-! DEFINITION. The shared operations of the settings store, the indicators, the timers, the key slots and the
front replies. Operations over fragments, the sweep, the credential unit and the lock controller stand in
Tables, Fragments, Sweeping, Lifecycle and Credentials, in that order. -/

namespace Sys2Proof.Machine

open Sys2Proof

/-! ### Settings store (R193, R194) -/

/-- What a SWEEP commit captures at its start (R104). -/
def State.sweepRecord (s : State) : SweepRecord :=
  { sweep :=
      match s.erase.sweep with
      | some x =>
        if x.phase = .ending then none
        else some ⟨x.pos, x.gen, x.w, x.keep.filter (fun k => decide (x.w < k.hi))⟩
      | none => none
    jobs :=
      match s.erase.sweep with
      | some _ => s.erase.queue.tail
      | none => s.erase.queue }

/-- What a MAP commit captures at its start (R23, R191). -/
def State.mapRecord (s : State) : MapRecord :=
  ⟨s.regions.table, s.regions.epoch, s.cipher.slots.map (fun k => ⟨k.key, k.gen, k.mask⟩), s.ctl.wipeFlag⟩

/-- A record's content, taken from its owner as it stands (R191, R193). -/
def State.capture (s : State) : RecordId → RecordContent
  | .options => .options s.window.staged
  | .profile p => .profile p s.cred.profiles[p]
  | .map => .map s.mapRecord
  | .attempts => .attempts s.cred.n
  | .sweep => .sweep s.sweepRecord

/-- Starts the commit of the head entry if none is in progress and the drive is not in FAULT (R193, R195).
DEDUCED (assumption 13). -/
def startNext (s : State) : State :=
  if s.ctl.drive = .fault ∨ s.store.busy.isSome then s
  else match s.store.queue with
    | [] => s
    | e :: rest =>
      { s with store.queue := rest
               store.busy := some ⟨s.capture e.record, e.waiters, s.erase.additions⟩ }

/-- Joins a request to the queued entry of its record, or to the tail (R193). -/
def enqueue (r : RecordId) (ws : List Waiter) (q : List QueueEntry) : List QueueEntry :=
  if q.any (fun e => e.record == r) then
    q.map (fun e => if e.record == r then ⟨e.record, e.waiters ++ ws⟩ else e)
  else q ++ [⟨r, ws⟩]

/-- A block requests the commit of a record; `ws` names the requester where it acts on the answer (R193). -/
def requestCommit (r : RecordId) (ws : List Waiter) (s : State) : State :=
  startNext { s with store.queue := enqueue r ws s.store.queue }

/-- Whether `x` is the higher of two copy counts: above the other by 1 to 2,147,483,647 modulo 2^32 (R192). -/
def countHigher (x y : BitVec 32) : Bool := decide (0 < (x - y).toNat) && decide ((x - y).toNat < 2147483648)

/-- Whether the first of two copies is the current one, given which of them are valid (R192). With neither valid
the counts decide: DESIGN CHOICE (assumption 11). -/
def firstIsCurrent {α : Type} (validA validB : Bool) (c : Copies α) : Bool :=
  match validA, validB with
  | true, false => true
  | false, true => false
  | _, _ => countHigher c.a.count c.b.count

/-- Which copies of a record are valid: the check value matches and the content obeys the record's laws (R192). -/
def Copies.valid {α : Type} (law : α → Bool) (c : Copies α) : Bool × Bool :=
  (c.a.intact && law c.a.content, c.b.intact && law c.b.content)

/-- Whether the first copy of a record is the current one (R192). -/
def Copies.firstCurrent {α : Type} (law : α → Bool) (c : Copies α) : Bool :=
  firstIsCurrent (c.valid law).1 (c.valid law).2 c

/-- The current content of a record whose content must obey `law`; none when neither copy is valid (R192). -/
def Copies.load {α : Type} (law : α → Bool) (c : Copies α) : Option α :=
  if (c.valid law).1 || (c.valid law).2 then
    some (if c.firstCurrent law then c.a.content else c.b.content)
  else none

/-- A commit written in full and verified: the copy that was not current holds the content, intact, with the
copy count one above the current one's (R192). -/
def Copies.commit {α : Type} (law : α → Bool) (x : α) (c : Copies α) : Copies α :=
  if c.firstCurrent law then { c with b := ⟨x, true, c.a.count + 1⟩ }
  else { c with a := ⟨x, true, c.b.count + 1⟩ }

/-- A commit cut short or failed leaves the old copy current (R192, R195). That the copy it was writing fails its
check, where R192 also lets it be unverified: DESIGN CHOICE (assumption 11). -/
def Copies.spoil {α : Type} (law : α → Bool) (c : Copies α) : Copies α :=
  if c.firstCurrent law then { c with b := { c.b with intact := false } }
  else { c with a := { c.a with intact := false } }

/-- The laws of a PROFILE record: its state and kind as R131 allows, a PIN length of 6 to 15 (R192). -/
def profileLaw (p : ProfIx) : Option Profile → Bool
  | none => true
  | some x => ((x.kind == .admin) == (p == 0)) && decide (6 ≤ x.pinLen) && decide (x.pinLen ≤ 15)

/-- The laws of the table that one entry obeys by itself and against the entry before it (R22). -/
def tableLaw : Nat → List Entry → Bool
  | _, [] => true
  | from_, e :: es =>
    decide (from_ ≤ e.base) && decide (e.base % 8 = 0) && decide (e.length % 8 = 0) &&
      decide (Config.minRegion ≤ e.length) && tableLaw e.stop es

/-- The laws of the MAP record: a table that obeys R22, every slot it names holding a key (R192). -/
def mapLaw (m : MapRecord) : Bool :=
  decide (m.table.length ≤ 16) && tableLaw 0 m.table &&
    m.table.all (fun e => match e.slot with | some k => m.slots[k].key.isSome | none => true)

/-- The law of the ATTEMPTS record (R192). -/
def attemptsLaw (n : Nat) : Bool := decide (n ≤ 255)

/-- The laws of the SWEEP record (R192). -/
def sweepLaw (r : SweepRecord) : Bool :=
  decide (r.jobs.length ≤ Config.jobMax) &&
    (match r.sweep with
     | some x => decide (x.keep.length ≤ Config.keepMax) && keepSorted x.keep
     | none => true)

/-- OPTIONS has no laws of content (R192). -/
def optionsLaw (_ : RawOptions) : Bool := true

/-- Stores the content of a completed commit in its record (R192). -/
def Store.write (x : RecordContent) (st : Store) : Store :=
  match x with
  | .options o => { st with options := st.options.commit optionsLaw o }
  | .profile p v => { st with profiles := st.profiles.set p (st.profiles[p].commit (profileLaw p) v) }
  | .map m => { st with map := st.map.commit mapLaw m }
  | .attempts n => { st with attempts := st.attempts.commit attemptsLaw n }
  | .sweep r => { st with sweep := st.sweep.commit sweepLaw r }

/-- The record of a commit that was not completed keeps its old copy (R192, R195). -/
def Store.spoil (x : RecordContent) (st : Store) : Store :=
  match x with
  | .options _ => { st with options := st.options.spoil optionsLaw }
  | .profile p _ => { st with profiles := st.profiles.set p (st.profiles[p].spoil (profileLaw p)) }
  | .map _ => { st with map := st.map.spoil mapLaw }
  | .attempts _ => { st with attempts := st.attempts.spoil attemptsLaw }
  | .sweep _ => { st with sweep := st.sweep.spoil sweepLaw }

/-! ### Indicators (R127 to R129) -/

/-- The background selection follows the drive state and the attached attribute (R127). -/
def selectBackground (s : State) : State :=
  match backgroundFor s.ctl.drive s.ctl.attached with
  | none => s
  | some p =>
    if p = s.keypad.selection then s
    else { s with
      keypad.selection := p
      keypad.player :=
        if s.keypad.oneShot.isNone && s.keypad.player.isSome then some (Player.start p) else s.keypad.player }

/-- The lock controller sets the drive state and reports it (R154). -/
def setDrive (d : DriveState) (s : State) : State := selectBackground { s with ctl.drive := d }

/-- A block requests a one-shot: it starts at once in ACTIVE and is discarded otherwise (R128). -/
def requestOneShot (p : Pattern) (s : State) : State :=
  if s.power.mode = .active then { s with keypad.oneShot := some (Player.start p) } else s

/-- The background player starts the selected pattern at its first step (R129, R130). -/
def startPlayer (s : State) : State := { s with keypad.player := some (Player.start s.keypad.selection) }

/-- The end of a collection: buffer emptied, timer stopped, phase NONE (R118). -/
def endCollection (s : State) : State :=
  { s with keypad.buffer := [], keypad.phase := none, keypad.timer := none }

/-! ### Standby (R203, R204) -/

/-- The conditions of R203 for entering STANDBY. -/
def State.standbyDue (s : State) : Bool :=
  s.power.on && s.power.idle == .expired && s.power.mode == .active && s.power.source == .battery &&
  (s.ctl.drive == .factory || s.ctl.drive == .locked || s.ctl.drive == .backoff || s.ctl.drive == .fault) &&
  s.store.busy.isNone && (s.ctl.drive == .fault || s.store.queue.isEmpty)

/-- Leaving ACTIVE: scanning stops, debounce states and a one-shot are discarded, the indicators go off (R113,
R129). The discarded states are UP with run 0: DEDUCED (assumption 22). -/
def leaveActive (s : State) : State :=
  { s with keypad.keys := Vector.replicate 12 ⟨false, 0⟩, keypad.player := none, keypad.oneShot := none }

/-- The power unit's decision at each event that can make the standby conditions hold (R203, R204). Where it is
made: DEDUCED (assumption 26). The debounce states are kept for the scan made at this very moment, whose PRESS is then
taken second, in the drive state it finds (R117, R203): DEDUCED (assumption 36). -/
def standbyCheck (s : State) : State :=
  if s.standbyDue then
    leaveActive { s with power.mode := .standby, power.lastScan := some s.keypad.keys }
  else s

/-! ### Timers of the lock controller (R160) -/

/-- The inactivity timer starts at I, unless v is 0 (R160). -/
def startInactivity (s : State) : State :=
  { s with ctl.inactivity :=
      if s.store.effective.inactivity = 0 then none else some (inactivityMs s.store.effective.inactivity) }

/-- An event of R160 restarts the inactivity timer where it runs. -/
def restartInactivity (s : State) : State :=
  if s.ctl.inactivity.isSome then startInactivity s else s

/-- Whether an event has restarted a timer that stood at 0 ms, so that the expiry which that event met does not take
place (R122, R161). -/
def raced (before after : Timer) : Bool := before == some 0 && after.any (fun n => n != 0)

/-- What an event that has led from `s` to `t` withdraws: the expiries of the entry timer and of the inactivity timer
that it met and was taken before (R122, R161). DEDUCED (assumption 36). -/
def withdrawRaced (s t : State) : State :=
  { t with
    keypad.withdrawn := t.keypad.withdrawn || raced s.keypad.timer t.keypad.timer
    ctl.withdrawn := t.ctl.withdrawn || raced s.ctl.inactivity t.ctl.inactivity }

/-- The arrival of a front request is reported to the lock controller (R160). -/
def reportArrival (s : State) : State := withdrawRaced s (restartInactivity s)

/-! ### Key slots (R68, R69) -/

/-- Opens every CLOSED slot whose mask names the profile (R68). -/
def openSlots (p : ProfIx) (s : State) : State :=
  { s with cipher.slots := s.cipher.slots.map (fun k =>
      if k.state = .closed ∧ maskHas k.mask p then { k with state := .opened } else k) }

/-- Closes every OPEN slot (R69). -/
def closeSlots (s : State) : State :=
  { s with cipher.slots := s.cipher.slots.map (fun k =>
      if k.state = .opened then { k with state := .closed } else k) }

/-! ### Replies (R1, R2) -/

/-- The front port sends a reply. -/
def sendReply (tag : Tag) (st : FrontStatus) (span : Option Nat) (data : List Sector) (s : State) : State :=
  { s with replies := s.replies ++ [⟨tag, st, span, data⟩] }

/-- The front port sends the one reply of a transaction and its tag entry becomes FREE (R1, R2). -/
def endReply (tag : Tag) (st : FrontStatus) (span : Option Nat) (data : List Sector) (s : State) : State :=
  sendReply tag st span data { s with front.tags := s.front.tags.set tag .free }

end Sys2Proof.Machine
end

