-- ==== Sys2Proof/Machine/Tables.lean ====
section
/-! DEFINITION. The region map's operations (chapter 2): validation, the snapshot of an accepted apply, the
swap, the discard, the clearing of mask bits, the default table; and the cipher unit's creation and
destruction of keys that they ask for (R72). -/

namespace Sys2Proof.Machine

open Sys2Proof

/-! ### Validation (R30, R31) -/

/-- The reasons of R30 at a present position, in order. `prev` is the previous entry, `gap` says that some
position below is absent. -/
def entryReason (u : Option Nat) (prev : Option Entry) (gap : Bool) (e : Entry) : Option Reason :=
  if prev.any (fun x => decide (e.base ≤ x.base)) then some .order
  else if gap then some .gapPosition
  else if prev.any (fun x => decide (e.base < x.stop)) then some .overlap
  else if e.base % 8 ≠ 0 ∨ e.length % 8 ≠ 0 then some .align
  else if e.length < Config.minRegion then some .short
  else if (match u with | none => true | some u => decide (u < e.stop)) then some .beyondSpan
  else if e.cls = .pub ∧ e.writable then some .publicWritable
  else if e.cls = .priv ∧ e.slot = none then some .badSlot
  else none

/-- The walk over the positions from `p` on (R30). -/
def walkPositions (u : Option Nat) : Option Entry → Bool → Nat → List (Option Entry) → Option (Reason × Nat)
  | _, _, _, [] => none
  | prev, _, p, none :: rest => walkPositions u prev true (p + 1) rest
  | prev, gap, p, some e :: rest =>
    match entryReason u prev gap e with
    | some r => some (r, p)
    | none => walkPositions u (some e) gap (p + 1) rest

/-- The lowest present position that names a key slot. -/
def lowestNaming (t : Vector (Option Entry) 16) (k : SlotIx) : Nat :=
  t.toList.findIdx (fun o => match o with | some e => e.slot == some k | none => false)

/-- Whether a mask names a profile slot that is EMPTY (R31). -/
def namesEmptyProfile (profiles : Vector (Option Profile) 8) (m : Byte) : Bool :=
  (List.finRange 8).any (fun p => maskHas m p && profiles[p].isNone)

/-- The reasons of R31 for a slot that a present pending position names. -/
def slotReason (s : State) (k : SlotIx) : Option Reason :=
  let m := s.regions.masks[k]
  if m = 0 ∨ namesEmptyProfile s.cred.profiles m then some .badMask
  else if tableNames s.regions.table k ∧ m ≠ s.cipher.slots[k].mask ∧ s.cipher.slots[k].state ≠ .opened then
    some .keyClosed
  else none

/-- Validation of the pending table: the first reason and position found to fail (R30, R31). -/
def validate (s : State) : Option (Reason × Nat) :=
  match walkPositions s.uSpan none false 0 s.regions.pending.toList with
  | some r => some r
  | none =>
    (List.finRange 8).findSome? (fun k =>
      if positionsName s.regions.pending k then
        (slotReason s k).map (fun r => (r, lowestNaming s.regions.pending k))
      else none)

/-- Whether the apply would create or destroy a slot at the highest generation (R29, case 6). -/
def applyExhausts (s : State) : Bool :=
  (List.finRange 8).any (fun k =>
    (positionsName s.regions.pending k != tableNames s.regions.table k) &&
      s.cipher.slots[k].gen == Config.maxGen)

/-! ### The apply -/

/-- The snapshot and the key copies taken at acceptance (R32). -/
def takeSnapshot (s : State) : Snapshot :=
  { entries := s.regions.pending
    masks := s.regions.masks
    copies := Vector.ofFn (fun k =>
      if tableNames s.regions.table k && positionsName s.regions.pending k &&
          s.regions.masks[k] != s.cipher.slots[k].mask && s.cipher.slots[k].state == .opened then
        s.cipher.slots[k].key
      else none)
    swapped := false }

/-- The generation one above, staying at the highest (R70). -/
def nextGen (g : Nat) : Nat := min (g + 1) Config.maxGen

/-- What the swap makes of one key slot (R34, R72). `fresh` is the name a key created now would carry. A slot that only
the new table names is EMPTY, since a slot holds a key exactly when the table in force names it (R23); that one which
held a key all the same would get a fresh key, generation plus 1: DESIGN CHOICE (assumption 38). -/
def swapSlot (openProfile : Option ProfIx) (was now : Bool) (mask : Byte) (copy : Option Nat) (fresh : Nat)
    (k : KeySlot) : KeySlot :=
  match was, now with
  | false, true => ⟨slotStateFor openProfile mask, some fresh, nextGen k.gen, mask⟩
  | true, false => ⟨.empty, none, nextGen k.gen, 0⟩
  | true, true => ⟨slotStateFor openProfile mask, (copy <|> k.key), k.gen, mask⟩
  | false, false => k

/-- The swap of the tables at the drain's end (R34). -/
def swapTables (n : Snapshot) (s : State) : State :=
  requestCommit .map [.applyEnd]
    { s with
      regions.table := n.entries.toList.filterMap id
      regions.epoch := s.regions.epoch + 1
      regions.snapshot := some { n with copies := Vector.replicate 8 none, swapped := true }
      cipher.slots := Vector.ofFn (fun k =>
        swapSlot s.ctl.openProfile (tableNames s.regions.table k) (positionsName n.entries k) n.masks[k]
          n.copies[k] (s.counters.keys + k.val) s.cipher.slots[k])
      counters.keys := s.counters.keys + 8 }

/-- The apply ends, or is discarded: snapshot destroyed, apply state IDLE, quiesce lifted (R35, R36). -/
def endApply (s : State) : State :=
  if s.regions.apply = .draining then
    { s with
      regions.apply := .idle
      regions.snapshot := none
      filter.quiesce := if s.filter.quiesce = .apply then .none else s.filter.quiesce }
  else s

/-! ### Masks and the default table -/

/-- The pending table becomes a copy of the active table, with its masks (R25). -/
def copyPending (s : State) : State :=
  { s with regions.pending := pendingOf s.regions.table, regions.masks := masksOf s.cipher.slots }

/-- Whether a profile slot is the last holder of a key (R37). DEDUCED (assumption 28). -/
def lastHolder (s : State) (r : ProfIx) : Bool :=
  (List.finRange 8).any (fun k =>
    (tableNames s.regions.table k && maskClear s.cipher.slots[k].mask r == 0) ||
    (match s.regions.snapshot with
     | some n => s.regions.apply == .draining && positionsName n.entries k && maskClear n.masks[k] r == 0
     | none => false))

/-- Clears the bit of a removed profile from every stored, pending and snapshot mask and requests MAP (R37). -/
def clearRemoved (r : ProfIx) (s : State) : State :=
  requestCommit .map []
    { s with
      cipher.slots := s.cipher.slots.map (fun k => { k with mask := maskClear k.mask r })
      regions.masks := s.regions.masks.map (fun m => maskClear m r)
      regions.snapshot := s.regions.snapshot.map (fun n =>
        { n with masks := n.masks.map (fun m => maskClear m r) }) }

/-- A mask without the bits that name EMPTY profile slots (R37). -/
def maskActive (profiles : Vector (Option Profile) 8) (m : Byte) : Byte :=
  (List.finRange 8).foldl (fun m p => if profiles[p].isNone then maskClear m p else m) m

/-- Start-up's phase 3: the same clearing for every EMPTY profile slot; MAP if a stored mask changed (R198). -/
def clearEmptyMasks (s : State) : State :=
  let slots := s.cipher.slots.map (fun k => { k with mask := maskActive s.cred.profiles k.mask })
  let t := { s with
    cipher.slots := slots
    regions.masks := s.regions.masks.map (maskActive s.cred.profiles) }
  if slots = s.cipher.slots then t else requestCommit .map [] t

/-- What the default table makes of one key slot (R23, R38). Slot 0 gets a fresh key with mask {0}; any other slot loses
the key that the table in force gave it, as at the swap of an apply. R38 presumes every slot EMPTY: a key that slot 0
holds is replaced, its generation staying at the maximum if it stands there: DESIGN CHOICE (assumption 38). -/
def defaultSlot (s : State) (k : SlotIx) : KeySlot :=
  if k = 0 then swapSlot s.ctl.openProfile false true 1 none s.counters.keys s.cipher.slots[k]
  else swapSlot s.ctl.openProfile (tableNames s.regions.table k) false 0 none 0 s.cipher.slots[k]

/-- The default table (R38): one PRIVATE writable region over the user span under slot 0. -/
def installDefault (s : State) : State :=
  requestCommit .map [.enrollMap]
    (copyPending
      { s with
        regions.table := [⟨0, floor8 (s.uSpan.getD 0), .priv, true, some 0⟩]
        regions.epoch := s.regions.epoch + 1
        cipher.slots := Vector.ofFn (defaultSlot s)
        counters.keys := s.counters.keys + 1 })

end Sys2Proof.Machine
end

