-- ==== Sys2Proof/Machine/Jobs.lean ====
section
/-! DEFINITION. The head job of the erase engine up to its commits (R87, R88), the start of the media test's run
(R81) and what the filter's report of an in-flight count of 0 sets off (R44, R64). -/

namespace Sys2Proof.Machine

open Sys2Proof

/-- Replaces the key of a slot: fresh key, generation one above, same mask and state (R71). -/
def replaceKey (k : SlotIx) (s : State) : State :=
  { s with
    cipher.slots := s.cipher.slots.set k
      { s.cipher.slots[k] with key := some s.counters.keys, gen := nextGen s.cipher.slots[k].gen }
    counters.keys := s.counters.keys + 1 }

/-- Sets up the sweep context of a FULL job and requests its SWEEP commit (R88). -/
def setUpSweep (p : Pos) (e : Entry) (s : State) : State :=
  requestCommit .sweep [.eraseSweep]
    { s with
      erase.stage := .waitSweep
      erase.sweep := some
        { pos := p, gen := (s.instanceOf e).map KeyInstance.gen, c := e.base, w := e.base, q := e.base,
          chunk := none, keep := [], retry := 0, phase := .running, outcome := .none } }

/-- The wait of R87 has ended: the head job acts by its region's class and its mode (R88). One whose position the default
table has left absent stands: DESIGN CHOICE (assumption 40). -/
def runHead (j : Job) (s : State) : State :=
  match s.entryAt j.pos with
  | none => s
  | some e =>
    match e.cls, e.slot with
    | .priv, some k =>
      let t := replaceKey k s
      requestCommit .map [.eraseMap] { t with erase.stage := .waitMap }
    | .pub, _ => if j.mode = .full then setUpSweep j.pos e s else s
    | .priv, none => s

/-- A QUICK job for a PUBLIC region, for which R88 requests no commit, so that R89 ends it with its wait. Only a
restored record can hold one (R108). DEDUCED (assumption 35). -/
def endsAtOnce (s : State) (j : Job) : Bool :=
  j.mode == .quick && (s.entryAt j.pos).any (fun e => e.cls == .pub)

/-- The job at the head of the queue leaves it and a SWEEP commit is requested for the rest (R89, R99); the next job,
if there is one, waits for its region's count (R87). -/
def dropHead (rest : List Job) (s : State) : State :=
  let t := requestCommit .sweep [] { s with erase.queue := rest, erase.stage := .idle, erase.sweep := none }
  if rest.isEmpty then t else { t with erase.stage := .waitCount }

/-- Ends the wait of the first of the queued jobs when its region's in-flight count is 0; in FAULT the job stands
(R87, R90). -/
def runJobs : List Job → State → State
  | [], s => s
  | j :: rest, s =>
    if s.erase.stage = .waitCount ∧ s.filter.inFlight[j.pos] = 0 ∧ s.ctl.drive ≠ .fault then
      if endsAtOnce s j then runJobs rest (dropHead rest s) else runHead j s
    else s

/-- Ends the wait of the head job when its region's in-flight count is 0 (R87). -/
def headCheck (s : State) : State := runJobs s.erase.queue s

/-- The job at the head of the queue, if there is one, starts (R87). -/
def startHead (s : State) : State :=
  if s.erase.queue.isEmpty then { s with erase.stage := .idle }
  else headCheck { s with erase.stage := .waitCount }

/-- The head leaves the queue, a SWEEP commit is requested for the changed queue, the next job starts (R89, R99). -/
def headLeaves (s : State) : State := headCheck (dropHead s.erase.queue.tail s)

/-- The media test's drain has ended: quiesce lifted, RUNNING, the WRITE of pass 1 waits (R81). -/
def startTestRun (s : State) : State :=
  { s with
    filter.quiesce := .none
    cipher.test := { s.cipher.test with state := .running, waiting := some .write, run := s.cipher.test.run + 1 } }

/-- The filter tells the holder of a quiesce that the total in-flight count is 0 (R44). -/
def drainCheck (s : State) : State :=
  if s.filter.total ≠ 0 then s
  else match s.filter.quiesce with
    | .none => s
    | .apply =>
      match s.regions.snapshot with
      | some n => if n.swapped then s else swapTables n s
      | none => s
    | .test => if s.cipher.test.state = .draining then startTestRun s else s

/-- The reports that follow a fall of the in-flight counts (R64). -/
def notifyCounts (s : State) : State := headCheck (drainCheck s)

end Sys2Proof.Machine
end

