-- ==== Sys2Proof/Machine/Fragments.lean ====
section
/-! DEFINITION. Fragments and transactions after admission (chapter 3): in-flight counts, delivery of reads
(R61, R74, R76), ends of fragments, completion and replies, the issue queue, the release of HOLD pieces, the
end of durability waits. -/

namespace Sys2Proof.Machine

open Sys2Proof

/-! ### Finding and changing records -/

/-- The fragment of a name, with its transaction. -/
def State.findFrag (s : State) (id : Nat) : Option (Txn × Frag) :=
  s.filter.txns.findSome? (fun t => (t.frags.find? (fun g => g.id == id)).map (fun g => (t, g)))

/-- The admitted transaction of a name. -/
def State.findTxn (s : State) (id : Nat) : Option Txn := s.filter.txns.find? (fun t => t.id == id)

/-- Changes the transaction of a name. -/
def setTxn (id : Nat) (f : Txn → Txn) (s : State) : State :=
  { s with filter.txns := s.filter.txns.map (fun t => if t.id = id then f t else t) }

/-- Changes the fragment of a name. -/
def setFrag (id : Nat) (f : Frag → Frag) (s : State) : State :=
  { s with filter.txns := s.filter.txns.map (fun t =>
      { t with frags := t.frags.map (fun g => if g.id = id then f g else g) }) }

/-- Removes the record of a transaction. -/
def removeTxn (id : Nat) (s : State) : State :=
  { s with filter.txns := s.filter.txns.filter (fun t => t.id != id) }

/-- The first failure taken for a transaction sets its status; a later one leaves it (R54). -/
def Txn.fail (st : FrontStatus) (t : Txn) : Txn := if t.status = .good then { t with status := st } else t

/-- Data already decrypted for a transaction is discarded (R61). -/
def Txn.discardData (t : Txn) : Txn := { t with frags := t.frags.map (fun g => { g with plain := [] }) }

/-! ### In-flight counts (R64) -/

/-- A fragment leaves the counts: the total, and its region's count if it still counts there. -/
def lowerCounts (g : Frag) (s : State) : State :=
  { s with
    filter.total := s.filter.total - 1
    filter.inFlight :=
      match g.pos with
      | some p => if g.counted then s.filter.inFlight.set p (s.filter.inFlight[p] - 1) else s.filter.inFlight
      | none => s.filter.inFlight }

/-- An admitted fragment raises the counts. -/
def raiseCounts (g : Frag) (s : State) : State :=
  { s with
    filter.total := s.filter.total + 1
    filter.inFlight :=
      match g.pos with
      | some p => s.filter.inFlight.set p (s.filter.inFlight[p] + 1)
      | none => s.filter.inFlight }

/-! ### Delivery (R61, R74, R76) -/

/-- What a sector delivers: to a PUBLIC read its plain content, to a PRIVATE read under instance `j` the
plaintext encrypted under `j`; `none` is unrelated data (R74). The key that `j` stood for is compared too: a sector
stored under one key is never read back as if stored under another key of the same slot and generation (R70). DEDUCED
(assumption 37). -/
def deliverSector (key : Option KeyInstance) (c : Content) : Option Sector :=
  match key, c with
  | none, .plain p => some p
  | some j, .cipher i p => if i = j then some p else none
  | _, _ => none

/-- The sectors a READ fragment delivers from LBA `a` on: zeros in its zero set, else what each sector delivers,
unrelated data being the free values from index `n` on. Also the next index. -/
def deliver (key : Option KeyInstance) (zeros : List Range) : Nat → List Content → Nat → List Sector × Nat
  | _, [], n => ([], n)
  | a, c :: cs, n =>
    if zeros.any (fun z => z.has a) then
      let r := deliver key zeros (a + 1) cs n
      (0 :: r.1, r.2)
    else match deliverSector key c with
      | some p =>
        let r := deliver key zeros (a + 1) cs n
        (p :: r.1, r.2)
      | none =>
        let r := deliver key zeros (a + 1) cs (n + 1)
        (Config.unrelated n :: r.1, r.2)

/-- The sectors a media READ carries (R12): the controller's, or what the image held at the READ's issue. DESIGN
CHOICE (assumption 14). -/
def mediaSectors (d : MediaData) (c : Command) : List Content :=
  match d with
  | .asStored => c.data
  | .given l => (List.range c.range.len).map (fun k => l.getD k .unknown)

/-- The key check at delivery: the slot is OPEN at the generation taken at admission (R61, R76). -/
def keyCheck (s : State) (i : KeyInstance) : Bool :=
  s.cipher.slots[i.slot].state == .opened && s.cipher.slots[i.slot].gen == i.gen

/-! ### Ends of fragments and transactions -/

/-- The fragment ends: state, buffer of a write piece, counts and their reports (R53, R58, R64). -/
def endFrag (id : Nat) (st : FragState) (s : State) : State :=
  match s.findFrag id with
  | none => s
  | some (t, g) =>
    notifyCounts (lowerCounts g
      (setTxn t.id (fun t => { t with held := if t.kind = .write then t.held - g.range.len else t.held })
        (setFrag id (fun g => { g with state := st }) s)))

/-- The data of a READ that ends GOOD: delivered sectors, and zeros for ZERO fragments, in LBA order (R62). -/
def Txn.readData (t : Txn) : List Sector :=
  t.frags.flatMap (fun g => if g.kind = .zero then List.replicate g.range.len 0 else g.plain)

/-- The transaction is COMPLETE if R60, R62 or R63 says so: its reply is sent and its record removed (R54). A
dropped transaction whose last issued fragment has ended is removed without a reply (R19). -/
def completeTxn (id : Nat) (s : State) : State :=
  match s.findTxn id with
  | none => s
  | some t =>
    if !t.frags.all Frag.ended then s
    else if t.dropped then removeTxn id s
    else if t.kind = .write ∧ t.status = .good ∧ t.waiting then s
    else endReply t.tag t.status none (if t.kind = .read ∧ t.status = .good then t.readData else [])
      (removeTxn id s)

/-- The completion of a READ fragment (R61). -/
def readResult (t : Txn) (g : Frag) (ok : Bool) (data : List Content) (s : State) : State :=
  if !ok then
    endFrag g.id .failed (setTxn t.id (fun t => (t.fail .mediaError).discardData) s)
  else if t.status ≠ .good then
    endFrag g.id (if g.key.isNone then .done else .failed) s
  else if g.key.all (keyCheck s) then
    let r := deliver g.key g.zeros g.range.lo data s.counters.unrelated
    endFrag g.id .done (setFrag g.id (fun g => { g with plain := r.1 }) { s with counters.unrelated := r.2 })
  else
    endFrag g.id .failed (setTxn t.id (fun t => (t.fail .locked).discardData) s)

/-- The media port gives a fragment its result (R58, R61, R63); a dropped fragment's result is discarded (R19). -/
def fragResult (id : Nat) (ok : Bool) (data : List Content) (s : State) : State :=
  match s.findFrag id with
  | none => s
  | some (t, g) =>
    completeTxn t.id
      (if t.dropped then endFrag id (if ok then .done else .failed) s
       else if t.kind = .read then readResult t g ok data s
       else if ok then endFrag id .done s
       else endFrag id .failed (setTxn t.id (Txn.fail .mediaError) s))

/-! ### The issue queue (R55) -/

/-- A fragment joins the tail of the issue queue; while the media stays NOT_READY with the link ATTACHED it fails
at once instead. -/
def joinIssue (id : Nat) (s : State) : State :=
  if s.media.state = .notReady ∧ s.front.link = .attached then fragResult id false [] s
  else { s with filter.issueQ := s.filter.issueQ ++ [id] }

/-- A write piece joins once it is PASS and all of its data has been pulled. -/
def joinIfPulled (id : Nat) (s : State) : State :=
  match s.findFrag id with
  | none => s
  | some (_, g) => if g.kind = .pass ∧ g.state = .waiting ∧ g.pulled then joinIssue id s else s

/-- When a sizing ends with the media NOT_READY, each entry then in the issue queue fails (R55), from head to tail.
DESIGN CHOICE (assumption 34). -/
def failIssueQueue (s : State) : State :=
  s.filter.issueQ.foldl (fun s id => fragResult id false [] s) { s with filter.issueQ := [] }

/-- The HOLD pieces over the chunk of a serial number are released as PASS and join the issue queue once pulled,
in the order of their transactions' admission (R55, R57). -/
def releaseHolds (serial : Nat) (s : State) : State :=
  let ids := s.filter.txns.flatMap (fun t =>
    (t.frags.filter (fun g => g.kind == .hold serial)).map Frag.id)
  ids.foldl (fun s id => joinIfPulled id (setFrag id (fun g => { g with kind := .pass }) s)) s

/-! ### Durability waits (R59, R60) -/

/-- Whether an addition was made before a commit's start, by the count noted for it (R102). -/
def addedBefore (noted a : BitVec 32) : Bool := decide ((noted - a).toNat < 2147483648)

/-- Whether a SWEEP commit completion ends the durability wait of a transaction (R59). -/
def waitEnds (checkpoint : Option Nat) (noted : BitVec 32) (t : Txn) : Bool :=
  (match t.addition with | some a => addedBefore noted a | none => false) ||
  (match checkpoint, t.recorded with | some c, some r => decide (r.hi ≤ c) | _, _ => false)

/-- Ends the durability waits that a condition picks, and completes what is then COMPLETE (R59, R60), in the order of
admission. DESIGN CHOICE (assumption 34). -/
def endWaits (picks : Txn → Bool) (s : State) : State :=
  let ids := (s.filter.txns.filter (fun t => t.waiting && picks t)).map Txn.id
  ids.foldl (fun s id => completeTxn id (setTxn id (fun t => { t with waiting := false }) s)) s

/-- At entry into FAULT every WRITE still GOOD whose wait has not ended takes NOT_READY (R60), in the order of
admission. DESIGN CHOICE (assumption 34). -/
def faultWaits (s : State) : State :=
  let ids := (s.filter.txns.filter (fun t => t.kind == .write && t.waiting && t.status == .good && !t.dropped)).map Txn.id
  ids.foldl (fun s id => completeTxn id (setTxn id (Txn.fail .notReady) s)) s

end Sys2Proof.Machine
end

