-- ==== Sys2Proof/Machine/Sweeping.lean ====
section
/-! DEFINITION. The sweep after it has started (chapter 5): readiness and finish, results of chunks, cancelling,
the end, the keep list's additions, detach and changes of U, clearing; and the media test's results (R82, R83). -/

namespace Sys2Proof.Machine

open Sys2Proof

/-! ### Finishing and ending -/

/-- Changes the sweep context. -/
def setSweep (f : Sweep → Sweep) (s : State) : State := { s with erase.sweep := s.erase.sweep.map f }

/-- The phase becomes ENDING with an outcome and a SWEEP commit is requested (R96, R98, R100). -/
def beginEnding (r : SweepResult) (s : State) : State :=
  requestCommit .sweep [] (setSweep (fun x => { x with phase := .ending, outcome := r }) s)

/-- The sweep finishes when no sector is left below L, in phase RUNNING with no chunk in flight (R92, R98). While
the media is not READY, L has no value and nothing is decided; in FAULT the phase stands (R110). DEDUCED
(assumption 20). -/
def sweepDecide (s : State) : State :=
  match s.sweeping with
  | none => s
  | some x =>
    match s.sweepLimit x.pos with
    | none => s
    | some l =>
      if s.ctl.drive ≠ .fault ∧ x.phase = .running ∧ x.chunk = none ∧ l ≤ stepOver x.keep x.q then
        beginEnding .done s
      else s

/-- The sweep ends: result recorded, context cleared, the head leaves the queue (R99). -/
def endSweep (x : Sweep) (s : State) : State :=
  headLeaves { s with erase.lastResult := x.outcome }

/-- The chunk in flight, if there is one, is dropped: q returns to w (R91, R96, R109, R110). -/
def dropChunk (s : State) : State :=
  setSweep (fun x => { x with q := x.w, chunk := none }) s

/-- Releases the HOLD pieces over the chunk in flight (R57). -/
def releaseChunkHolds (s : State) : State :=
  match s.erase.sweep.bind Sweep.chunk with
  | some k => releaseHolds k.serial s
  | none => s

/-- The cancellation takes effect: HOLD pieces released, outcome CANCELLED, phase ENDING (R100). -/
def cancelNow (s : State) : State := beginEnding .cancelled (dropChunk (releaseChunkHolds s))

/-! ### Chunks -/

/-- The OK of the chunk in flight (R94). In FAULT w moves and the HOLD pieces are released, and no more (R110). -/
def chunkOk (x : Sweep) (s : State) : State :=
  let t := releaseChunkHolds s
  let t := setSweep (fun x => { x with w := x.q, chunk := none, retry := 0 }) t
  let t := if Config.checkpointStep ≤ x.q - x.c then requestCommit .sweep [] t else t
  if s.ctl.drive = .fault then t
  else if x.phase = .cancelling then beginEnding .cancelled t
  else sweepDecide t

/-- The FAIL of the chunk in flight (R95, R96, R100). In FAULT it leads to no retry (R110). -/
def chunkFail (x : Sweep) (k : Chunk) (s : State) : State :=
  if s.ctl.drive = .fault then
    setSweep (fun x => { x with chunk := some { k with onTag := false } }) (releaseChunkHolds s)
  else if x.phase = .cancelling then cancelNow s
  else if x.retry < Config.retryMax then
    setSweep (fun x => { x with retry := x.retry + 1, chunk := some { k with onTag := false } }) s
  else beginEnding (.failed x.w) (dropChunk (releaseChunkHolds s))

/-- The media port gives a chunk its result. A chunk that the context no longer holds only releases its HOLD
pieces (R111). -/
def chunkResult (serial : Nat) (ok : Bool) (s : State) : State :=
  match s.erase.sweep with
  | none => releaseHolds serial s
  | some x =>
    match x.chunk with
    | none => releaseHolds serial s
    | some k =>
      if k.serial ≠ serial then releaseHolds serial s
      else if ok then chunkOk x s
      else chunkFail x k s

/-- The least end a new chunk from `q` on may have: q + S, the first keep range above q, the region end and U (R93). -/
def chunkEnd (s : State) (x : Sweep) (q : Nat) : Nat :=
  min (nextKeepStart q (q + chunkSize s.store.effective.chunk) x.keep)
    (min (s.regionEnd x.pos) (s.uSpan.getD 0))

/-- The grant of a ready chunk forms its range; a retry keeps the range it has (R93, R95). -/
def formChunk (x : Sweep) (s : State) : Sweep × Nat :=
  match x.chunk with
  | some k => ({ x with chunk := some { k with onTag := true } }, k.serial)
  | none =>
    let q := stepOver x.keep x.q
    ({ x with w := q, q := chunkEnd s x q, chunk := some ⟨s.erase.chunks, true⟩, retry := 0 }, s.erase.chunks)

/-! ### Additions, detach, media events, wipe -/

/-- A recorded range joins K, the addition is counted, a SWEEP commit is requested, readiness is decided (R102). -/
def addKeep (r : Range) (s : State) : State :=
  sweepDecide (requestCommit .sweep []
    { s with
      erase.sweep := s.erase.sweep.map (fun x => { x with keep := keepMerge r x.keep })
      erase.additions := s.erase.additions + 1 })

/-- DETACH abandons the chunk in flight; in phase CANCELLING the cancellation takes effect (R109, R100). A chunk
whose retry waits goes too: DEDUCED (assumption 20). -/
def detachSweep (s : State) : State :=
  match s.erase.sweep with
  | none => s
  | some x =>
    let t := setSweep (fun x => { x with q := x.w, chunk := none, retry := 0 }) s
    if x.phase = .cancelling ∧ s.ctl.drive ≠ .fault then beginEnding .cancelled t else t

/-- The media is READY with a new U: a waiting retry whose end lies above U is dropped, then readiness is decided
(R110). -/
def sweepAtReady (s : State) : State :=
  match s.sweeping, s.uSpan with
  | some x, some u =>
    match x.chunk with
    | some k =>
      if !k.onTag ∧ u < x.q ∧ s.ctl.drive ≠ .fault then
        sweepDecide (setSweep (fun x => { x with retry := 0 }) (dropChunk (releaseHolds k.serial s)))
      else s
    | none => sweepDecide s
  | _, _ => s

/-- HOLD pieces over a chunk in flight with no command on a tag are released, at entry into FAULT and at the start
of a full wipe (R110, R111). -/
def releaseIdleHolds (s : State) : State :=
  match s.erase.sweep.bind Sweep.chunk with
  | some k => if k.onTag then s else releaseHolds k.serial s
  | none => s

/-! ### The media test (R82, R83) -/

/-- The test ends ABORTED: a quiesce it still holds is lifted, a waiting command is withdrawn (R83). -/
def abortTest (s : State) : State :=
  if s.testBusy then
    { s with
      cipher.test := { s.cipher.test with state := .aborted, waiting := none }
      filter.quiesce := if s.filter.quiesce = .test then .none else s.filter.quiesce }
  else s

/-- How many sectors read back differ from the pattern of pass `p`, from scratch sector `i` on; content that is not
plain reads as unrelated data, the free values from index `n` on (R82, R74). Also the next index. -/
def countMismatches (p : Nat) : Nat → List Content → Nat → Nat × Nat
  | _, [], n => (0, n)
  | i, c :: cs, n =>
    match c with
    | .plain x =>
      let r := countMismatches p (i + 1) cs n
      ((if x = testPattern p i then 0 else 1) + r.1, r.2)
    | _ =>
      let r := countMismatches p (i + 1) cs (n + 1)
      ((if Config.unrelated n = testPattern p i then 0 else 1) + r.1, r.2)

/-- A pass ends: passes done rises; at N the test is DONE, else the next pass's WRITE waits (R82, R83). -/
def endPass (s : State) : State :=
  let t := s.cipher.test
  if t.done + 1 = t.requested then
    { s with cipher.test := { t with done := t.done + 1, state := .done, waiting := none } }
  else { s with cipher.test := { t with done := t.done + 1, waiting := some .write } }

/-- The media port gives a test command its result; a command of a run that has ended is discarded (R82, R83). -/
def testResult (run : Nat) (kind : Kind) (ok : Bool) (data : List Content) (s : State) : State :=
  let t := s.cipher.test
  if t.state ≠ .running ∨ t.run ≠ run then s
  else if kind = .write then
    { s with cipher.test := { t with errors := if ok then t.errors else t.errors + 1, waiting := some .read } }
  else if ok then
    let r := countMismatches (t.done + 1) 0 data s.counters.unrelated
    endPass { s with
      cipher.test := { t with mismatched := min (t.mismatched + r.1) 65535 }
      counters.unrelated := r.2 }
  else endPass { s with cipher.test := { t with errors := t.errors + 1 } }

end Sys2Proof.Machine
end

