-- ==== Sys2Proof/Machine/Lifecycle.lean ====
section
/-! DEFINITION. The lock controller's events (chapter 8): lock, opening, entry into FAULT, the start of a full wipe
and its commit sequence. -/

namespace Sys2Proof.Machine

open Sys2Proof

/-! ### Locking and opening -/

/-- What a lock does to an enrollment with origin OPEN: discarded with CANCELLED, or, in COMMITTING, left to
complete (R139, R163). -/
def cancelEnrollAtLock (s : State) : State :=
  match s.cred.enroll with
  | none => s
  | some e =>
    if e.origin ≠ .opened then s
    else if e.step = .committing then { s with cred.enroll := some { e with cancelled := true } }
    else endCollection { s with cred.enroll := none, cred.lastEnroll := .cancelled }

/-- A lock (R163). -/
def lockDrive (s : State) : State :=
  setDrive .locked
    (cancelEnrollAtLock
      { closeSlots s with ctl.openProfile := none, ctl.window := none, ctl.inactivity := none })

/-- A lock trigger locks the drive in the states of R162 and changes nothing elsewhere. -/
def lockTrigger (s : State) : State := if s.lockable then lockDrive s else s

/-- A profile is opened (R157); `accept` is an opening after a matching PIN. -/
def openDrive (p : ProfIx) (accept : Bool) (s : State) : State :=
  if s.ctl.drive = .fault ∨ s.ctl.drive = .wiping then s
  else
    let t := openSlots p { s with ctl.openProfile := some p }
    let t := if t.ctl.attached then startInactivity t else { t with ctl.window := some Config.attachWindowMs }
    let t := setDrive .opened t
    if accept then requestOneShot .accept t else t

/-! ### FAULT (R170, R171) -/

/-- What an entry into FAULT leaves of the comparison in progress: that of an evaluation goes with its candidate's
digits (R147); that of an enrollment runs on, and its result is discarded (R132, R139). DEDUCED (assumption 18). -/
def faultComparison (c : Option Comparison) : Option Comparison := c.filter (fun c => c.purpose != .evaluation)

/-- Entry into FAULT; a report taken in FAULT leaves the cause as it stands. The open durability waits take NOT_READY
(R60) before the HOLD pieces are released (R110), so that no piece that then fails at once gives MEDIA_ERROR first.
DEDUCED (assumption 33). -/
def enterFault (c : FaultCause) (s : State) : State :=
  if s.ctl.drive = .fault then s
  else
    let t := { closeSlots s with
      ctl.openProfile := none, ctl.window := none, ctl.inactivity := none, ctl.cause := some c,
      ctl.wipeStep := none, cred.backoff := none, cred.eval := none, cred.enroll := none,
      cred.comparison := faultComparison s.cred.comparison }
    releaseIdleHolds (faultWaits (abortTest (endApply (endCollection (setDrive .fault t)))))

/-! ### The full wipe (R166, R167) -/

/-- A key slot at the wipe's start (R72, R166). -/
def wipeSlot (k : KeySlot) : KeySlot :=
  if k.key.isSome then ⟨.empty, none, nextGen k.gen, 0⟩ else k

/-- The erase engine's work is cleared (R111, R112). -/
def clearErase (s : State) : State :=
  { s with
    erase.queue := [], erase.stage := .idle, erase.sweep := none,
    erase.lastResult := .none, erase.additions := 0 }

/-- The count of additions is about to become 0 (R112): the addition numbers held, and the count noted for a commit in
progress, keep their distance from it, so that a commit still counts as started after an addition exactly if it was
(R59, R102). DEDUCED (assumption 19). -/
def rebaseAdditions (s : State) : State :=
  { s with
    filter.txns := s.filter.txns.map (fun t => { t with addition := t.addition.map (fun a => a - s.erase.additions) })
    store.busy := s.store.busy.map (fun c => { c with additions := c.additions - s.erase.additions }) }

/-- Every per-region count becomes 0, and a fragment admitted before lowers only the total when it ends (R64). -/
def clearRegionCounts (s : State) : State :=
  { s with
    filter.inFlight := Vector.replicate 16 0
    filter.txns := s.filter.txns.map (fun t =>
      { t with frags := t.frags.map (fun g => { g with counted := false }) }) }

/-- An enrollment is discarded with result CANCELLED (R139). -/
def cancelEnrollAtWipe (s : State) : State :=
  if s.cred.enroll.isSome then { s with cred.enroll := none, cred.lastEnroll := .cancelled } else s

/-- The region map and the key slots at the wipe's start: empty table, keys destroyed, epoch raised, pending table a
copy of the empty table, an apply discarded (R166). -/
def wipeTable (s : State) : State :=
  endApply (copyPending { s with
    regions.table := []
    regions.epoch := s.regions.epoch + 1
    cipher.slots := s.cipher.slots.map wipeSlot })

/-- The start of a full wipe (R166); a trigger that finds WIPING or FAULT has no effect (R165). -/
def startWipe (s : State) : State :=
  if s.ctl.drive = .fault ∨ s.ctl.drive = .wiping then s
  else
    let t := { closeSlots s with
      ctl.openProfile := none, ctl.window := none, ctl.inactivity := none,
      ctl.wipeStep := some 1, ctl.wipeFlag := true, cred.backoff := none, cred.eval := none }
    let t := setDrive .wiping t
    let t := clearErase (rebaseAdditions (releaseIdleHolds t))
    let t := clearRegionCounts (abortTest (wipeTable t))
    requestCommit .map [.wipe 1] (endCollection (cancelEnrollAtWipe t))

/-- The profile of a PROFILE step of the sequence: steps 3 to 10 are PROFILE0 to PROFILE7 (R167). -/
def wipeProfile (k : Nat) : ProfIx := Fin.ofNat 8 (k - 3)

/-- The lock controller goes on to step `k` of the sequence and requests its commit (R167). -/
def wipeRequest (k : Nat) (s : State) : State :=
  let s := { s with ctl.wipeStep := some k }
  match k with
  | 2 => requestCommit .sweep [.wipe 2] s
  | 11 => requestCommit .attempts [.wipe 11] { s with cred.n := 0 }
  | 12 => requestCommit .map [.wipe 12] { s with ctl.wipeFlag := false }
  | k => requestCommit (.profile (wipeProfile k)) [.wipe k] s

/-- The commit of step `k` has completed: its change is made and the next step follows (R167). The durability
waits: DEDUCED (assumption 19). -/
def wipeStepDone (k : Nat) (s : State) : State :=
  if s.ctl.wipeStep ≠ some k then s
  else match k with
    | 1 =>
      wipeRequest 2 { s with
        cred.profiles := Vector.replicate 8 none
        cred.removal := Vector.replicate 8 false
        cred.lastEnroll := .none }
    | 2 => wipeRequest 3 (endWaits (fun _ => true) s)
    | 12 => setDrive .factory { s with ctl.wipeStep := none }
    | k => wipeRequest (k + 1) s

end Sys2Proof.Machine
end

