-- ==== Sys2Proof/Machine/Admission.lean ====
section
/-! DEFINITION. Admission (chapter 3): the drive-level check, the cut of R46 to R50, the verdict, and the rows
ADMISSION and WRITE_DATA_SECTOR. -/

namespace Sys2Proof.Machine

open Sys2Proof

/-! ### Step 1: the split (R46) -/

/-- A part of a request after step 1. -/
inductive Part where
  | beyond (r : Range)
  | gap (r : Range)
  | segment (p : Pos) (e : Entry) (r : Range)
deriving DecidableEq, Repr

/-- The range of a list item, kept only if it is not empty. -/
def partIf (r : Range) (x : Part) : List Part := if r.lo < r.hi then [x] else []

/-- [a, b) split at the entries from position `p` on. -/
def splitTable (a b : Nat) : Nat → List Entry → List Part
  | _, [] => partIf ⟨a, b⟩ (.gap ⟨a, b⟩)
  | p, e :: es =>
    partIf ⟨a, min b e.base⟩ (.gap ⟨a, min b e.base⟩) ++
      partIf ⟨max a e.base, min b e.stop⟩ (.segment (Fin.ofNat 16 p) e ⟨max a e.base, min b e.stop⟩) ++
      splitTable (max a e.stop) b (p + 1) es

/-- A request's range split at U and at the entries of the active table, in LBA order. -/
def splitRequest (u : Nat) (t : List Entry) (r : Range) : List Part :=
  splitTable r.lo (min r.hi u) 0 t ++ partIf ⟨max r.lo u, r.hi⟩ (.beyond ⟨max r.lo u, r.hi⟩)

/-! ### Steps 2 and 3 (R47 to R50) -/

/-- Whether the key slot that an entry names is OPEN (R47). -/
def slotOpen (s : State) (e : Entry) : Bool :=
  match e.slot with
  | some k => s.cipher.slots[k].state == .opened
  | none => false

/-- Whether the open profile is of kind READER (R47). -/
def State.readerOpen (s : State) : Bool :=
  match s.ctl.openProfile with
  | some q => s.cred.profiles[q].any (fun x => x.kind == .reader)
  | none => false

/-- The checks of step 2 on a region segment (R47). -/
def segmentStatus (s : State) (k : Kind) (p : Pos) (e : Entry) : Option FrontStatus :=
  if e.cls = .priv ∧ slotOpen s e = false then
    some (if s.ctl.openProfile.isNone then .locked else .noAccess)
  else if (k = .write ∨ k = .discard) ∧
      (e.cls = .pub ∨ e.writable = false ∨ s.readerOpen) then some .readOnly
  else if s.eraseState p = .erasePending then some .eraseBusy
  else none

/-- What a segment that passes becomes: its fragments and the recorded range handed to the erase engine. -/
structure Pieces where
  frags    : List Frag
  recorded : Option Range
deriving DecidableEq, Repr

/-- A fragment as it is made at admission (R51, R53, R75): ZERO and SKIP are DONE, the others WAIT; a WRITE piece
takes a working key. -/
def newFrag (s : State) (k : Kind) (p : Pos) (e : Entry) (kind : FragKind) (recorded : Bool) (zeros : List Range)
    (r : Range) : Frag :=
  { id := 0, range := r, kind := kind, recorded := recorded, pos := some p, key := s.instanceOf e, zeros := zeros
    state := (match kind with | .zero | .skip => .done | _ => .waiting)
    workKey := (match k, s.instanceOf e with | .write, some i => s.cipher.slots[i.slot].key | _, _ => none)
    stored := [], plain := [], counted := true }

/-- One fragment, unless its range is empty. -/
def fragIf (f : Range → Frag) (r : Range) : List Frag := if r.lo < r.hi then [f r] else []

/-- Step 3 for a READ segment of the sweeping region (R48). -/
def cutRead (s : State) (p : Pos) (e : Entry) (x : Sweep) (r : Range) : Pieces :=
  let z := subtractKeep (max r.lo x.w) r.hi x.keep
  if z = [] then ⟨[newFrag s .read p e .pass false [] r], none⟩
  else if z = [r] then ⟨[newFrag s .read p e .zero false [] r], none⟩
  else ⟨[newFrag s .read p e .masked false z r], none⟩

/-- Step 3 for a WRITE segment of the sweeping region (R49); `none` is the ERASE_BUSY of a full keep list. -/
def cutWrite (s : State) (p : Pos) (e : Entry) (x : Sweep) (r : Range) : Option Pieces :=
  let below := fragIf (newFrag s .write p e .pass false []) ⟨r.lo, min r.hi x.c⟩
  let rec_ : Range := ⟨max r.lo x.c, r.hi⟩
  if rec_.hi ≤ rec_.lo then some ⟨below, none⟩
  else if Config.keepMax < (keepMerge rec_ x.keep).length then none
  else
    let hold : FragKind := .hold ((x.chunk.map Chunk.serial).getD 0)
    some ⟨below ++
      fragIf (newFrag s .write p e .pass true []) ⟨rec_.lo, min r.hi x.w⟩ ++
      fragIf (newFrag s .write p e hold true []) ⟨max r.lo x.w, min r.hi x.q⟩ ++
      fragIf (newFrag s .write p e .pass true []) ⟨max rec_.lo x.q, r.hi⟩, some rec_⟩

/-- Step 3 for a DISCARD segment of the sweeping region (R50). -/
def cutDiscard (s : State) (p : Pos) (e : Entry) (x : Sweep) (r : Range) : Pieces :=
  ⟨fragIf (newFrag s .discard p e .pass false []) ⟨r.lo, min r.hi x.w⟩ ++
    fragIf (newFrag s .discard p e .skip false []) ⟨max r.lo x.w, r.hi⟩, none⟩

/-- The status of a gap piece (R46). -/
def gapStatus (s : State) : FrontStatus :=
  if s.ctl.drive = .factory ∨ s.enrollingFrom .factory then .locked else .noAccess

/-- A region segment after steps 2 and 3: its failing status, or its pieces. -/
def cutSegment (s : State) (k : Kind) (p : Pos) (e : Entry) (r : Range) : Except FrontStatus Pieces :=
  match segmentStatus s k p e with
  | some st => .error st
  | none =>
    match (if s.eraseState p = .sweeping then s.erase.sweep else none), k with
    | some x, .read => .ok (cutRead s p e x r)
    | some x, .write =>
      match cutWrite s p e x r with
      | some y => .ok y
      | none => .error .eraseBusy
    | some x, .discard => .ok (cutDiscard s p e x r)
    | _, _ => .ok ⟨[newFrag s k p e .pass false [] r], none⟩

/-- A part after steps 1 to 3. -/
def cutPart (s : State) (k : Kind) : Part → Except FrontStatus Pieces
  | .beyond _ => .error .outOfRange
  | .gap _ => .error (gapStatus s)
  | .segment p e r => cutSegment s k p e r

/-- The whole cut of a request, part by part in LBA order. -/
def cutRequest (s : State) (k : Kind) (r : Range) : List (Except FrontStatus Pieces) :=
  (splitRequest (s.uSpan.getD 0) s.regions.table r).map (cutPart s k)

/-! ### Step 4: the verdict (R51) -/

/-- The status of the failing part whose first LBA is lowest, if a part fails. -/
def firstFailure : List (Except FrontStatus Pieces) → Option FrontStatus
  | [] => none
  | .error st :: _ => some st
  | .ok _ :: l => firstFailure l

/-- The pieces of the parts that pass. -/
def passedPieces : List (Except FrontStatus Pieces) → List Pieces
  | [] => []
  | .error _ :: l => passedPieces l
  | .ok p :: l => p :: passedPieces l

/-- Gives fragments their names, from `n` on. -/
def nameFrags : Nat → List Frag → List Frag
  | _, [] => []
  | n, g :: gs => { g with id := n } :: nameFrags (n + 1) gs

/-- The verdict's effects of admission, for a transaction with its fragments (R51). The counts of ZERO and SKIP
fragments rise and fall at once (R64). DESIGN CHOICE (assumption 25). -/
def admitWith (t : Txn) (frags : List Frag) (recorded : Option Range) (s : State) : State :=
  let frags := nameFrags s.counters.ids frags
  let t : Txn := { t with
    state := .admitted, frags := frags, status := .good
    held := if t.kind = .read ∨ t.kind = .write then t.need else 0
    waiting := recorded.isSome, recorded := recorded
    addition := recorded.map (fun _ => s.erase.additions + 1) }
  let s1 := { s with
    filter.txns := s.filter.txns ++ [t]
    counters.ids := s.counters.ids + frags.length }
  let s2 := (frags.filter (fun g => g.state == .waiting)).foldl (fun s g => raiseCounts g s) s1
  let s3 := match recorded with
    | some r => addKeep r s2
    | none => s2
  let s4 :=
    if t.kind = .write then s3
    else (frags.filter (fun g => g.state == .waiting)).foldl (fun s g => joinIssue g.id s) s3
  completeTxn t.id s4

/-- The refusal of a transaction: one reply, no data, nothing else (R45, R51). -/
def refuse (t : Txn) (st : FrontStatus) (s : State) : State := endReply t.tag st none [] s

/-- The fragment of a forwarded SYNC (R63). The empty range: DESIGN CHOICE (assumption 25). -/
def syncFrag : Frag :=
  { id := 0, range := ⟨0, 0⟩, kind := .pass, recorded := false, pos := none, key := none, zeros := [],
    state := .waiting, workKey := none, stored := [], plain := [], counted := true }

/-- The drive-level check for READ, WRITE, DISCARD and SYNC (R45). -/
def driveRefuses (s : State) : Bool :=
  s.ctl.drive == .wiping || s.ctl.drive == .fault || s.media.state != .ready || s.testRunning

/-- The admission of one transaction, taken whole (R42, R45 to R51, R63). -/
def admitTxn (t : Txn) (s : State) : State :=
  match t.kind with
  | .size =>
    if s.media.state = .ready then endReply t.tag .good s.uSpan [] s else endReply t.tag .notReady none [] s
  | .sync => if driveRefuses s then refuse t .notReady s else admitWith t [syncFrag] none s
  | k =>
    if driveRefuses s then refuse t .notReady s
    else
      let parts := cutRequest s k t.range
      match firstFailure parts with
      | some st => refuse t st s
      | none =>
        let l := passedPieces parts
        admitWith t (l.flatMap Pieces.frags) (l.findSome? Pieces.recorded) s

/-- The conditions under which the filter takes a head that needs `n` sectors (R42). -/
def State.admits (s : State) (n : Nat) : Bool :=
  s.filter.quiesce == .none && s.cipher.run.isNone && decide (n ≤ s.bufferFree)

/-- ADMISSION (R42). An empty queue, or a head that the conditions hold, leaves everything as it stands. -/
def execAdmission (s : State) : Host.Outcome State Fault Refusal :=
  .next (match s.filter.queue with
    | [] => s
    | t :: rest => if s.admits t.need then admitTxn t { s with filter.queue := rest } else s)

/-! ### Pulling a WRITE's data (R10, R56, R75) -/

/-- The WRITE whose data is being pulled: the first in order of admission with data still to come (R10). DEDUCED
(assumption 24). -/
def State.pulling (s : State) : Option Txn :=
  s.filter.txns.find? (fun t => t.kind == .write && !t.dropped && decide (t.pulled < t.range.len))

/-- A sector in the form it takes on the media, under the piece's key instance (R56, R75). -/
def mediaForm (key : Option KeyInstance) (x : Sector) : Content :=
  match key with
  | some i => .cipher i x
  | none => .plain x

/-- A sector pulled into a piece; the working key goes with the last one (R75). -/
def storeSector (x : Sector) (g : Frag) : Frag :=
  { g with
    stored := g.stored ++ [mediaForm g.key x]
    workKey := if g.stored.length + 1 = g.range.len then none else g.workKey }

/-- One sector of a transaction's data arrives (R56). -/
def pullSector (t : Txn) (x : Sector) (s : State) : State :=
  match t.frags.find? (fun g => g.range.has (t.range.lo + t.pulled)) with
  | none => s
  | some g => joinIfPulled g.id (setFrag g.id (storeSector x) (setTxn t.id (fun t => { t with pulled := t.pulled + 1 }) s))

/-- WRITE_DATA_SECTOR (R56). -/
def execWriteDataSector (x : Sector) (s : State) : Host.Outcome State Fault Refusal :=
  .next (match s.pulling with
    | some t => pullSector t x s
    | none => s)

end Sys2Proof.Machine
end

