-- ==== Sys2Proof/Machine/Credentials.lean ====
section
/-! DEFINITION. The credential unit's events (chapter 7): evaluation, comparison, outcomes, back-off, enrollment. -/

namespace Sys2Proof.Machine

open Sys2Proof

/-! ### Profiles and comparisons (R131, R132) -/

/-- Whether a candidate matches a profile: equal length, and the verifier derived with its salt is its verifier. -/
def Profile.accepts (p : Profile) (digits : List Digit) : Bool :=
  digits.length == p.pinLen && (⟨p.salt, digits⟩ : Verifier) == p.verifier

/-- The matching ACTIVE profile, leaving out one slot if asked (R132, R136). Of several profiles with equal PINs, which
only an older PROFILE copy current again can give (R192), the lowest slot: DESIGN CHOICE (assumption 39). -/
def matchProfile (profiles : Vector (Option Profile) 8) (leaveOut : Option ProfIx) (digits : List Digit) :
    Option ProfIx :=
  (List.finRange 8).find? (fun p =>
    leaveOut != some p && (match profiles[p] with | some x => x.accepts digits | none => false))

/-- A comparison starts (R132). -/
def startComparison (u : Purpose) (digits : List Digit) (s : State) : State :=
  { s with cred.comparison := some ⟨u, digits, Config.comparisonMs⟩ }

/-! ### Evaluation (R142 to R146) -/

/-- An entry is handed on: n rises, EVALUATING, the ATTEMPTS commit is requested (R142). -/
def startEvaluation (digits : List Digit) (s : State) : State :=
  requestCommit .attempts [.countAttempts]
    (setDrive .evaluating
      { s with cred.eval := some ⟨digits, .counting⟩, cred.n := min (s.cred.n + 1) 255 })

/-- The count is stored: the comparison of the candidate starts (R143). -/
def countStored (s : State) : State :=
  match s.cred.eval with
  | some e =>
    if e.phase = .counting then
      startComparison .evaluation e.digits { s with cred.eval := some { e with phase := .comparing } }
    else s
  | none => s

/-- The drive enters BACKOFF with the timer at the full d(n) (R149). -/
def enterBackoff (s : State) : State :=
  setDrive .backoff
    { s with cred.backoff := some (1000 * backoffSeconds s.store.effective.free s.cred.n) }

/-- A comparison of an evaluation ends (R144 to R146). -/
def evaluationResult (digits : List Digit) (s : State) : State :=
  match matchProfile s.cred.profiles none digits with
  | some p =>
    if (s.cred.profiles[p].map Profile.kind) = some .wipe then startWipe { s with cred.eval := none }
    else
      requestCommit .attempts [.resetAttempts]
        { s with cred.eval := some ⟨[], .resetting p⟩, cred.n := 0 }
  | none =>
    let t := { s with cred.eval := none }
    if s.store.effective.threshold ≠ 0 ∧ s.store.effective.threshold ≤ s.cred.n then startWipe t
    else if s.store.effective.free ≤ s.cred.n then requestOneShot .reject (enterBackoff t)
    else requestOneShot .reject (setDrive .locked t)

/-- The reset of n is stored: the matching profile is opened (R144). -/
def resetStored (s : State) : State :=
  match s.cred.eval with
  | some e =>
    match e.phase with
    | .resetting p => openDrive p true { s with cred.eval := none }
    | _ => s
  | none => s

/-! ### Enrollment (R133 to R139) -/

/-- An enrollment begins (R133, R134). -/
def startEnroll (target : ProfIx) (kind : ProfileKind) (o : Origin) (step : EnrollStep) (s : State) : State :=
  setDrive .enrolling
    { s with
      cred.enroll := some ⟨target, kind, o, step, [], false, false, false⟩
      cred.lastEnroll := .running }

/-- The drive state an enrollment's failure returns to (R138). -/
def Origin.drive : Origin → DriveState
  | .opened => .opened
  | .factory => .factory

/-- An enrollment fails (R138). -/
def failEnroll (e : Enroll) (r : EnrollResult) (s : State) : State :=
  setDrive e.origin.drive
    (requestOneShot .reject (endCollection { s with cred.enroll := none, cred.lastEnroll := r }))

/-- The first entry (R135). -/
def firstEntry (e : Enroll) (digits : List Digit) (s : State) : State :=
  if digits.length < s.store.effective.minPin then failEnroll e .short s
  else
    requestOneShot .enrollStep
      { s with cred.enroll := some { e with step := .waitSecond, first := digits },
               keypad.timer := some Config.entryMs }

/-- The second entry (R136). -/
def secondEntry (e : Enroll) (digits : List Digit) (s : State) : State :=
  if digits ≠ e.first then failEnroll e .mismatch s
  else if e.origin = .factory ∧ s.media.state ≠ .ready then failEnroll e .noMedia s
  else startComparison .duplicate e.first { s with cred.enroll := some { e with step := .testing } }

/-- The enrollment succeeds: record ACTIVE, PROFILE commit, default table for origin FACTORY (R137). -/
def succeedEnroll (e : Enroll) (digits : List Digit) (s : State) : State :=
  let t := requestCommit (.profile e.target) [.enrollProfile]
    { s with
      cred.profiles := s.cred.profiles.set e.target
        (some ⟨e.kind, digits.length, s.counters.salts, ⟨s.counters.salts, digits⟩⟩)
      cred.enroll := some { e with step := .committing, first := [], mapDone := e.origin == .opened }
      counters.salts := s.counters.salts + 1 }
  if e.origin = .factory then installDefault t else t

/-- The duplicate comparison ends (R136). -/
def duplicateResult (e : Enroll) (digits : List Digit) (s : State) : State :=
  match matchProfile s.cred.profiles (some e.target) digits with
  | some _ => failEnroll e .duplicate s
  | none =>
    if e.origin = .factory ∧ s.media.state ≠ .ready then failEnroll e .noMedia s
    else succeedEnroll e digits s

/-- Both commits have completed: the enrollment ends with OK (R137, R139). -/
def finishEnroll (e : Enroll) (s : State) : State :=
  let t := { s with cred.enroll := none, cred.lastEnroll := .ok }
  match e.origin, e.cancelled with
  | .opened, false => setDrive .opened t
  | .opened, true => t
  | .factory, false => openDrive 0 false t
  | .factory, true => setDrive .locked t

/-- A commit of an enrollment in COMMITTING has completed (R137). -/
def enrollStored (profile : Bool) (s : State) : State :=
  match s.cred.enroll with
  | none => s
  | some e =>
    if e.step ≠ .committing then s
    else
      let e := if profile then { e with profileDone := true } else { e with mapDone := true }
      if e.profileDone ∧ e.mapDone then finishEnroll e s else { s with cred.enroll := some e }

/-- The removal's PROFILE commit has completed (R140, R37). -/
def removalStored (r : ProfIx) (s : State) : State :=
  if s.cred.removal[r] then clearRemoved r { s with cred.removal := s.cred.removal.set r false } else s

/-- LOCK in an enrollment with origin FACTORY (R139). -/
def cancelFactoryEnroll (e : Enroll) (s : State) : State :=
  if e.step = .committing then { s with cred.enroll := some { e with cancelled := true } }
  else
    setDrive .factory (endCollection { s with cred.enroll := none, cred.lastEnroll := .cancelled })

end Sys2Proof.Machine
end

