-- ==== Sys2Proof/Machine/ControlWindow.lean ====
section
/-! DEFINITION. The control window (chapter 9): the taking of a request sector, the fourteen requests and their
rows. Each row is a window WRITE that carries a signed request sector of its code; FRONT_REQUEST_ARRIVAL
reaches the same takings through the request sector's bytes (R189). -/

namespace Sys2Proof.Machine

open Sys2Proof

/-- What a request's taking gives: result, payload from offset 8 on, state after its effect (R175). -/
abbrev Taken := Result × List Byte × State

/-- A request refused, or answered, without an effect. -/
def answer (r : Result) (s : State) : Taken := (r, [], s)

/-- In FAULT every request but STATUS is answered NOT_NOW before its owner's cases (R176). -/
def faultGate (take : State → Taken) (s : State) : Taken :=
  if s.ctl.drive = .fault then answer .notNow s else take s

/-- The taking of a correctly signed request: effect, response, GOOD (R175). -/
def respond (tag : Tag) (seq code : Byte) (take : State → Taken) (s : State) : State :=
  sendReply tag .good none []
    { (take s).2.2 with window.response := ⟨seq, code, (take s).1, (take s).2.1⟩ }

/-- The arrival of a window WRITE with a correctly signed request sector: the arrival is reported (R160), the tag
checked (R7), the request taken (R8, R175). Nothing arrives while the front link is DETACHED (R3). DEDUCED
(assumption 12). -/
def windowRequest (tag : Tag) (seq code : Byte) (take : State → Taken) (s : State) : State :=
  if s.front.link ≠ .attached then s
  else
    let s := reportArrival s
    if s.front.tags[tag] ≠ .free then sendReply tag .tagInUse none [] s
    else respond tag seq code take s

/-! ### The takings -/

/-- STATUS (R178). -/
def takeStatus (s : State) : Taken := (.ok, s.statusPayload, s)

/-- LOCK (R179, R162). -/
def takeLock (s : State) : Taken :=
  match s.ctl.drive with
  | .wiping => answer .notNow s
  | .entry => answer .ok (standbyCheck (setDrive .locked (endCollection s)))
  | _ => answer .ok (standbyCheck (lockTrigger s))

/-- READ_TABLE (R180). -/
def takeReadTable (s : State) : Taken :=
  if s.adminOpen then (.ok, s.tablePayload, s) else answer .denied s

/-- STAGE_REGION (R26, R181). -/
def takeStageRegion (position present cls writable slot : Byte) (base length : BitVec 32) (s : State) : Taken :=
  if !s.adminOpen then answer .denied s
  else match posOfByte position with
    | none => answer .badField s
    | some p =>
      if present = 0 then answer .ok { s with regions.pending := s.regions.pending.set p none }
      else match stagedEntry cls writable slot base length with
        | none => answer .badField s
        | some e => answer .ok { s with regions.pending := s.regions.pending.set p (some e) }

/-- SET_SLOT_MASK (R27, R181). -/
def takeSetSlotMask (slot mask : Byte) (s : State) : Taken :=
  if !s.adminOpen then answer .denied s
  else match slotOfByte slot with
    | none => answer .badField s
    | some k => answer .ok { s with regions.masks := s.regions.masks.set k mask }

/-- CLEAR_PENDING (R28). -/
def takeClearPending (s : State) : Taken :=
  if s.adminOpen then answer .ok (copyPending s) else answer .denied s

/-- APPLY_TABLE (R29, R32). -/
def takeApplyTable (s : State) : Taken :=
  if !s.adminOpen then answer .denied s
  else if s.regions.apply = .draining then answer .busy s
  else if !s.erase.queue.isEmpty then answer .busy s
  else if s.testBusy then answer .busy s
  else match validate s with
    | some (r, p) => (.invalidTable, [r.code, BitVec.ofNat 8 p], s)
    | none =>
      if applyExhausts s then answer .eraseLimit s
      else answer .accepted
        (drainCheck { s with
          regions.snapshot := some (takeSnapshot s), regions.apply := .draining, filter.quiesce := .apply })

/-- Whether another present entry names the key slot of the entry at a position (R86, case 3). -/
def sharesKey (s : State) (p : Pos) (e : Entry) : Bool :=
  e.slot.isSome && (List.finRange 16).any (fun p' =>
    p' != p && (match s.entryAt p' with | some e' => e'.slot == e.slot | none => false))

/-- Whether the entry is PRIVATE and its slot stands at the highest generation (R71, R86). -/
def atHighestGen (s : State) (e : Entry) : Bool :=
  match s.instanceOf e with
  | some i => i.gen == Config.maxGen
  | none => false

/-- ERASE_REGION's cases from case 3 on, for a region and a mode that pass case 2 (R86). -/
def acceptErase (p : Pos) (e : Entry) (m : EraseMode) (s : State) : Taken :=
  if sharesKey s p e then answer .sharedKey s
  else if s.erase.queue.any (fun j => j.pos == p) then answer .exists s
  else if Config.jobMax ≤ s.erase.queue.length ∨ s.regions.apply = .draining then answer .busy s
  else if atHighestGen s e then answer .eraseLimit s
  else
    let t := requestCommit .sweep [] { s with erase.queue := s.erase.queue ++ [⟨p, m⟩] }
    answer .accepted (if s.erase.queue.isEmpty then startHead t else t)

/-- ERASE_REGION (R86, R182). -/
def takeEraseRegion (position mode : Byte) (s : State) : Taken :=
  if !s.adminOpen then answer .denied s
  else match modeOfByte mode, posOfByte position with
    | some m, some p =>
      match s.entryAt p with
      | some e => if m = .quick ∧ e.cls = .pub then answer .badField s else acceptErase p e m s
      | none => answer .badField s
    | _, _ => answer .badField s

/-- CANCEL_SWEEP (R100). -/
def takeCancelSweep (s : State) : Taken :=
  if !s.adminOpen then answer .denied s
  else match s.sweeping with
    | none => answer .notNow s
    | some x =>
      if x.phase ≠ .running then answer .busy s
      else if x.chunk.any Chunk.onTag then answer .accepted (setSweep (fun x => { x with phase := .cancelling }) s)
      else answer .accepted (cancelNow s)

/-- Whether an ACTIVE profile other than `p` is of kind WIPE (R133, case 4). -/
def otherWipe (s : State) (p : ProfIx) : Bool :=
  (List.finRange 8).any (fun r => r != p && s.cred.profiles[r].any (fun x => x.kind == .wipe))

/-- ENROLL (R133, R183). -/
def takeEnroll (slot kind : Byte) (s : State) : Taken :=
  if !s.adminOpen then answer .denied s
  else if s.ctl.drive = .enrolling then answer .busy s
  else match slotOfByte slot, profileKindOfByte kind with
    | some p, some k =>
      if (k = .admin) ≠ (p = 0) then answer .badField s
      else if (p ≠ 0 ∧ s.cred.profiles[p].isSome) ∨ (k = .wipe ∧ otherWipe s p) then answer .exists s
      else if p ≠ 0 ∧ s.cred.removal[p] then answer .busy s
      else answer .accepted (startEnroll p k .opened .waitFirst s)
    | _, _ => answer .badField s

/-- REMOVE_PROFILE (R140, R183). -/
def takeRemoveProfile (slot : Byte) (s : State) : Taken :=
  if !s.adminOpen then answer .denied s
  else if s.ctl.drive = .enrolling then answer .busy s
  else match slotOfByte slot with
    | none => answer .badField s
    | some r =>
      if r = 0 ∨ s.cred.profiles[r].isNone then answer .badField s
      else if lastHolder s r then answer .lastHolder s
      else answer .accepted
        (requestCommit (.profile r) [.removal r]
          { s with cred.profiles := s.cred.profiles.set r none, cred.removal := s.cred.removal.set r true })

/-- SET_OPTIONS (R184). -/
def takeSetOptions (o : RawOptions) (s : State) : Taken :=
  if !s.adminOpen then answer .denied s
  else answer .accepted (requestCommit .options [] { s with window.staged := o })

/-- SELF_TEST CIPHER and CIPHER_INJECT (R79). -/
def takeSelfTestCipher (k : RunKind) (s : State) : Taken :=
  if s.ctl.drive = .wiping ∨ s.ctl.drive = .fault then answer .notNow s
  else if s.cipher.run.isSome then answer .busy s
  else answer .accepted { s with cipher.run := some ⟨k, Config.cipherTestMs⟩, cipher.result := .running }

/-- SELF_TEST MEDIA (R81). -/
def takeSelfTestMedia (passes : Byte) (s : State) : Taken :=
  if !s.adminOpen then answer .denied s
  else if passes = 0 then answer .badField s
  else if s.testBusy ∨ s.regions.apply = .draining then answer .busy s
  else if s.media.state ≠ .ready then answer .notNow s
  else answer .accepted
    (drainCheck { s with
      cipher.test := ⟨.draining, passes.toNat, 0, 0, 0, none, s.cipher.test.run⟩, filter.quiesce := .test })

/-- WIPE_ALL (R186). -/
def takeWipeAll (s : State) : Taken :=
  if s.adminOpen then answer .accepted (startWipe s) else answer .denied s

/-- The taking that a request sector's code and parameter bytes ask for (R176, R185, R189). -/
def takeSector (x : Sector) : State → Taken :=
  match (requestCode x).toNat with
  | 1 => takeStatus
  | 2 => faultGate takeLock
  | 3 => faultGate takeReadTable
  | 4 => faultGate (takeStageRegion (sectorByte x 8) (sectorByte x 9) (sectorByte x 10) (sectorByte x 11)
      (sectorByte x 12) (sectorWord x 16) (sectorWord x 20))
  | 5 => faultGate (takeSetSlotMask (sectorByte x 8) (sectorByte x 9))
  | 6 => faultGate takeClearPending
  | 7 => faultGate takeApplyTable
  | 8 => faultGate (takeEraseRegion (sectorByte x 8) (sectorByte x 9))
  | 9 => faultGate takeCancelSweep
  | 10 => faultGate (takeEnroll (sectorByte x 8) (sectorByte x 9))
  | 11 => faultGate (takeRemoveProfile (sectorByte x 8))
  | 12 => faultGate (takeSetOptions ⟨sectorByte x 8, sectorByte x 9, sectorByte x 10, sectorByte x 11,
      sectorByte x 12, sectorByte x 13⟩)
  | 13 =>
    match (sectorByte x 8).toNat with
    | 1 => faultGate (takeSelfTestCipher .plain)
    | 2 => faultGate (takeSelfTestCipher .inject)
    | 3 => faultGate (takeSelfTestMedia (sectorByte x 9))
    | _ => faultGate (answer .badField)
  | 14 => faultGate takeWipeAll
  | _ => answer .unknownRequest

/-! ### The rows -/

/-- STATUS (R178). -/
def execStatus (tag : Tag) (seq : Byte) (s : State) : Host.Outcome State Fault Refusal :=
  .next (windowRequest tag seq 0x01 takeStatus s)

/-- LOCK (R179). -/
def execLock (tag : Tag) (seq : Byte) (s : State) : Host.Outcome State Fault Refusal :=
  .next (windowRequest tag seq 0x02 (faultGate takeLock) s)

/-- READ_TABLE (R180). -/
def execReadTable (tag : Tag) (seq : Byte) (s : State) : Host.Outcome State Fault Refusal :=
  .next (windowRequest tag seq 0x03 (faultGate takeReadTable) s)

/-- STAGE_REGION (R26). -/
def execStageRegion (tag : Tag) (seq position present cls writable slot : Byte) (base length : BitVec 32)
    (s : State) : Host.Outcome State Fault Refusal :=
  .next (windowRequest tag seq 0x04 (faultGate (takeStageRegion position present cls writable slot base length)) s)

/-- SET_SLOT_MASK (R27). -/
def execSetSlotMask (tag : Tag) (seq slot mask : Byte) (s : State) : Host.Outcome State Fault Refusal :=
  .next (windowRequest tag seq 0x05 (faultGate (takeSetSlotMask slot mask)) s)

/-- CLEAR_PENDING (R28). -/
def execClearPending (tag : Tag) (seq : Byte) (s : State) : Host.Outcome State Fault Refusal :=
  .next (windowRequest tag seq 0x06 (faultGate takeClearPending) s)

/-- APPLY_TABLE (R29). -/
def execApplyTable (tag : Tag) (seq : Byte) (s : State) : Host.Outcome State Fault Refusal :=
  .next (windowRequest tag seq 0x07 (faultGate takeApplyTable) s)

/-- ERASE_REGION (R86). -/
def execEraseRegion (tag : Tag) (seq position mode : Byte) (s : State) : Host.Outcome State Fault Refusal :=
  .next (windowRequest tag seq 0x08 (faultGate (takeEraseRegion position mode)) s)

/-- CANCEL_SWEEP (R100). -/
def execCancelSweep (tag : Tag) (seq : Byte) (s : State) : Host.Outcome State Fault Refusal :=
  .next (windowRequest tag seq 0x09 (faultGate takeCancelSweep) s)

/-- ENROLL (R133). -/
def execEnroll (tag : Tag) (seq slot kind : Byte) (s : State) : Host.Outcome State Fault Refusal :=
  .next (windowRequest tag seq 0x0A (faultGate (takeEnroll slot kind)) s)

/-- REMOVE_PROFILE (R140). -/
def execRemoveProfile (tag : Tag) (seq slot : Byte) (s : State) : Host.Outcome State Fault Refusal :=
  .next (windowRequest tag seq 0x0B (faultGate (takeRemoveProfile slot)) s)

/-- SET_OPTIONS (R184). -/
def execSetOptions (tag : Tag) (seq minPin free threshold inactivity chunk pace : Byte) (s : State) :
    Host.Outcome State Fault Refusal :=
  .next (windowRequest tag seq 0x0C
    (faultGate (takeSetOptions ⟨minPin, free, threshold, inactivity, chunk, pace⟩)) s)

/-- SELF_TEST CIPHER (R79). -/
def execSelfTestCipher (tag : Tag) (seq : Byte) (s : State) : Host.Outcome State Fault Refusal :=
  .next (windowRequest tag seq 0x0D (faultGate (takeSelfTestCipher .plain)) s)

/-- SELF_TEST CIPHER_INJECT (R79). -/
def execSelfTestCipherInject (tag : Tag) (seq : Byte) (s : State) : Host.Outcome State Fault Refusal :=
  .next (windowRequest tag seq 0x0D (faultGate (takeSelfTestCipher .inject)) s)

/-- SELF_TEST MEDIA (R81). -/
def execSelfTestMedia (tag : Tag) (seq passes : Byte) (s : State) : Host.Outcome State Fault Refusal :=
  .next (windowRequest tag seq 0x0D (faultGate (takeSelfTestMedia passes)) s)

/-- WIPE_ALL (R186). -/
def execWipeAll (tag : Tag) (seq : Byte) (s : State) : Host.Outcome State Fault Refusal :=
  .next (windowRequest tag seq 0x0E (faultGate takeWipeAll) s)

/-- A request sector whose code names no request (R176); the code is echoed. -/
def execUnknownRequest (tag : Tag) (seq code : Byte) (s : State) : Host.Outcome State Fault Refusal :=
  .next (windowRequest tag seq code (answer .unknownRequest) s)

end Sys2Proof.Machine
end

