-- ==== Sys2Proof/Machine/FrontLink.lean ====
section
/-! DEFINITION. The front port's events (chapter 1): the drop of R19, and the rows ATTACH, DETACH, LINK_RESET and
FRONT_REQUEST_ARRIVAL. -/

namespace Sys2Proof.Machine

open Sys2Proof

/-! ### ATTACH (R3) -/

/-- An ATTACH that the front port takes: link, source, attached item, wake from STANDBY, and on an OPEN drive the
timers of R158. -/
def attachTaken (s : State) : State :=
  let t := { s with front.link := .attached, power.source := .link, ctl.attached := true }
  let t := if t.power.mode = .standby then
      { t with power.mode := .settling, power.settling := some Config.settlingMs }
    else t
  let t := if t.ctl.drive = .opened then startInactivity { t with ctl.window := none } else t
  selectBackground t

/-- ATTACH (R3): ignored in ATTACHED; none is taken before start-up has ended (R200). -/
def execAttach (s : State) : Host.Outcome State Fault Refusal :=
  .next (if s.started ∧ s.front.link = .detached then attachTaken s else s)

/-! ### Dropping transactions (R19, R20) -/

/-- The sectors of WRITE pieces issued for a transaction become unknown when it is dropped (R73). A transaction that an
earlier LINK_RESET dropped is OUTSTANDING no more, and is not dropped again (R19). -/
def forgetIssued (t : Txn) (l : List (Nat × Content)) : List (Nat × Content) :=
  if t.kind = .write ∧ t.dropped = false then
    (t.frags.filter (fun g => g.state == .issued)).foldl (fun l g => flashForget g.range l) l
  else l

/-- What stays of a transaction that LINK_RESET drops: its ISSUED fragments, with the buffer they still hold
(R19, R43, R54). -/
def Txn.drop (t : Txn) : Option Txn :=
  let kept := t.frags.filter (fun g => g.state == .issued)
  if kept.isEmpty then none
  else some { t with
    frags := kept, dropped := true, waiting := false
    held := if t.kind = .write then (kept.map (fun g => g.range.len)).sum else t.held }

/-- The fragments that a LINK_RESET discards: all that WAIT (R19). -/
def waitingFrags (l : List Txn) : List Frag := l.flatMap (fun t => t.frags.filter (fun g => g.state == .waiting))

/-- The list of R19, before the reports that follow a fall of the counts. -/
def dropFront (s : State) : State :=
  let t := (waitingFrags s.filter.txns).foldl (fun s g => lowerCounts g s) s
  { t with
    flash := s.filter.txns.foldl (fun l x => forgetIssued x l) t.flash
    filter.txns := s.filter.txns.filterMap Txn.drop
    filter.queue := []
    filter.issueQ := []
    front.tags := Vector.replicate 16 .free
    window.response := .noneResponse }

/-- LINK_RESET (R19): ignored while DETACHED. -/
def execLinkReset (s : State) : Host.Outcome State Fault Refusal :=
  .next (if s.front.link = .attached then notifyCounts (dropFront s) else s)

/-! ### DETACH (R20, R16) -/

/-- The sectors of every WRITE on a BUSY tag become unknown when it is abandoned (R73). -/
def forgetBusy (tags : Vector MediaTag 16) (l : List (Nat × Content)) : List (Nat × Content) :=
  tags.toList.foldl (fun l t =>
    match t with
    | .busy c => if c.kind = .write then flashForget c.range l else l
    | _ => l) l

/-- The drop of R20: every record goes, issued fragments are abandoned and leave the counts. -/
def dropAll (s : State) : State :=
  { s with
    flash := forgetBusy s.media.tags s.flash
    filter.txns := [], filter.queue := [], filter.issueQ := []
    filter.total := 0, filter.inFlight := Vector.replicate 16 0
    front.tags := Vector.replicate 16 .free
    window.response := .noneResponse }

/-- The media link goes down (R16). -/
def mediaDown (s : State) : State :=
  { s with media := ⟨.notReady, none, Vector.replicate 16 .free, 0, false⟩ }

/-- A DETACH that the front port takes (R20, R155, R202). -/
def detachTaken (s : State) : State :=
  let t := notifyCounts (mediaDown (dropAll s))
  let t := abortTest (detachSweep t)
  let t := { t with front.link := .detached, power.source := .battery, ctl.attached := false }
  standbyCheck (selectBackground (lockTrigger t))

/-- DETACH (R20): ignored while DETACHED. -/
def execDetach (s : State) : Host.Outcome State Fault Refusal :=
  .next (if s.front.link = .attached then detachTaken s else s)

/-! ### FRONT_REQUEST_ARRIVAL (R7, R8) -/

/-- A window WRITE of the one sector at W (R8, R175). -/
def windowSector (tag : Tag) (x : Sector) (s : State) : State :=
  if requestSigned x then respond tag (requestSeq x) (requestCode x) (takeSector x) s
  else sendReply tag .badRequest none [] s

/-- An access wholly within the control window (R8, R177). -/
def windowAccess (k : Kind) (tag : Tag) (start count : Nat) (x : Sector) (s : State) : State :=
  if k = .write ∧ count = 1 ∧ start = Config.windowBase then windowSector tag x s
  else if k = .read ∧ count = 1 ∧ start = Config.windowBase + 1 then
    sendReply tag .good none [s.window.response.toSector] s
  else sendReply tag .badRequest none [] s

/-- Checks 3 and 4 of R7 on a READ, WRITE or DISCARD. -/
def rangeIsBad (start count : Nat) : Bool :=
  count == 0 || decide (Config.maxCount < count) || decide (Config.lbaLimit < start + count) ||
    (decide (start < Config.windowBase) && decide (Config.windowBase < start + count))

/-- A request joins the tail of the admission queue with its tag OUTSTANDING (R7, R41). -/
def enqueueRequest (k : Kind) (tag : Tag) (start count : Nat) (s : State) : State :=
  { s with
    filter.queue := s.filter.queue ++
      [{ id := s.counters.ids, kind := k, tag := tag, range := ⟨start, start + count⟩, state := .queued,
         frags := [], held := 0, waiting := false, recorded := none, addition := none, status := .good,
         pulled := 0, dropped := false }]
    front.tags := s.front.tags.set tag (.outstanding s.counters.ids)
    counters.ids := s.counters.ids + 1 }

/-- Whether a kind names a range of sectors (R7). -/
def Kind.ranged : Kind → Bool
  | .read | .write | .discard => true
  | .sync | .size => false

/-- The structural checks in their order, and where a request that passes goes (R7, R8). -/
def arrivalChecks (kind : Byte) (tag : Tag) (start count : Nat) (x : Sector) (s : State) : State :=
  if s.front.tags[tag] ≠ .free then sendReply tag .tagInUse none [] s
  else match kindOfByte kind with
    | none => sendReply tag .badRequest none [] s
    | some k =>
      if k.ranged then
        if rangeIsBad start count then sendReply tag .badRequest none [] s
        else if Config.windowBase ≤ start then windowAccess k tag start count x s
        else enqueueRequest k tag start count s
      else enqueueRequest k tag start count s

/-- FRONT_REQUEST_ARRIVAL (R7): no request arrives while the front link is DETACHED (R3); every arrival restarts the
inactivity timer (R160). -/
def execFrontRequestArrival (kind tag : Byte) (start : BitVec 32) (count : BitVec 16) (x : Sector) (s : State) :
    Host.Outcome State Fault Refusal :=
  .next (if s.front.link = .attached then
      arrivalChecks kind (tagOfByte tag) start.toNat count.toNat x (reportArrival s)
    else s)

end Sys2Proof.Machine
end

