-- ==== Sys2Proof/Machine/Keypad.lean ====
section
/-! DEFINITION. Keys (chapter 6) and comparisons: debounce, PRESS, the key rules of each drive state, and the rows
KEYPAD_SCAN, ENTRY_TIMER_EXPIRY, COMPARISON_RESULT and PATTERN_STEP_EXPIRY. -/

namespace Sys2Proof.Machine

open Sys2Proof

/-! ### Debounce and PRESS (R114, R115) -/

/-- One key at one scan (R114). -/
def debounceKey (seen : Bool) (k : KeyState) : KeyState :=
  if seen = k.down then { k with run := 0 }
  else if 3 ≤ k.run + 1 then ⟨!k.down, 0⟩
  else { k with run := k.run + 1 }

/-- All keys at one scan. -/
def debounceAll (pressed : BitVec 12) (keys : Vector KeyState 12) : Vector KeyState 12 :=
  Vector.ofFn (fun i => debounceKey (pressed.getLsbD i.val) keys[i])

/-- The key that goes down while no other key is DOWN after the scan (R115). -/
def pressOf (was now : Vector KeyState 12) : Option KeyIx :=
  (List.finRange 12).find? (fun i =>
    !was[i].down && now[i].down && (List.finRange 12).all (fun j => j == i || !now[j].down))

/-! ### Collections (R118, R119, R124) -/

/-- A collection begins: empty buffer, phase COLLECTING, timer at 10 s (R119, R124). -/
def beginCollection (k : EntryKind) (s : State) : State :=
  { s with keypad.buffer := [], keypad.phase := some k, keypad.timer := some Config.entryMs }

/-- A digit is appended: timer restarted, KEY_ACK (R120, R124). -/
def appendDigit (d : Digit) (s : State) : State :=
  requestOneShot .keyAck
    { s with keypad.buffer := s.keypad.buffer ++ [d], keypad.timer := some Config.entryMs }

/-! ### The key rules (R119 to R124) -/

/-- A key in FACTORY (R123, R134). -/
def keyFactory (k : Key) (s : State) : State :=
  match k with
  | .openKey =>
    if s.media.state ≠ .ready then requestOneShot .reject s
    else if s.cipher.slots[0].state = .empty ∧ s.cipher.slots[0].gen = Config.maxGen then
      requestOneShot .reject { s with cred.lastEnroll := .keyLimit }
    else beginCollection .enroll (startEnroll 0 .admin .factory .first s)
  | _ => s

/-- A key in LOCKED (R119). -/
def keyLocked (k : Key) (s : State) : State :=
  match k with
  | .openKey => setDrive .entry (beginCollection .unlock s)
  | _ => s

/-- A key in ENTRY (R120, R121). -/
def keyEntry (k : Key) (s : State) : State :=
  match k with
  | .digit d =>
    if s.keypad.buffer.length < Config.maxDigits then appendDigit d s
    else setDrive .locked (requestOneShot .reject (endCollection s))
  | .lockKey => setDrive .locked (endCollection s)
  | .openKey =>
    if s.keypad.buffer.length < s.store.effective.minPin then
      setDrive .locked (requestOneShot .short (endCollection s))
    else startEvaluation s.keypad.buffer (endCollection s)

/-- A key in OPEN (R123): LOCK alone is accepted, and restarts the inactivity timer as it locks (R117). DEDUCED
(assumption 27). -/
def keyOpened (k : Key) (s : State) : State :=
  match k with
  | .lockKey => lockTrigger (restartInactivity s)
  | _ => s

/-- LOCK in ENROLLING: a cancellation (R124, R139). -/
def cancelEnroll (e : Enroll) (s : State) : State :=
  match e.origin with
  | .opened => lockTrigger s
  | .factory => cancelFactoryEnroll e s

/-- The collected digits of an enrollment are handed on (R124, R135, R136). -/
def handOn (e : Enroll) (s : State) : State :=
  match e.step with
  | .first => firstEntry e s.keypad.buffer (endCollection s)
  | .second => secondEntry e s.keypad.buffer (endCollection s)
  | _ => endCollection s

/-- A collection of an enrollment begins, with the step that it is (R124, R135). -/
def beginStep (e : Enroll) (p : EnrollStep) (s : State) : State :=
  beginCollection .enroll { s with cred.enroll := some { e with step := p } }

/-- Whether a key in ENROLLING is accepted (R124). -/
def enrollAccepts (e : Enroll) (k : Key) (s : State) : Bool :=
  match k with
  | .openKey => s.keypad.phase.isSome || e.step == .waitFirst || e.step == .waitSecond
  | .digit _ => s.keypad.phase.isSome
  | .lockKey => true

/-- An accepted OPEN in ENROLLING: it ends a collection or begins one (R124). -/
def enrollOpen (e : Enroll) (s : State) : State :=
  if s.keypad.phase.isSome then handOn e s
  else if e.step = .waitFirst then beginStep e .first s
  else beginStep e .second s

/-- An accepted digit in ENROLLING: appended, or the overflow (R124). -/
def enrollDigit (e : Enroll) (d : Digit) (s : State) : State :=
  if s.keypad.buffer.length < Config.maxDigits then appendDigit d s else failEnroll e .overflow s

/-- An accepted key in ENROLLING (R124). -/
def enrollKey (e : Enroll) (k : Key) (s : State) : State :=
  match k with
  | .openKey => enrollOpen e s
  | .digit d => enrollDigit e d s
  | .lockKey => cancelEnroll e s

/-- A key in ENROLLING; one accepted in an enrollment from OPEN restarts the inactivity timer (R117, R160). -/
def keyEnrolling (k : Key) (s : State) : State :=
  match s.cred.enroll with
  | none => s
  | some e =>
    if enrollAccepts e k s then enrollKey e k (if e.origin = .opened then restartInactivity s else s) else s

/-- A PRESS acts under the rule of the drive state it finds (R117). -/
def keyPress (k : Key) (s : State) : State :=
  match s.ctl.drive with
  | .factory => keyFactory k s
  | .locked => keyLocked k s
  | .entry => keyEntry k s
  | .opened => keyOpened k s
  | .enrolling => keyEnrolling k s
  | .starting | .evaluating | .backoff | .wiping | .fault => s

/-- The standby idle timer after a PRESS: 20 s again. One that has run out at this very moment withdraws its expiry,
the PRESS being taken first (R203). DEDUCED (assumption 36). -/
def idleAtPress (t : IdleTimer) : IdleTimer :=
  if t = .running 0 then .restarted else .running Config.idleMs

/-- A PRESS goes to the power unit, whose standby idle timer restarts, and is then acted on (R117, R203). An expiry of
the entry timer or of the inactivity timer that it meets and restarts does not take place (R122, R161). -/
def press (i : KeyIx) (s : State) : State :=
  standbyCheck (withdrawRaced s (keyPress (keyAt i) { s with power.idle := idleAtPress s.power.idle }))

/-- The PRESS of a scan, if it produces one, is taken (R115, R117). -/
def pressAfter (was now : Vector KeyState 12) (s : State) : State :=
  match pressOf was now with
  | some i => press i s
  | none => s

/-- KEYPAD_SCAN (R113): made only in ACTIVE, after start-up has set the initial drive state. Where the part entered
STANDBY at this very moment, at an expiry of the standby idle timer or at a change of drive state taken before the
PRESS, the PRESS of the moment's scan is acted on in the drive state it finds (R117, R203); the scan's debounce states
are discarded (R113). An entry that it begins there has its timer started at 10 s (R119), although R204 lists the entry
timer as stopped in STANDBY. DEDUCED (assumption 36). -/
def execKeypadScan (pressed : BitVec 12) (s : State) : Host.Outcome State Fault Refusal :=
  .next (
    if s.started ∧ s.power.mode = .active then
      let keys := debounceAll pressed s.keypad.keys
      pressAfter s.keypad.keys keys { s with keypad.keys := keys }
    else match s.power.lastScan with
      | some keys => pressAfter keys (debounceAll pressed keys) { s with power.lastScan := none }
      | none => s)

/-- ENTRY_TIMER_EXPIRY (R122, R124, R138); no effect while the timer is stopped. An expiry that met a PRESS taken
first, which restarted the timer, does not take place: the timer runs on (R122). DEDUCED (assumption 36). -/
def execEntryTimerExpiry (s : State) : Host.Outcome State Fault Refusal :=
  .next (
    if s.keypad.timer.isNone then s
    else if s.keypad.withdrawn then { s with keypad.withdrawn := false }
    else
      let t := endCollection s
      standbyCheck (match s.ctl.drive, s.cred.enroll with
        | .entry, _ => setDrive .locked t
        | .enrolling, some e => failEnroll e .timeout t
        | _, _ => t))

/-- What the result of a comparison is for, if its context still stands (R143, R136, R139, R147). DEDUCED
(assumption 18). -/
def comparisonEnds (c : Comparison) (s : State) : State :=
  match c.purpose with
  | .evaluation =>
    match s.cred.eval with
    | some e => if e.phase = .comparing then evaluationResult c.digits s else s
    | none => s
  | .duplicate =>
    match s.cred.enroll with
    | some e => if e.step = .testing then duplicateResult e c.digits s else s
    | none => s

/-- COMPARISON_RESULT (R132); no effect while no comparison runs. -/
def execComparisonResult (s : State) : Host.Outcome State Fault Refusal :=
  .next (match s.cred.comparison with
    | none => s
    | some c => standbyCheck (comparisonEnds c { s with cred.comparison := none }))

/-! ### Patterns (R125, R127) -/

/-- A player's step runs out: the next step, the next pass, or `none` at the end of the last pass (R125). -/
def Player.next (p : Player) : Option Player :=
  if p.step + 1 < p.pattern.steps.length then
    some { p with step := p.step + 1, left := p.pattern.stepMs (p.step + 1) }
  else if p.passes = 1 then none
  else some { p with step := 0, left := p.pattern.stepMs 0, passes := p.passes - 1 }

/-- PATTERN_STEP_EXPIRY (R125): the one-shot's step if one plays, else the background's; no effect while both are
stopped. The background halts while a one-shot plays: DEDUCED (assumption 23). -/
def execPatternStepExpiry (s : State) : Host.Outcome State Fault Refusal :=
  .next (match s.keypad.oneShot with
    | some p =>
      match p.next with
      | some q => { s with keypad.oneShot := some q }
      | none => startPlayer { s with keypad.oneShot := none }
    | none => { s with keypad.player := s.keypad.player.bind Player.next })

end Sys2Proof.Machine
end

