-- ==== Sys2Proof/Machine/MediaLink.lean ====
section
/-! DEFINITION. The media port and the slot arbiter (sections 1.2, 1.5, 1.6): issue of commands, results, SIZE, the
media link reset, and the rows MEDIA_READY, SLOT_GRANT, MEDIA_COMPLETION and TAG_TIMEOUT. -/

namespace Sys2Proof.Machine

open Sys2Proof

/-! ### Issue (R11) -/

/-- The lowest-numbered FREE media tag. -/
def State.lowestFree (s : State) : Option Tag := (List.finRange 16).find? (fun t => s.media.tags[t] == .free)

/-- A command is sent on a tag: the tag becomes BUSY with a 2,000 ms timeout (R11). `data` is what a WRITE carries;
of a READ the command notes what the image holds at its issue, and a DISCARD makes its sectors unknown (R73). -/
def issue (tag : Tag) (req : Requester) (kind : Kind) (r : Range) (data : List Content) (s : State) : State :=
  { s with
    media.tags := s.media.tags.set tag
      (.busy ⟨req, kind, r, if kind = .read then flashReadAll s.flash r else data, Config.tagTimeoutMs⟩)
    mediaOut := s.mediaOut ++ [.command tag kind r data]
    flash := if kind = .discard then flashForget r s.flash else s.flash }

/-- The media port's own SIZE, on the lowest FREE tag or as soon as one becomes FREE (R4, R5). -/
def issueSize (s : State) : State :=
  match s.lowestFree with
  | some t => issue t .size .size ⟨0, 0⟩ [] { s with media.sizeWaiting := false }
  | none => { s with media.sizeWaiting := true }

/-- A waiting SIZE is issued once a tag is FREE (R5). -/
def serveSize (s : State) : State := if s.media.sizeWaiting then issueSize s else s

/-! ### Results -/

/-- Whether the requester of a command still counts for the media image: a dropped fragment's sectors became
unknown at the drop (R73). DEDUCED (assumption 15). -/
def State.commandKept (s : State) (c : Command) : Bool :=
  match c.requester with
  | .fragment id =>
    match s.findFrag id with
    | some (t, _) => !t.dropped
    | none => false
  | _ => true

/-- The media image after a command's end: an OK WRITE sets its sectors, a failed one makes them unknown (R73). -/
def imageResult (c : Command) (ok : Bool) (s : State) : State :=
  if c.kind = .write ∧ s.commandKept c then
    { s with flash := if ok then flashWriteAll c.range.lo c.data s.flash else flashForget c.range s.flash }
  else s

/-- The completion of the media port's own SIZE (R5). -/
def sizeResult (ok : Bool) (span : Nat) (s : State) : State :=
  if !ok then issueSize s
  else if Config.minCapacity ≤ span then
    sweepAtReady { s with media.state := .ready, media.capacity := some span }
  else
    failIssueQueue (enterFault .mediaSmall { s with media.state := .notReady, media.capacity := none })

/-- The result of a command goes to its requester (R12, R13, R15). -/
def deliverResult (c : Command) (ok : Bool) (span : Nat) (data : List Content) (s : State) : State :=
  let s := imageResult c ok s
  match c.requester with
  | .fragment id => fragResult id ok data s
  | .chunk serial => chunkResult serial ok s
  | .test run => testResult run c.kind ok data s
  | .size => sizeResult ok span s

/-- The commands on BUSY tags, in increasing tag order. -/
def busyCommands (tags : Vector MediaTag 16) : List Command :=
  tags.toList.filterMap (fun t => match t with | .busy c => some c | _ => none)

/-- FAIL for each command of a list, in order. -/
def failAll (l : List Command) (s : State) : State := l.foldl (fun s c => deliverResult c false 0 [] s) s

/-- Every tag FREE, no timeout, retired count 0. -/
def freeTags (s : State) : State :=
  { s with media.tags := Vector.replicate 16 .free, media.retired := 0 }

/-- The media link reset (R15). -/
def mediaLinkReset (s : State) : State :=
  failAll (busyCommands s.media.tags) { freeTags s with mediaOut := s.mediaOut ++ [.linkReset] }

/-! ### The rows -/

/-- The media state becomes SIZING, the geometry goes out of force, SIZE is issued (R4, R6). -/
def startSizing (s : State) : State :=
  issueSize { s with media.state := .sizing, media.capacity := none }

/-- MEDIA_READY (R4): ignored while DETACHED; a restart fails every BUSY command first, and ends a media test. Of the
two ends of R83 that a restart meets when it FAILs the READ of the last pass, the test takes DONE: the FAIL is counted
first, so passes done has reached N when the abort looks at the test. The order within the event: DEDUCED
(assumption 17). -/
def execMediaReady (s : State) : Host.Outcome State Fault Refusal :=
  .next (
    if s.front.link ≠ .attached then s
    else if s.media.state = .notReady then startSizing s
    else
      startSizing (abortTest (failAll
        ((busyCommands s.media.tags).filter (fun c => c.requester != .size))
        { freeTags s with media.sizeWaiting := false })))

/-- The 64 sectors of the pattern of a pass (R82). -/
def patternData (p : Nat) : List Content := (List.range Config.scratchSectors).map (fun i => .plain (testPattern p i))

/-- A grant to the media test (R17, R82). -/
def grantTest (tag : Tag) (k : Kind) (s : State) : State :=
  issue tag (.test s.cipher.test.run) k s.scratch
    (if k = .write then patternData (s.cipher.test.done + 1) else [])
    { s with cipher.test := { s.cipher.test with waiting := none } }

/-- A grant to the erase engine: the chunk is formed, or its retry goes out with the range it has (R17, R77, R93,
R95). -/
def grantChunk (tag : Tag) (x : Sweep) (s : State) : State :=
  let f := formChunk x s
  issue tag (.chunk f.2) .write ⟨f.1.w, f.1.q⟩ (List.replicate (f.1.q - f.1.w) (s.zeroContent x.pos))
    { s with
      erase.sweep := some f.1
      erase.passedOver := 0
      erase.chunks := if x.chunk.isNone then s.erase.chunks + 1 else s.erase.chunks }

/-- A grant to the head of the issue queue (R17). -/
def grantHead (tag : Tag) (id : Nat) (rest : List Nat) (s : State) : State :=
  let s1 := { s with
    filter.issueQ := rest
    erase.passedOver := if s.chunkReady then s.erase.passedOver + 1 else s.erase.passedOver }
  match s.findFrag id with
  | some (t, g) =>
    issue tag (.fragment id) t.kind g.range g.stored (setFrag id (fun g => { g with state := .issued }) s1)
  | none => s1

/-- Whether the erase engine wins a grant that the media test does not ask for (R17, rule 2). -/
def State.chunkWins (s : State) : Bool :=
  s.chunkReady && (s.filter.issueQ.isEmpty || decide (s.store.effective.pace ≤ s.erase.passedOver))

/-- One grant of the arbiter to whoever waits (R17). -/
def grantTag (tag : Tag) (s : State) : State :=
  match s.cipher.test.waiting with
  | some k => grantTest tag k s
  | none =>
    match (if s.chunkWins then s.sweeping else none), s.filter.issueQ with
    | some x, _ => grantChunk tag x s
    | none, id :: rest => grantHead tag id rest s
    | none, [] => s

/-- SLOT_GRANT (R17): no grant while the link is DETACHED, the media is not READY or no tag is FREE. -/
def execSlotGrant (s : State) : Host.Outcome State Fault Refusal :=
  .next (
    if s.front.link = .attached ∧ s.media.state = .ready then
      match s.lowestFree with
      | some t => grantTag t s
      | none => s
    else s)

/-- MEDIA_COMPLETION (R12). -/
def execMediaCompletion (tag : Tag) (status : Byte) (span : BitVec 32) (data : MediaData) (s : State) :
    Host.Outcome State Fault Refusal :=
  .next (match s.media.tags[tag] with
    | .free => s
    | .retired =>
      serveSize { s with media.tags := s.media.tags.set tag .free, media.retired := s.media.retired - 1 }
    | .busy c =>
      standbyCheck (serveSize (deliverResult c (statusIsOk status) span.toNat (mediaSectors data c)
        { s with media.tags := s.media.tags.set tag .free })))

/-- TAG_TIMEOUT (R13, R15): no effect on a tag that is not BUSY. The order within the event: DEDUCED (assumption
16). -/
def execTagTimeout (tag : Tag) (s : State) : Host.Outcome State Fault Refusal :=
  .next (match s.media.tags[tag] with
    | .busy c =>
      let t := deliverResult c false 0 []
        { s with media.tags := s.media.tags.set tag .retired, media.retired := s.media.retired + 1 }
      if Config.retireLimit ≤ t.media.retired then serveSize (mediaLinkReset t) else t
    | _ => s)

end Sys2Proof.Machine
end

