-- ==== Sys2Proof/Machine/PowerRows.lean ====
section
/-! DEFINITION. Power loss, power-on and the start-up sequence (chapters 10 and 11), and the end of a cipher test run
(R78, R79): the rows POWER_LOSS, POWER_ON and CIPHER_TEST_END. -/

namespace Sys2Proof.Machine

open Sys2Proof

/-! ### Power loss (R192, R201) -/

/-- A WRITE that has not been acknowledged makes its sectors unknown when power is lost (R73). -/
def forgetWrites (l : List Txn) (f : List (Nat × Content)) : List (Nat × Content) :=
  l.foldl (fun f t => if t.kind = .write ∧ t.dropped = false then flashForget t.range f else f) f

/-- What a loss of power leaves: the record copies, the commit in progress cut short; the media image; and the
model's own logs, counters and queue. Everything else is as in a part without power. DEDUCED (assumption 29). -/
def powerDown (s : State) : State :=
  let st := match s.store.busy with
    | some c => s.store.spoil c.content
    | none => s.store
  { State.blank with
    store := { State.blank.store with
      options := st.options, profiles := st.profiles, map := st.map, attempts := st.attempts, sweep := st.sweep }
    flash := forgetWrites s.filter.queue (forgetWrites s.filter.txns (forgetBusy s.media.tags s.flash))
    replies := s.replies
    mediaOut := s.mediaOut
    counters := s.counters
    pending := s.pending }

/-- POWER_LOSS (R201, R202). -/
def execPowerLoss (s : State) : Host.Outcome State Fault Refusal := .next (powerDown s)

/-! ### Start-up, phase 1 (R197) -/

/-- Marks the copies of one record whose check value no longer matches. -/
def Copies.decay {α : Type} (a b : Bool) (c : Copies α) : Copies α :=
  ⟨{ c.a with intact := c.a.intact && !a }, { c.b with intact := c.b.intact && !b }⟩

/-- Marks the copies that an operand of POWER_ON names. DESIGN CHOICE (assumption 11). -/
def Store.decay (d : BitVec 24) (st : Store) : Store :=
  { st with
    options := st.options.decay (copyDecayed d 0 0) (copyDecayed d 0 1)
    profiles := Vector.ofFn (fun p =>
      st.profiles[p].decay (copyDecayed d (1 + p.val) 0) (copyDecayed d (1 + p.val) 1))
    map := st.map.decay (copyDecayed d 9 0) (copyDecayed d 9 1)
    attempts := st.attempts.decay (copyDecayed d 10 0) (copyDecayed d 10 1)
    sweep := st.sweep.decay (copyDecayed d 11 0) (copyDecayed d 11 1) }

/-- Whether a record other than OPTIONS fails its check at load (R192, R197). -/
def Store.checkFails (st : Store) : Bool :=
  (List.finRange 8).any (fun p => (st.profiles[p].load (profileLaw p)).isNone) ||
    (st.map.load mapLaw).isNone || (st.attempts.load attemptsLaw).isNone || (st.sweep.load sweepLaw).isNone

/-- n as taken at power-on from its stored value (R141). -/
def correctAttempts (threshold n : Nat) : Nat := if threshold ≠ 0 ∧ threshold < n then threshold else n

/-- A key slot as the MAP record gives it (R23, R84). -/
def StoredSlot.toSlot (k : StoredSlot) : KeySlot :=
  ⟨if k.key.isSome then .closed else .empty, k.key, k.gen, k.mask⟩

/-- The loaded contents go to their owners; a record that failed is taken at its delivered content (R197). -/
def loadRecords (s : State) : State :=
  let st := s.store
  let options := st.options.load optionsLaw
  let eff := (options.map RawOptions.clamp).getD .defaults
  let map := (st.map.load mapLaw).getD .delivered
  let n := (st.attempts.load attemptsLaw).getD 0
  copyPending { s with
    store.effective := eff
    store.optionsDefault := options.isNone
    window.staged := options.getD .defaults
    cred.profiles := Vector.ofFn (fun p => (st.profiles[p].load (profileLaw p)).getD none)
    cred.n := correctAttempts eff.threshold n
    regions.table := map.table
    regions.epoch := map.epoch
    cipher.slots := map.slots.map StoredSlot.toSlot
    ctl.wipeFlag := map.wipeFlag }

/-- Start-up ends: the background player and the standby idle timer start (R200); scans and links follow as their
own events. -/
def startUpEnd (s : State) : State :=
  startPlayer { s with power.idle := .running Config.idleMs }

/-- Phase 1, and the start of phase 2 (R197). -/
def startUp (s : State) : State :=
  let t := loadRecords s
  if s.store.checkFails then startUpEnd (enterFault .storeCheck t)
  else { t with cipher.run := some ⟨.startUp, Config.cipherTestMs⟩ }

/-- POWER_ON (R197), or RESET_N low: start-up runs from phase 1 against the records as stored (R201). -/
def execPowerOn (decayed : BitVec 24) (s : State) : Host.Outcome State Fault Refusal :=
  let t := powerDown s
  .next (startUp { t with power.on := true, store := t.store.decay decayed })

/-! ### Start-up, phases 3 to 6 (R198, R199) -/

/-- Phase 5: the initial drive state (R198, R152). -/
def chooseState (s : State) : State :=
  if s.cred.profiles[0].isNone then setDrive .factory s
  else if s.store.effective.threshold ≠ 0 ∧ s.store.effective.threshold ≤ s.cred.n then startWipe s
  else if s.store.effective.free ≤ s.cred.n then enterBackoff s
  else setDrive .locked s

/-- Whether a recorded queued job is restored (R108). -/
def jobRestored (s : State) (j : Job) : Bool :=
  match s.entryAt j.pos with
  | none => false
  | some e => !(e.cls == .priv &&
      (match e.slot with | some k => s.cipher.slots[k].gen == Config.maxGen | none => false))

/-- Whether a recorded sweep is resumed (R107). -/
def sweepRestored (s : State) (y : StoredSweep) : Bool :=
  match s.entryAt y.pos with
  | none => false
  | some e =>
    match e.cls, e.slot with
    | .pub, _ => true
    | .priv, some k => s.cipher.slots[k].key.isSome && some s.cipher.slots[k].gen == y.gen
    | .priv, none => false

/-- The context of a resumed sweep (R107). -/
def resumedSweep (y : StoredSweep) : Sweep :=
  { pos := y.pos, gen := y.gen, c := y.checkpoint, w := y.checkpoint, q := y.checkpoint, chunk := none,
    keep := y.keep, retry := 0, phase := .running, outcome := .none }

/-- Phase 6: the sweep and the erase queue from the SWEEP record (R107, R108, R199). -/
def restoreErase (r : SweepRecord) (s : State) : State :=
  let jobs := r.jobs.filter (jobRestored s)
  let resumed := r.sweep.filter (sweepRestored s)
  let t := match resumed with
    | some y => { s with
        erase.queue := ⟨y.pos, .full⟩ :: jobs, erase.stage := .sweeping, erase.sweep := some (resumedSweep y) }
    | none => { s with erase.queue := jobs }
  let t := if jobs.length ≠ r.jobs.length ∨ resumed ≠ r.sweep then requestCommit .sweep [] t else t
  if resumed.isSome then t else startHead t

/-- Phases 3 to 6 and the end of start-up (R198 to R200). -/
def startUpRest (s : State) : State :=
  let t := clearEmptyMasks s
  let t := if t.ctl.wipeFlag then startWipe t else chooseState t
  let t := if t.ctl.drive = .wiping then t else restoreErase ((s.store.sweep.load sweepLaw).getD .delivered) t
  startUpEnd t

/-- A cipher test run ends with the compares that differ (R78, R79, R197). The numbering of the compares: DESIGN
CHOICE (assumption 21). -/
def cipherEnd (k : RunKind) (mismatches : BitVec 16) (s : State) : State :=
  match k with
  | .startUp => if mismatches = 0 then startUpRest s else startUpEnd (enterFault .cipherTest s)
  | .plain =>
    if mismatches = 0 then { s with cipher.result := .pass }
    else enterFault .cipherTest { s with cipher.result := .fail }
  | .inject =>
    if mismatches = 1 then { s with cipher.result := .injectDetected }
    else enterFault .cipherTest { s with cipher.result := .fail }

/-- CIPHER_TEST_END (R78). With no run in progress there is nothing to end. -/
def execCipherTestEnd (mismatches : BitVec 16) (s : State) : Host.Outcome State Fault Refusal :=
  .next (match s.cipher.run with
    | none => s
    | some r => standbyCheck (cipherEnd r.kind mismatches { s with cipher.run := none }))

end Sys2Proof.Machine
end

