-- ==== Sys2Proof/Machine/StoreRows.lean ====
section
/-! DEFINITION. The completion of commits (chapter 10) and what each requester then does: the row
COMMIT_COMPLETION. -/

namespace Sys2Proof.Machine

open Sys2Proof

/-- Whether the context still holds the sweep that a commit's content names (R106). -/
def Sweep.named (x : Sweep) (y : StoredSweep) : Bool := x.pos == y.pos && x.gen == y.gen

/-- c takes the captured checkpoint and K is pruned, if the context still holds that sweep (R103, R106). -/
def moveCheckpoint (y : StoredSweep) (s : State) : State :=
  setSweep (fun x => if x.named y then { x with c := y.checkpoint, keep := keepPrune y.checkpoint x.keep } else x) s

/-- A SWEEP commit completes (R106). -/
def sweepStored (r : SweepRecord) (noted : BitVec 32) (s : State) : State :=
  match r.sweep with
  | some y => endWaits (waitEnds (some y.checkpoint) noted) (moveCheckpoint y s)
  | none =>
    let t := endWaits (waitEnds none noted) s
    match t.erase.sweep with
    | some x => if x.phase = .ending then endSweep x t else t
    | none => t

/-- The MAP commit of a swap completes (R35). -/
def applyStored (s : State) : State :=
  if s.regions.snapshot.any Snapshot.swapped then endApply s else s

/-- The MAP commit of the head job's key replacement completes (R88, R89). A FULL job whose position the default table
has left absent ends there, with no sweep: DESIGN CHOICE (assumption 40). -/
def eraseMapStored (s : State) : State :=
  match s.erase.queue with
  | [] => s
  | j :: _ =>
    if s.erase.stage = .waitMap then
      match j.mode, s.entryAt j.pos with
      | .full, some e => setUpSweep j.pos e s
      | _, _ => headLeaves s
    else s

/-- The SWEEP commit of a sweep's set-up completes: the region is SWEEPING (R89). -/
def eraseSweepStored (s : State) : State :=
  if s.erase.stage = .waitSweep then sweepDecide { s with erase.stage := .sweeping } else s

/-- What a requester does when its request is answered (R194). -/
def tellWaiter (w : Waiter) (s : State) : State :=
  match w with
  | .applyEnd => applyStored s
  | .eraseMap => eraseMapStored s
  | .eraseSweep => eraseSweepStored s
  | .countAttempts => countStored s
  | .resetAttempts => resetStored s
  | .enrollProfile => enrollStored true s
  | .enrollMap => enrollStored false s
  | .removal r => removalStored r s
  | .wipe k => wipeStepDone k s

/-- Every requester that a completed commit answers is told, in the order of the requests (R194); the erase engine
is told of every SWEEP commit (R106). -/
def tellRequesters (c : Commit) (s : State) : State :=
  let t := match c.content with
    | .sweep r => sweepStored r c.additions s
    | _ => s
  c.waiters.foldl (fun s w => tellWaiter w s) t

/-- A verified commit: its copy is current, requesters are told unless the drive is in FAULT, and the next queued
commit starts (R192, R194, R195). The order within the event: DEDUCED (assumption 13). -/
def commitVerified (c : Commit) (s : State) : State :=
  let t := { s with store := s.store.write c.content }
  if s.ctl.drive = .fault then { t with store.busy := none }
  else
    let t := tellRequesters c t
    startNext { t with store.busy := none }

/-- A commit whose read-back differs: the old copy stays current, FAULT with cause STORE_WRITE (R195). -/
def commitFailed (c : Commit) (s : State) : State :=
  let t := { s with store := s.store.spoil c.content }
  enterFault .storeWrite { t with store.busy := none }

/-- COMMIT_COMPLETION (R194, R195). With no commit in progress there is nothing to complete. -/
def execCommitCompletion (verified : Bool) (s : State) : Host.Outcome State Fault Refusal :=
  .next (match s.store.busy with
    | none => s
    | some c => standbyCheck (if verified then commitVerified c s else commitFailed c s))

end Sys2Proof.Machine
end

