-- ==== Sys2Proof/Machine/TimerRows.lean ====
section
/-! DEFINITION. The expiries of the back-off, attach-window, inactivity, standby idle and settling timers, and the
column edge: the rows of chapters 7, 8 and 11 that are timers' events. An expiry of a stopped timer cannot occur
and changes nothing. -/

namespace Sys2Proof.Machine

open Sys2Proof

/-- BACKOFF_TIMER_EXPIRY (R149). -/
def execBackoffTimerExpiry (s : State) : Host.Outcome State Fault Refusal :=
  .next (
    if s.cred.backoff.isNone then s
    else
      let t := { s with cred.backoff := none }
      standbyCheck (if s.ctl.drive = .backoff then setDrive .locked t else t))

/-- ATTACH_WINDOW_EXPIRY (R159). -/
def execAttachWindowExpiry (s : State) : Host.Outcome State Fault Refusal :=
  .next (
    if s.ctl.window.isNone then s
    else standbyCheck (lockTrigger { s with ctl.window := none }))

/-- INACTIVITY_EXPIRY (R161). An expiry that met a restart taken first does not take place: the timer runs on. DEDUCED
(assumption 36). -/
def execInactivityExpiry (s : State) : Host.Outcome State Fault Refusal :=
  .next (
    if s.ctl.inactivity.isNone then s
    else if s.ctl.withdrawn then { s with ctl.withdrawn := false }
    else standbyCheck (lockTrigger { s with ctl.inactivity := none }))

/-- The expiry of the standby idle timer: EXPIRED, and STANDBY where its conditions hold (R203). -/
def idleExpires (s : State) : State := standbyCheck { s with power.idle := .expired }

/-- STANDBY_IDLE_TIMER_EXPIRY (R203). An expiry that met a PRESS taken first does not take place: the timer runs on
from 20 s. DEDUCED (assumption 36). -/
def execStandbyIdleTimerExpiry (s : State) : Host.Outcome State Fault Refusal :=
  .next (match s.power.idle with
    | .running _ => idleExpires s
    | .restarted => { s with power.idle := .running Config.idleMs }
    | .stopped | .expired => s)

/-- KEYPAD_COLUMN_EDGE (R205): a wake from STANDBY; ignored otherwise. -/
def execKeypadColumnEdge (s : State) : Host.Outcome State Fault Refusal :=
  .next (
    if s.power.mode = .standby then
      { s with power.mode := .settling, power.settling := some Config.settlingMs }
    else s)

/-- SETTLING_TIMER_EXPIRY (R205): ACTIVE again, with the first scan's levels (R116), the selected background (R129)
and the standby idle timer at 20 s (R203). -/
def execSettlingTimerExpiry (pressed : BitVec 12) (s : State) : Host.Outcome State Fault Refusal :=
  .next (
    if s.power.mode = .settling then
      startPlayer { s with
        power.mode := .active
        power.settling := none
        power.idle := .running Config.idleMs
        power.lastScan := none
        keypad.keys := Vector.ofFn (fun i => ⟨pressed.getLsbD i.val, 0⟩) }
    else s)

end Sys2Proof.Machine
end

