-- ==== Sys2Proof/Machine/Dispatch.lean ====
section
/-! DEFINITION. One arm per command, each one direct call of the command's meaning. -/

namespace Sys2Proof.Machine

open Sys2Proof

/-- The effect of a command on everything but the queue of waiting commands. -/
def exec (i : Instr) (s : State) : Host.Outcome State Fault Refusal :=
  match i with
  | .powerOn d => Sys2Proof.Machine.execPowerOn d s
  | .attach => Sys2Proof.Machine.execAttach s
  | .detach => Sys2Proof.Machine.execDetach s
  | .linkReset => Sys2Proof.Machine.execLinkReset s
  | .mediaReady => Sys2Proof.Machine.execMediaReady s
  | .frontRequestArrival kind tag start count sector => Sys2Proof.Machine.execFrontRequestArrival kind tag start count sector s
  | .status tag seq => Sys2Proof.Machine.execStatus tag seq s
  | .lock tag seq => Sys2Proof.Machine.execLock tag seq s
  | .readTable tag seq => Sys2Proof.Machine.execReadTable tag seq s
  | .stageRegion tag seq position present cls writable slot base length => Sys2Proof.Machine.execStageRegion tag seq position present cls writable slot base length s
  | .setSlotMask tag seq slot mask => Sys2Proof.Machine.execSetSlotMask tag seq slot mask s
  | .clearPending tag seq => Sys2Proof.Machine.execClearPending tag seq s
  | .applyTable tag seq => Sys2Proof.Machine.execApplyTable tag seq s
  | .eraseRegion tag seq position mode => Sys2Proof.Machine.execEraseRegion tag seq position mode s
  | .cancelSweep tag seq => Sys2Proof.Machine.execCancelSweep tag seq s
  | .enroll tag seq slot kind => Sys2Proof.Machine.execEnroll tag seq slot kind s
  | .removeProfile tag seq slot => Sys2Proof.Machine.execRemoveProfile tag seq slot s
  | .setOptions tag seq minPin free threshold inactivity chunk pace => Sys2Proof.Machine.execSetOptions tag seq minPin free threshold inactivity chunk pace s
  | .selfTestCipher tag seq => Sys2Proof.Machine.execSelfTestCipher tag seq s
  | .selfTestCipherInject tag seq => Sys2Proof.Machine.execSelfTestCipherInject tag seq s
  | .selfTestMedia tag seq passes => Sys2Proof.Machine.execSelfTestMedia tag seq passes s
  | .wipeAll tag seq => Sys2Proof.Machine.execWipeAll tag seq s
  | .unknownRequest tag seq code => Sys2Proof.Machine.execUnknownRequest tag seq code s
  | .admission => Sys2Proof.Machine.execAdmission s
  | .writeDataSector data => Sys2Proof.Machine.execWriteDataSector data s
  | .slotGrant => Sys2Proof.Machine.execSlotGrant s
  | .mediaCompletion tag status span data => Sys2Proof.Machine.execMediaCompletion tag status span data s
  | .tagTimeout tag => Sys2Proof.Machine.execTagTimeout tag s
  | .commitCompletion verified => Sys2Proof.Machine.execCommitCompletion verified s
  | .cipherTestEnd mismatches => Sys2Proof.Machine.execCipherTestEnd mismatches s
  | .comparisonResult => Sys2Proof.Machine.execComparisonResult s
  | .keypadScan pressed => Sys2Proof.Machine.execKeypadScan pressed s
  | .patternStepExpiry => Sys2Proof.Machine.execPatternStepExpiry s
  | .entryTimerExpiry => Sys2Proof.Machine.execEntryTimerExpiry s
  | .backoffTimerExpiry => Sys2Proof.Machine.execBackoffTimerExpiry s
  | .attachWindowExpiry => Sys2Proof.Machine.execAttachWindowExpiry s
  | .inactivityExpiry => Sys2Proof.Machine.execInactivityExpiry s
  | .standbyIdleTimerExpiry => Sys2Proof.Machine.execStandbyIdleTimerExpiry s
  | .keypadColumnEdge => Sys2Proof.Machine.execKeypadColumnEdge s
  | .settlingTimerExpiry pressed => Sys2Proof.Machine.execSettlingTimerExpiry pressed s
  | .powerLoss => Sys2Proof.Machine.execPowerLoss s

end Sys2Proof.Machine
end

