-- ==== Sys2Proof/Machine/Step.lean ====
section
/-! DEFINITION. One step: the command at the front of the queue, or, while none waits, one millisecond of every
timer that runs; and what the host puts in front of the queue. -/

namespace Sys2Proof.Machine

open Sys2Proof

/-! ### The passing of time -/

/-- One millisecond of a timer. -/
def tickTimer (t : Timer) : Timer := t.map (fun n => n - 1)

/-- One millisecond of a player's step. -/
def tickPlayer (p : Option Player) : Option Player := p.map (fun p => { p with left := p.left - 1 })

/-- One millisecond of a media tag's timeout (R11). -/
def tickTag : MediaTag → MediaTag
  | .busy c => .busy { c with left := c.left - 1 }
  | t => t

/-- One millisecond of the standby idle timer (R203). -/
def tickIdle : IdleTimer → IdleTimer
  | .running n => .running (n - 1)
  | .restarted => .running (Config.idleMs - 1)
  | t => t

/-- One millisecond in which no command comes: every timer that runs has that much less left. The expiries are
commands of their own. DESIGN CHOICE (assumption 2). The entry timer of an entry begun in STANDBY runs too, by R122
and against the table of R204: DEDUCED (assumption 36). -/
def tick (s : State) : State :=
  { s with
    media.tags := s.media.tags.map tickTag
    cipher.run := s.cipher.run.map (fun r => { r with left := r.left - 1 })
    keypad.timer := tickTimer s.keypad.timer
    keypad.withdrawn := false
    keypad.oneShot := tickPlayer s.keypad.oneShot
    keypad.player := if s.keypad.oneShot.isSome then s.keypad.player else tickPlayer s.keypad.player
    cred.comparison := s.cred.comparison.map (fun c => { c with left := c.left - 1 })
    cred.backoff := tickTimer s.cred.backoff
    ctl.window := tickTimer s.ctl.window
    ctl.inactivity := tickTimer s.ctl.inactivity
    ctl.withdrawn := false
    power.settling := tickTimer s.power.settling
    power.idle := tickIdle s.power.idle
    power.lastScan := none }

/-! ### The step -/

/-- Takes the command at the front of the queue and runs it with the queue's rest; with none waiting, time
passes. An empty queue: DESIGN CHOICE (assumption 2). -/
def step (s : State) : Host.Outcome State Fault Refusal :=
  match s.pending with
  | [] => .next (tick s)
  | c :: rest => exec c { s with pending := rest }

/-- A state with a command put at the front of its queue. -/
def State.withCommand (s : State) (c : Instr) : State := { s with pending := c :: s.pending }

/-- The command that a word spells, put at the front of the queue; the table's rows have no bits, so a word
spells none and the state is unchanged. DESIGN CHOICE (assumption 1). -/
def State.withFetchWord (s : State) (nbits w : Nat) : State :=
  match decodeTableWord nbits w with
  | some c => s.withCommand c
  | none => s

end Sys2Proof.Machine
end

