-- ==== Sys2Proof/Safety.lean ====
section
/-! DEFINITION. The terms the statements are made in: what an arrival and an answered request leave, the row that a
request sector stands for, and the invariants that every step keeps. -/

namespace Sys2Proof

/-! ### Rows -/

/-- The front tag, the sequence and the code that a request row carries (R189). -/
def Instr.request : Instr → Option (Tag × Byte × Byte)
  | .status tag seq => some (tag, seq, 0x01)
  | .lock tag seq => some (tag, seq, 0x02)
  | .readTable tag seq => some (tag, seq, 0x03)
  | .stageRegion tag seq _ _ _ _ _ _ _ => some (tag, seq, 0x04)
  | .setSlotMask tag seq _ _ => some (tag, seq, 0x05)
  | .clearPending tag seq => some (tag, seq, 0x06)
  | .applyTable tag seq => some (tag, seq, 0x07)
  | .eraseRegion tag seq _ _ => some (tag, seq, 0x08)
  | .cancelSweep tag seq => some (tag, seq, 0x09)
  | .enroll tag seq _ _ => some (tag, seq, 0x0A)
  | .removeProfile tag seq _ => some (tag, seq, 0x0B)
  | .setOptions tag seq _ _ _ _ _ _ => some (tag, seq, 0x0C)
  | .selfTestCipher tag seq => some (tag, seq, 0x0D)
  | .selfTestCipherInject tag seq => some (tag, seq, 0x0D)
  | .selfTestMedia tag seq _ => some (tag, seq, 0x0D)
  | .wipeAll tag seq => some (tag, seq, 0x0E)
  | .unknownRequest tag seq code => some (tag, seq, code)
  | .powerOn _ | .attach | .detach | .linkReset | .mediaReady | .frontRequestArrival _ _ _ _ _ | .admission
  | .writeDataSector _ | .slotGrant | .mediaCompletion _ _ _ _ | .tagTimeout _ | .commitCompletion _
  | .cipherTestEnd _ | .comparisonResult | .keypadScan _ | .patternStepExpiry | .entryTimerExpiry
  | .backoffTimerExpiry | .attachWindowExpiry | .inactivityExpiry | .standbyIdleTimerExpiry
  | .keypadColumnEdge | .settlingTimerExpiry _ | .powerLoss => none

/-- The twelve request rows that are answered DENIED unless admin is open (the table of section 9.2). -/
def Instr.privileged : Instr → Bool
  | .readTable _ _ | .stageRegion _ _ _ _ _ _ _ _ _ | .setSlotMask _ _ _ _ | .clearPending _ _
  | .applyTable _ _ | .eraseRegion _ _ _ _ | .cancelSweep _ _ | .enroll _ _ _ _ | .removeProfile _ _ _
  | .setOptions _ _ _ _ _ _ _ _ | .selfTestMedia _ _ _ | .wipeAll _ _ => true
  | .powerOn _ | .attach | .detach | .linkReset | .mediaReady | .frontRequestArrival _ _ _ _ _
  | .status _ _ | .lock _ _ | .selfTestCipher _ _ | .selfTestCipherInject _ _ | .unknownRequest _ _ _
  | .admission | .writeDataSector _ | .slotGrant | .mediaCompletion _ _ _ _ | .tagTimeout _
  | .commitCompletion _ | .cipherTestEnd _ | .comparisonResult | .keypadScan _ | .patternStepExpiry
  | .entryTimerExpiry | .backoffTimerExpiry | .attachWindowExpiry | .inactivityExpiry
  | .standbyIdleTimerExpiry | .keypadColumnEdge | .settlingTimerExpiry _ | .powerLoss => false

/-- The loss or the return of power, which sets every volatile field afresh. -/
def Instr.isPower (c : Instr) : Bool :=
  match c with
  | .powerOn _ | .powerLoss => true
  | _ => false

end Sys2Proof

namespace Sys2Proof.Machine

open Sys2Proof

/-! ### Requests -/

/-- A request with this front tag is heard: the front link is ATTACHED and the tag is FREE (R3, R7). -/
def State.hears (s : State) (tag : Tag) : Prop := s.front.link = .attached ∧ s.front.tags[tag] = .free

/-- The state once an arrival has been reported: an inactivity timer that runs starts again at I (R160), and an expiry
of it at this very moment does not take place (R161). -/
def State.arrived (s : State) : State :=
  { s with
    ctl.inactivity := s.ctl.inactivity.bind (fun _ =>
      if s.store.effective.inactivity = 0 then none
      else some (60000 * 2 ^ (s.store.effective.inactivity - 1)))
    ctl.withdrawn := s.ctl.withdrawn || (s.ctl.inactivity == some 0 && s.store.effective.inactivity != 0) }

/-- Whether an expiry of the entry timer is withdrawn once the timer has restarted (R122). -/
def State.entryRaced (s : State) : Bool := s.keypad.withdrawn || s.keypad.timer == some 0

/-- The state once a taken request has been answered: the response sector, and GOOD for the WRITE (R175). -/
def State.answered (s : State) (tag : Tag) (seq code : Byte) (r : Result) (payload : List Byte) : State :=
  { s with
    window.response := ⟨seq, code, r, payload⟩
    replies := s.replies ++ [⟨tag, .good, none, []⟩] }

/-- The state once a reply without data has been sent (R2). -/
def State.replied (s : State) (tag : Tag) (st : FrontStatus) : State :=
  { s with replies := s.replies ++ [⟨tag, st, none, []⟩] }

/-- The state once the one reply of a transaction has been sent and its tag is FREE (R1, R2). -/
def State.concluded (s : State) (tag : Tag) (st : FrontStatus) (span : Option Nat) (data : List Sector) : State :=
  { s with
    front.tags := s.front.tags.set tag .free
    replies := s.replies ++ [⟨tag, st, span, data⟩] }

/-- The row of the table that a signed request sector stands for (R189); none for a SELF_TEST whose selection names
no test (R185). -/
def requestRow (tag : Tag) (x : Sector) : Option Instr :=
  match (requestCode x).toNat with
  | 1 => some (.status tag (requestSeq x))
  | 2 => some (.lock tag (requestSeq x))
  | 3 => some (.readTable tag (requestSeq x))
  | 4 => some (.stageRegion tag (requestSeq x) (sectorByte x 8) (sectorByte x 9) (sectorByte x 10)
      (sectorByte x 11) (sectorByte x 12) (sectorWord x 16) (sectorWord x 20))
  | 5 => some (.setSlotMask tag (requestSeq x) (sectorByte x 8) (sectorByte x 9))
  | 6 => some (.clearPending tag (requestSeq x))
  | 7 => some (.applyTable tag (requestSeq x))
  | 8 => some (.eraseRegion tag (requestSeq x) (sectorByte x 8) (sectorByte x 9))
  | 9 => some (.cancelSweep tag (requestSeq x))
  | 10 => some (.enroll tag (requestSeq x) (sectorByte x 8) (sectorByte x 9))
  | 11 => some (.removeProfile tag (requestSeq x) (sectorByte x 8))
  | 12 => some (.setOptions tag (requestSeq x) (sectorByte x 8) (sectorByte x 9) (sectorByte x 10)
      (sectorByte x 11) (sectorByte x 12) (sectorByte x 13))
  | 13 =>
    match (sectorByte x 8).toNat with
    | 1 => some (.selfTestCipher tag (requestSeq x))
    | 2 => some (.selfTestCipherInject tag (requestSeq x))
    | 3 => some (.selfTestMedia tag (requestSeq x) (sectorByte x 9))
    | _ => none
  | 14 => some (.wipeAll tag (requestSeq x))
  | _ => some (.unknownRequest tag (requestSeq x) (requestCode x))

/-! ### Locking -/

/-- The state once the drive has locked, with the keypad given: no profile open, both timers stopped, every OPEN slot
CLOSED (R163). -/
def State.shut (s : State) (k : KeypadUnit) : State :=
  { s with
    ctl := { s.ctl with drive := .locked, openProfile := none, window := none, inactivity := none }
    cipher.slots := s.cipher.slots.map (fun x => if x.state = .opened then { x with state := .closed } else x)
    keypad := k }

/-- What a lock makes of an enrollment from OPEN: discarded with result CANCELLED, or, in COMMITTING, left to complete
(R139, R163). -/
def CredentialUnit.atLock (c : CredentialUnit) (e : Enroll) : CredentialUnit :=
  if e.step = .committing then { c with enroll := some { e with cancelled := true } }
  else { c with enroll := none, lastEnroll := .cancelled }

/-- `t` is `s` after a lock in the enrollment `e` from OPEN; a collection ends unless the step is COMMITTING (R118,
R139, R163). -/
def State.lockedFrom (s : State) (e : Enroll) (t : State) : Prop :=
  ∃ k : KeypadUnit, t = { s.shut k with cred := s.cred.atLock e } ∧
    k.selection = .idleLocked ∧ k.keys = s.keypad.keys ∧ k.oneShot = s.keypad.oneShot ∧
    (e.step ≠ .committing → k.buffer = [] ∧ k.phase = none ∧ k.timer = none) ∧
    (e.step = .committing → k.buffer = s.keypad.buffer ∧ k.phase = s.keypad.phase ∧ k.timer = s.keypad.timer)

/-- `t` is `s` after the enrollment `e` has failed with a result (R138); a failure comes only in ACTIVE, so that REJECT
plays. -/
def State.failedFrom (s : State) (e : Enroll) (r : EnrollResult) (t : State) : Prop :=
  ∃ k : KeypadUnit,
    t = { s with
      ctl.drive := (match e.origin with | .opened => .opened | .factory => .factory)
      cred := { s.cred with enroll := none, lastEnroll := r }
      keypad := k } ∧
    k.buffer = [] ∧ k.phase = none ∧ k.timer = none ∧ k.oneShot = some ⟨.reject, 0, 100, 3⟩ ∧
    k.keys = s.keypad.keys

/-! ### Admission and commits -/

/-- The PASS fragment of a region segment at its admission (R51, R53): under the slot's current instance, and with a
working key for a WRITE (R75). -/
def State.passPiece (s : State) (k : Kind) (id : Nat) (p : Pos) (e : Entry) (r : Range) : Frag :=
  { id := id, range := r, kind := .pass, recorded := false, pos := some p, key := s.instanceOf e, zeros := []
    state := .waiting
    workKey := if k = .write then (s.instanceOf e).bind (fun i => s.cipher.slots[i.slot].key) else none
    stored := [], plain := [], counted := true }

/-- A SWEEP commit has been requested: it runs, or it waits in the queue (R193). -/
def State.sweepAsked (s : State) : Prop :=
  (∃ c r, s.store.busy = some c ∧ c.content = .sweep r) ∨ ∃ e ∈ s.store.queue, e.record = .sweep

/-- The state once a verified commit is stored and none is in progress (R192). -/
def State.committed (s : State) (x : RecordContent) : State :=
  { s with store := { s.store.write x with busy := none } }

/-- Whether start-up restores a recorded job: its position is present, and the slot of a PRIVATE region is below the
highest generation (R108). -/
def State.keepsJob (s : State) (j : Job) : Bool :=
  match s.regions.table[j.pos.val]? with
  | none => false
  | some e => e.cls == .pub || e.slot.all (fun k => decide (s.cipher.slots[k].gen ≠ 4294967295))

/-! ### Validation (R30, R31) -/

/-- The previous entry of a pending position: the present position nearest below it (R30). -/
def State.previous (s : State) (p : Pos) (f : Entry) : Prop :=
  ∃ q : Pos, q < p ∧ s.regions.pending[q] = some f ∧ ∀ r : Pos, q < r → r < p → s.regions.pending[r] = none

/-- The table of R30: whether a reason fails at a present pending position. -/
def State.positionFails (s : State) (p : Pos) (e : Entry) : Reason → Prop
  | .order => ∃ f, s.previous p f ∧ e.base ≤ f.base
  | .gapPosition => ∃ q : Pos, q < p ∧ s.regions.pending[q] = none
  | .overlap => ∃ f, s.previous p f ∧ e.base < f.base + f.length
  | .align => e.base % 8 ≠ 0 ∨ e.length % 8 ≠ 0
  | .short => e.length < 2048
  | .beyondSpan => ∀ u, s.uSpan = some u → u < e.base + e.length
  | .publicWritable => e.cls = .pub ∧ e.writable = true
  | .badSlot => e.cls = .priv ∧ e.slot = none
  | .badMask | .keyClosed => False

/-- The table of R31: whether a reason fails for a slot that a present pending position names. -/
def State.slotFails (s : State) (k : SlotIx) : Reason → Prop
  | .badMask => s.regions.masks[k] = 0 ∨
      ∃ r : ProfIx, (s.regions.masks[k]).getLsbD r.val = true ∧ s.cred.profiles[r] = none
  | .keyClosed => (∃ e ∈ s.regions.table, e.slot = some k) ∧ s.regions.masks[k] ≠ s.cipher.slots[k].mask ∧
      s.cipher.slots[k].state ≠ .opened
  | _ => False

/-- Every present pending position passes R30. -/
def State.positionsPass (s : State) : Prop :=
  ∀ (p : Pos) (e : Entry) (r : Reason), s.regions.pending[p] = some e → ¬ s.positionFails p e r

/-! ### Standby -/

/-- The standby idle timer after a PRESS: at 20 s, its expiry withdrawn if it had just run out (R203; assumption
36). -/
def State.idleAfterPress (s : State) : IdleTimer :=
  if s.power.idle = .running 0 then .restarted else .running 20000

/-- The standby conditions cannot come to hold now: the part has the link's power, or its standby idle timer has not
expired (R203). -/
def State.staysAwake (s : State) : Prop := s.power.source = .link ∨ s.power.idle ≠ .expired

/-! ### The media port -/

/-- A tag is the lowest-numbered FREE media tag (R4, R17). -/
def State.lowestIs (s : State) (tag : Tag) : Prop :=
  s.media.tags[tag] = .free ∧ ∀ t : Tag, t < tag → s.media.tags[t] ≠ .free

/-! ### Invariants -/

/-- The front link, the power source and the attached item agree, and STANDBY is entered only while DETACHED (R155,
R202, R203); a capacity of at least 4,096 is in force exactly while the media is READY (R5, R6). -/
def State.linksInv (s : State) : Prop :=
  (s.front.link = .attached ↔ s.power.source = .link) ∧
  (s.ctl.attached = true ↔ s.power.source = .link) ∧
  (s.power.mode = .standby → s.power.source = .battery) ∧
  (s.media.state = .ready ↔ s.media.capacity.isSome = true) ∧
  (∀ c, s.media.capacity = some c → 4096 ≤ c)

/-- While no profile is open, no key slot is OPEN (R67). -/
def State.keysInv (s : State) : Prop :=
  s.ctl.openProfile = none → ∀ k : SlotIx, s.cipher.slots[k].state ≠ .opened

/-- The media image stands in its one canonical form (R73). -/
def State.imageInv (s : State) : Prop := flashWf s.flash = true

/-- The commit queue holds each record at most once (R193), and the attempt counter does not exceed 255 (R141). -/
def State.storeInv (s : State) : Prop :=
  (s.store.queue.map QueueEntry.record).Nodup ∧ s.cred.n ≤ 255

/-- What the slot records of the MAP record's two copies and of a MAP commit in progress obey (R23, R192). -/
def Store.mapSlots (st : Store) (ok : StoredSlot → Prop) : Prop :=
  (∀ k : SlotIx, ok st.map.a.content.slots[k] ∧ ok st.map.b.content.slots[k]) ∧
  ∀ c m, st.busy = some c → c.content = .map m → ∀ k : SlotIx, ok m.slots[k]

/-- No generation exceeds 4,294,967,295, in a slot or in the MAP record (R70). -/
def State.gensInv (s : State) : Prop :=
  (∀ k : SlotIx, s.cipher.slots[k].gen ≤ 4294967295) ∧ s.store.mapSlots (fun x => x.gen ≤ 4294967295)

/-- Every key held, in a slot, in a snapshot's copies or in the MAP record, was made before the next one: its name
lies below the counter of keys (assumption 7). -/
def State.freshInv (s : State) : Prop :=
  (∀ (k : SlotIx) (n : Nat), s.cipher.slots[k].key = some n → n < s.counters.keys) ∧
  (∀ x, s.regions.snapshot = some x → ∀ (k : SlotIx) (n : Nat), x.copies[k] = some n → n < s.counters.keys) ∧
  s.store.mapSlots (fun x => ∀ n, x.key = some n → n < s.counters.keys)

/-- The contexts go with the drive state: a profile is open only in OPEN and ENROLLING, an evaluation stands only in
EVALUATING, an enrollment in ENROLLING or, from OPEN and cancelled in COMMITTING, after a lock (R139); none is open
in an enrollment from FACTORY (R134); the start-up run belongs to start-up and the wipe's step to WIPING. -/
def State.modeInv (s : State) : Prop :=
  (s.ctl.openProfile ≠ none → s.ctl.drive = .opened ∨ s.ctl.drive = .enrolling) ∧
  (s.cred.eval ≠ none → s.ctl.drive = .evaluating) ∧
  (∀ e, s.cred.enroll = some e →
    (s.ctl.drive = .enrolling ∨ e.step = .committing ∧ e.cancelled = true ∧ e.origin = .opened) ∧
    (e.origin = .factory → s.ctl.openProfile = none)) ∧
  (∀ left, s.cipher.run = some ⟨.startUp, left⟩ → s.ctl.drive = .starting ∨ s.ctl.drive = .fault) ∧
  (s.ctl.wipeStep ≠ none → s.ctl.drive = .wiping)

/-- The profile that is open, or that a stored reset is to open, is ACTIVE; a slot whose removal is pending is EMPTY,
is never slot 0 and is not the target of an enrollment; an enrollment from FACTORY is of slot 0 (R133, R134, R140,
R144). -/
def State.profilesInv (s : State) : Prop :=
  (∀ p : ProfIx, s.ctl.openProfile = some p → s.cred.profiles[p] ≠ none) ∧
  (∀ (p : ProfIx) (d : List Digit), s.cred.eval = some ⟨d, .resetting p⟩ → s.cred.profiles[p] ≠ none) ∧
  (∀ r : ProfIx, s.cred.removal[r] = true → s.cred.profiles[r] = none ∧ r ≠ 0) ∧
  (∀ e, s.cred.enroll = some e →
    (e.step ≠ .committing → s.cred.removal[e.target] = false) ∧
    (e.origin = .factory → e.target = 0 ∧ (e.step = .committing → s.cred.profiles[(0 : ProfIx)] ≠ none)))

/-- A slot that the active table names holds a key (R23); a slot without a key is EMPTY, and one with a key is OPEN
exactly if its mask names the open profile, else CLOSED (R67). -/
def State.slotsInv (s : State) : Prop :=
  (∀ e ∈ s.regions.table, ∀ k : SlotIx, e.slot = some k → s.cipher.slots[k].key ≠ none) ∧
  ∀ k : SlotIx,
    (s.cipher.slots[k].state = .empty ↔ s.cipher.slots[k].key = none) ∧
    (s.cipher.slots[k].state = .opened ↔ s.cipher.slots[k].key ≠ none ∧
      ∃ p : ProfIx, s.ctl.openProfile = some p ∧ (s.cipher.slots[k].mask).getLsbD p.val = true)

/-- The active table obeys R22, and so does the table of a snapshot; the filter quiesces for an apply only while one
is DRAINING (R32, R44). -/
def State.tableInv (s : State) : Prop :=
  tableLaw 0 s.regions.table = true ∧ s.regions.table.length ≤ 16 ∧
  (∀ n, s.regions.snapshot = some n → tableLaw 0 (n.entries.toList.filterMap id) = true) ∧
  (s.filter.quiesce = .apply → s.regions.apply = .draining)

/-- The sweep that the SWEEP commit in progress names (R104). -/
def State.sweepStoring (s : State) : Option StoredSweep :=
  match s.store.busy with
  | some c => match c.content with | .sweep r => r.sweep | _ => none
  | none => none

/-- The erase engine's queue, stage and context agree (R85, R87 to R89, R111): a context stands only while its region
waits for its SWEEP commit or is SWEEPING, and is the head job's; in WIPING and in start-up the queue is empty; no
SWEEP commit in progress names a sweep without a context but in WIPING and in FAULT. -/
def State.eraseInv (s : State) : Prop :=
  (s.erase.stage = .idle ∨ s.erase.stage = .waitCount ∨ s.erase.stage = .waitMap → s.erase.sweep = none) ∧
  (s.erase.queue = [] → s.erase.stage = .idle ∧ s.erase.sweep = none) ∧
  (∀ x, s.erase.sweep = some x → ∃ j rest, s.erase.queue = j :: rest ∧ x.pos = j.pos) ∧
  (s.ctl.drive = .wiping → s.erase.queue = []) ∧
  (∀ left, s.cipher.run = some ⟨.startUp, left⟩ → s.erase.queue = [] ∧ s.sweepStoring = none) ∧
  (s.sweepStoring ≠ none → s.erase.sweep = none → s.ctl.drive = .wiping ∨ s.ctl.drive = .fault)

/-- A keep list obeys R101 over a position: sorted, disjoint, not adjacent, at most 16 ranges, each ending above it. -/
def keepLaw (c : Nat) (keep : List Range) : Prop :=
  keepSorted keep = true ∧ keep.length ≤ 16 ∧ ∀ k ∈ keep, c < k.hi

/-- The laws of the sweep (R91, R101) in the context, in the checkpoint that a SWEEP commit in progress has captured,
and in the keep lists of that commit and of the record's two copies. -/
def State.sweepInv (s : State) : Prop :=
  (∀ x, s.erase.sweep = some x →
    x.c ≤ x.w ∧ x.w ≤ x.q ∧ (x.chunk = none → x.w = x.q) ∧ keepLaw x.c x.keep ∧
    ∀ y, s.sweepStoring = some y → x.pos = y.pos → x.gen = y.gen → x.c ≤ y.checkpoint ∧ y.checkpoint ≤ x.w) ∧
  (∀ y, s.sweepStoring = some y ∨ s.store.sweep.a.content.sweep = some y ∨ s.store.sweep.b.content.sweep = some y →
    keepLaw y.checkpoint y.keep)

/-- The context lies in its region: base ≤ c, q ≤ end, and every keep range inside (R91, R101). -/
def State.sweepInside (s : State) : Prop :=
  ∀ x, s.erase.sweep = some x → ∃ e, s.regions.table[x.pos.val]? = some e ∧
    e.base ≤ x.c ∧ x.q ≤ e.base + e.length ∧ ∀ k ∈ x.keep, e.base ≤ k.lo ∧ k.hi ≤ e.base + e.length

/-- The model's names of transactions and of fragments are given once each, below the counter of names. -/
def State.namesInv (s : State) : Prop :=
  ((s.filter.queue ++ s.filter.txns).map Txn.id).Nodup ∧
  ((s.filter.txns.flatMap Txn.frags).map Frag.id).Nodup ∧
  (∀ t ∈ s.filter.queue ++ s.filter.txns, t.id < s.counters.ids) ∧
  (∀ t ∈ s.filter.txns, ∀ g ∈ t.frags, g.id < s.counters.ids)

end Sys2Proof.Machine
end

