-- ==== Sys2Proof/Certificates/Slice0/Obligations.lean ====
section
/-! DEFINITION. The statements for the provers: what the machine's step, each command and each record does, and the
invariants that every step keeps. `s.arrived` is the state once an arrival has been reported: an inactivity timer that
runs starts again (R160), and nothing else; `answered` writes the response sector and sends GOOD (R175). -/

open Sys2Proof Sys2Proof.Machine

/-! ### The step -/

/-- A step takes the command at the front of the queue and is `exec` of it with the queue's rest, which no command
changes. -/
def Obligations.StepRunsFrontCommand : Prop :=
  (∀ (c : Instr) (rest : List Instr) (s : State),
     step { s with pending := c :: rest } = exec c { s with pending := rest }) ∧
  (∀ (c : Instr) (s t : State), exec c s = .next t → t.pending = s.pending)

/-- With no command waiting, a step is one millisecond of every timer that runs, and the end of what the model keeps for
the commands of one moment (assumption 36), and nothing else: the model's own choice (assumption 2). -/
def Obligations.IdleStepPassesOneMillisecond : Prop :=
  ∀ s : State, s.pending = [] →
    step s = .next { s with
      media.tags := s.media.tags.map (fun t =>
        match t with
        | .busy c => .busy { c with left := c.left - 1 }
        | t => t)
      cipher.run := s.cipher.run.map (fun r => { r with left := r.left - 1 })
      keypad.timer := s.keypad.timer.map (fun n => n - 1)
      keypad.withdrawn := false
      keypad.oneShot := s.keypad.oneShot.map (fun p => { p with left := p.left - 1 })
      keypad.player :=
        if s.keypad.oneShot.isSome then s.keypad.player
        else s.keypad.player.map (fun p => { p with left := p.left - 1 })
      cred.comparison := s.cred.comparison.map (fun c => { c with left := c.left - 1 })
      cred.backoff := s.cred.backoff.map (fun n => n - 1)
      ctl.window := s.ctl.window.map (fun n => n - 1)
      ctl.inactivity := s.ctl.inactivity.map (fun n => n - 1)
      ctl.withdrawn := false
      power.settling := s.power.settling.map (fun n => n - 1)
      power.lastScan := none
      power.idle :=
        match s.power.idle with
        | .running n => .running (n - 1)
        | .restarted => .running 19999
        | t => t }

/-! ### Control window -/

/-- STATUS is answered OK in every drive state and changes nothing but the response (R178), beside the inactivity
timer that every arrival restarts; and the bytes of its payload (R187, R190), index 0 being offset 8 of the response
sector. -/
def Obligations.StatusAnswersInEveryState : Prop :=
  (∀ (s : State) (tag : Tag) (seq : Byte), s.hears tag →
     exec (.status tag seq) s = .next (s.arrived.answered tag seq 0x01 .ok s.arrived.statusPayload)) ∧
  (∀ s : State,
     s.statusPayload.length = 57 ∧
     s.statusPayload.take 8 =
       [s.ctl.drive.code,
        (match s.ctl.openProfile with | some p => BitVec.ofNat 8 p.val | none => 0xFF),
        (if s.ctl.attached then 1 else 0),
        (if s.power.source = .link then 1 else 2),
        BitVec.ofNat 8 s.cred.n,
        (match s.ctl.cause with | some c => c.code | none => 0),
        BitVec.ofNat 8 s.backoffLeft, BitVec.ofNat 8 (s.backoffLeft / 256)] ∧
     (s.statusPayload.drop 8).take 8 =
       [BitVec.ofNat 8 s.store.effective.minPin, BitVec.ofNat 8 s.store.effective.free,
        BitVec.ofNat 8 s.store.effective.threshold, BitVec.ofNat 8 s.store.effective.inactivity,
        BitVec.ofNat 8 s.store.effective.chunk, BitVec.ofNat 8 s.store.effective.pace,
        (if s.store.optionsDefault then 1 else 0),
        (if s.store.busy.isSome ∨ s.store.queue ≠ [] then 1 else 0)] ∧
     (s.statusPayload.drop 16).take 4 = le32 (s.uSpan.getD 0) ∧
     (s.statusPayload.drop 20).take 4 = le32 s.regions.epoch.toNat ∧
     s.statusPayload[24]? = some (if s.regions.apply = .draining then 1 else 0) ∧
     s.statusPayload[25]? = some (BitVec.ofNat 8 s.erase.queue.length) ∧
     (s.sweeping = none → (s.statusPayload.drop 26).take 15 = 0xFF :: List.replicate 14 0) ∧
     (∀ x, s.sweeping = some x →
       (s.statusPayload.drop 26).take 15 =
         [BitVec.ofNat 8 x.pos.val, (if s.paused x then 1 else 0)] ++ le32 x.c ++ le32 x.w ++ le32 x.q ++
           [BitVec.ofNat 8 x.keep.length]) ∧
     (s.statusPayload.drop 41).take 7 =
       [s.erase.lastResult.code, 0, 0] ++ le32 (match s.erase.lastResult with | .failed a => a | _ => 0) ∧
     (s.statusPayload.drop 48).take 9 =
       [s.cipher.result.code, s.cipher.test.state.code, BitVec.ofNat 8 s.cipher.test.requested,
        BitVec.ofNat 8 s.cipher.test.done] ++ le16 s.cipher.test.mismatched ++ le16 s.cipher.test.errors ++
         [s.cred.lastEnroll.code])

/-- A LOCK request on an OPEN drive locks it: no open profile, every OPEN slot CLOSED, both timers stopped, drive
LOCKED, background IDLE_LOCKED; nothing else changes (R162, R163, R179). In ENROLLING with origin OPEN it locks the
drive too, and the enrollment is discarded with result CANCELLED or, in COMMITTING, left to complete (R139). In ENTRY
the entry is discarded and the drive becomes LOCKED; in FACTORY, LOCKED, EVALUATING, BACKOFF and ENROLLING with origin
FACTORY the request is answered OK and changes no state; in WIPING it is answered NOT_NOW. The premises on the power
source and the enrollment context hold in every state a run reaches. (The other lock triggers: DetachTaken,
PressInEntry, TimersExpire.) -/
def Obligations.LockRequestLocks : Prop :=
  (∀ (s : State) (tag : Tag) (seq : Byte), s.hears tag → s.ctl.drive = .opened →
     s.power.source = .link → s.cred.enroll = none →
     ∃ k : KeypadUnit,
       exec (.lock tag seq) s = .next
         (State.answered { s with
           ctl := { s.ctl with drive := .locked, openProfile := none, window := none, inactivity := none }
           cipher.slots := s.cipher.slots.map (fun x => if x.state = .opened then { x with state := .closed } else x)
           keypad := k } tag seq 0x02 .ok []) ∧
       k.selection = .idleLocked ∧ k.keys = s.keypad.keys ∧ k.buffer = s.keypad.buffer ∧
       k.phase = s.keypad.phase ∧ k.timer = s.keypad.timer ∧ k.oneShot = s.keypad.oneShot) ∧
  (∀ (s : State) (tag : Tag) (seq : Byte), s.hears tag → s.power.source = .link →
     (s.ctl.drive = .entry →
       ∃ k : KeypadUnit,
         exec (.lock tag seq) s = .next (State.answered { s.arrived with
           ctl := { s.arrived.ctl with drive := .locked }, keypad := k } tag seq 0x02 .ok []) ∧
         k.buffer = [] ∧ k.phase = none ∧ k.timer = none ∧ k.selection = .idleLocked ∧
         k.keys = s.keypad.keys ∧ k.oneShot = s.keypad.oneShot) ∧
     (s.ctl.drive = .factory ∨ s.ctl.drive = .locked ∨ s.ctl.drive = .evaluating ∨ s.ctl.drive = .backoff ∨
         (s.ctl.drive = .enrolling ∧ ∃ e, s.cred.enroll = some e ∧ e.origin = .factory) →
       exec (.lock tag seq) s = .next (s.arrived.answered tag seq 0x02 .ok [])) ∧
     (s.ctl.drive = .wiping →
       exec (.lock tag seq) s = .next (s.arrived.answered tag seq 0x02 .notNow []))) ∧
  (∀ (s : State) (tag : Tag) (seq : Byte) (e : Enroll), s.hears tag → s.power.source = .link →
     s.ctl.drive = .enrolling → s.cred.enroll = some e → e.origin = .opened →
     ∃ t, s.arrived.lockedFrom e t ∧ exec (.lock tag seq) s = .next (t.answered tag seq 0x02 .ok []))

/-- READ_TABLE with admin open is answered OK with the table, the slot records, the epoch and the apply state, and
changes nothing but the response (R180); and the bytes of its payload (R190), index 0 being offset 8. -/
def Obligations.ReadTableAnswers : Prop :=
  (∀ (s : State) (tag : Tag) (seq : Byte), s.hears tag → s.ctl.drive ≠ .fault → s.ctl.openProfile = some 0 →
     exec (.readTable tag seq) s = .next (s.arrived.answered tag seq 0x03 .ok s.arrived.tablePayload)) ∧
  (∀ s : State,
     s.tablePayload.length = 264 ∧
     s.tablePayload.take 8 =
       [BitVec.ofNat 8 s.regions.table.length, (if s.regions.apply = .draining then 1 else 0), 0, 0] ++
         le32 s.regions.epoch.toNat ∧
     (∀ p : Pos, (s.tablePayload.drop (8 + 12 * p.val)).take 12 =
       match s.regions.table[p.val]? with
       | some e => le32 e.base ++ le32 e.length ++
           [(match e.cls with | .pub => 1 | .priv => 2), (if e.writable then 1 else 0),
            (match e.slot with | some k => BitVec.ofNat 8 k.val | none => 0xFF), 0]
       | none => List.replicate 12 0) ∧
     (∀ k : SlotIx, (s.tablePayload.drop (200 + 8 * k.val)).take 8 =
       [(match s.cipher.slots[k].state with | .empty => 0 | .closed => 1 | .opened => 2),
        s.cipher.slots[k].mask, 0, 0] ++ le32 s.cipher.slots[k].gen))

/-- STAGE_REGION with admin open (R26): a position above 15, a class that is neither PUBLIC nor PRIVATE, and a
PRIVATE entry with a key slot above 7 other than "no slot", give BAD_FIELD and change no state; a request that marks
the position absent makes it absent; one that gives an entry makes the position present with the fields given, the
slot absent for a PUBLIC entry. SET_SLOT_MASK (R27): a slot above 7 gives BAD_FIELD; otherwise the slot's pending
mask becomes the mask given, whatever it is. -/
def Obligations.StagingEditsPending : Prop :=
  (∀ (s : State) (tag : Tag) (seq position present cls writable slot : Byte) (base length : BitVec 32),
     s.hears tag → s.ctl.drive ≠ .fault → s.ctl.openProfile = some 0 →
     (15 < position.toNat →
       exec (.stageRegion tag seq position present cls writable slot base length) s =
         .next (s.arrived.answered tag seq 0x04 .badField [])) ∧
     (∀ p : Pos, position.toNat = p.val → present = 0 →
       exec (.stageRegion tag seq position present cls writable slot base length) s =
         .next (State.answered { s.arrived with regions.pending := s.regions.pending.set p none }
           tag seq 0x04 .ok [])) ∧
     (∀ p : Pos, position.toNat = p.val → present ≠ 0 →
       (cls ≠ 1 → cls ≠ 2 →
         exec (.stageRegion tag seq position present cls writable slot base length) s =
           .next (s.arrived.answered tag seq 0x04 .badField [])) ∧
       (cls = 1 →
         exec (.stageRegion tag seq position present cls writable slot base length) s =
           .next (State.answered { s.arrived with
             regions.pending := s.regions.pending.set p
               (some ⟨base.toNat, length.toNat, .pub, decide (writable ≠ 0), none⟩) } tag seq 0x04 .ok [])) ∧
       (cls = 2 → slot = 0xFF →
         exec (.stageRegion tag seq position present cls writable slot base length) s =
           .next (State.answered { s.arrived with
             regions.pending := s.regions.pending.set p
               (some ⟨base.toNat, length.toNat, .priv, decide (writable ≠ 0), none⟩) } tag seq 0x04 .ok [])) ∧
       (cls = 2 → slot ≠ 0xFF → 7 < slot.toNat →
         exec (.stageRegion tag seq position present cls writable slot base length) s =
           .next (s.arrived.answered tag seq 0x04 .badField [])) ∧
       (∀ k : SlotIx, cls = 2 → slot.toNat = k.val →
         exec (.stageRegion tag seq position present cls writable slot base length) s =
           .next (State.answered { s.arrived with
             regions.pending := s.regions.pending.set p
               (some ⟨base.toNat, length.toNat, .priv, decide (writable ≠ 0), some k⟩) } tag seq 0x04 .ok [])))) ∧
  (∀ (s : State) (tag : Tag) (seq slot mask : Byte),
     s.hears tag → s.ctl.drive ≠ .fault → s.ctl.openProfile = some 0 →
     (7 < slot.toNat →
       exec (.setSlotMask tag seq slot mask) s = .next (s.arrived.answered tag seq 0x05 .badField [])) ∧
     (∀ k : SlotIx, slot.toNat = k.val →
       exec (.setSlotMask tag seq slot mask) s =
         .next (State.answered { s.arrived with regions.masks := s.regions.masks.set k mask } tag seq 0x05 .ok [])))

/-- CLEAR_PENDING makes the pending table a copy of the active table with its masks, and the result is OK (R28, R25). -/
def Obligations.ClearPendingCopiesActive : Prop :=
  ∀ (s : State) (tag : Tag) (seq : Byte), s.hears tag → s.ctl.drive ≠ .fault → s.ctl.openProfile = some 0 →
    exec (.clearPending tag seq) s =
      .next (State.answered { s.arrived with
        regions.pending := Vector.ofFn (fun p => s.regions.table[p.val]?)
        regions.masks := Vector.ofFn (fun k => s.cipher.slots[k].mask) } tag seq 0x06 .ok [])

/-- APPLY_TABLE's refusals in their order (R29): BUSY while an apply is DRAINING, while the erase queue is not empty,
while the media test drains or runs; INVALID_TABLE with the reason and the position that validation finds;
ERASE_LIMIT. Each changes nothing but the response. Accepted (R32), it takes the snapshot of the pending table and
its masks, a copy of the key of every OPEN slot that both tables name and whose mask changes, sets quiesce APPLY and
state DRAINING; with fragments in flight nothing else happens. -/
def Obligations.ApplyTableAnswers : Prop :=
  (∀ (s : State) (tag : Tag) (seq : Byte), s.hears tag → s.ctl.drive ≠ .fault → s.ctl.openProfile = some 0 →
     (s.regions.apply = .draining ∨ s.erase.queue ≠ [] ∨ s.cipher.test.state = .draining ∨
         s.cipher.test.state = .running →
       exec (.applyTable tag seq) s = .next (s.arrived.answered tag seq 0x07 .busy [])) ∧
     (s.regions.apply = .idle → s.erase.queue = [] → s.cipher.test.state ≠ .draining →
         s.cipher.test.state ≠ .running →
       (∀ r p, validate s = some (r, p) →
         exec (.applyTable tag seq) s =
           .next (s.arrived.answered tag seq 0x07 .invalidTable [r.code, BitVec.ofNat 8 p])) ∧
       (validate s = none →
         (∃ k : SlotIx, positionsName s.regions.pending k ≠ tableNames s.regions.table k ∧
           s.cipher.slots[k].gen = 4294967295) →
         exec (.applyTable tag seq) s = .next (s.arrived.answered tag seq 0x07 .eraseLimit [])))) ∧
  (∀ (s : State) (tag : Tag) (seq : Byte), s.hears tag → s.ctl.drive ≠ .fault → s.ctl.openProfile = some 0 →
     s.regions.apply = .idle → s.erase.queue = [] → s.cipher.test.state ≠ .draining →
     s.cipher.test.state ≠ .running → validate s = none →
     (∀ k : SlotIx, positionsName s.regions.pending k ≠ tableNames s.regions.table k →
       s.cipher.slots[k].gen ≠ 4294967295) →
     s.filter.total ≠ 0 →
     exec (.applyTable tag seq) s =
       .next (State.answered { s.arrived with
         regions.apply := .draining
         filter.quiesce := .apply
         regions.snapshot := some
           { entries := s.regions.pending, masks := s.regions.masks, swapped := false
             copies := Vector.ofFn (fun k =>
               if tableNames s.regions.table k = true ∧ positionsName s.regions.pending k = true ∧
                   s.regions.masks[k] ≠ s.cipher.slots[k].mask ∧ s.cipher.slots[k].state = .opened then
                 s.cipher.slots[k].key
               else none) } } tag seq 0x07 .accepted []))

/-- With nothing in flight an accepted APPLY_TABLE swaps at once (R32, R34): the present positions become the active
table, the epoch rises by 1; a slot newly named gets a key that no earlier key was (numbers of the counter
of assumption 7, above every key held by NamesStayUnique), the next generation and its mask;
a slot no longer named is EMPTY at the next generation with mask 0; a slot named in both keeps its key and generation
and takes its mask; every slot that holds a key is OPEN exactly if its mask names profile 0, the open one; the MAP
commit is requested and the apply stays DRAINING. -/
def Obligations.ApplyTableSwapsWhenDrained : Prop :=
  ∀ (s : State) (tag : Tag) (seq : Byte), s.hears tag → s.ctl.drive ≠ .fault → s.ctl.openProfile = some 0 →
    s.regions.apply = .idle → s.erase.queue = [] → s.cipher.test.state ≠ .draining →
    s.cipher.test.state ≠ .running → validate s = none →
    (∀ k : SlotIx, positionsName s.regions.pending k ≠ tableNames s.regions.table k →
      s.cipher.slots[k].gen < 4294967295) →
    s.filter.total = 0 → (∀ k : SlotIx, tableNames s.regions.table k = true → s.cipher.slots[k].key.isSome = true) →
    ∃ t, exec (.applyTable tag seq) s = .next t ∧
      t.window.response = ⟨seq, 0x07, .accepted, []⟩ ∧
      t.regions.apply = .draining ∧ t.filter.quiesce = .apply ∧
      t.regions.table = s.regions.pending.toList.filterMap id ∧
      t.regions.epoch = s.regions.epoch + 1 ∧
      (∀ k : SlotIx,
        (tableNames s.regions.table k = false → positionsName s.regions.pending k = true →
          t.cipher.slots[k].gen = s.cipher.slots[k].gen + 1 ∧ t.cipher.slots[k].mask = s.regions.masks[k] ∧
          ∃ n, t.cipher.slots[k].key = some n ∧ s.counters.keys ≤ n ∧ n < t.counters.keys) ∧
        (tableNames s.regions.table k = true → positionsName s.regions.pending k = false →
          t.cipher.slots[k] = ⟨.empty, none, s.cipher.slots[k].gen + 1, 0⟩) ∧
        (tableNames s.regions.table k = true → positionsName s.regions.pending k = true →
          t.cipher.slots[k].gen = s.cipher.slots[k].gen ∧ t.cipher.slots[k].mask = s.regions.masks[k] ∧
          t.cipher.slots[k].key = s.cipher.slots[k].key) ∧
        (tableNames s.regions.table k = false → positionsName s.regions.pending k = false →
          t.cipher.slots[k] = s.cipher.slots[k]) ∧
        (positionsName s.regions.pending k = true →
          t.cipher.slots[k].state = if (s.regions.masks[k]).getLsbD 0 then .opened else .closed)) ∧
      (s.store.busy = none → s.store.queue = [] →
        ∃ b, t.store.busy = some b ∧ b.content = .map t.mapRecord) ∧
      t.flash = s.flash ∧ t.erase = s.erase ∧ t.cred = s.cred ∧ t.media = s.media ∧ t.front = s.front ∧
      t.power = s.power ∧ t.keypad = s.keypad ∧ t.ctl = s.arrived.ctl

/-- A pending table that passes validation obeys the laws of the table (R22, R30, R31): present positions stand first
and in base order without overlap, every base and length is a multiple of 8, no length is below 2,048, no end lies
above U, no PUBLIC entry is writable, every PRIVATE entry names a slot; and the pending mask of every slot named is
not 0 and names ACTIVE profiles only. And what validation reports: the first position from 0 on at which a reason of
R30 fails, with the first such reason; with every position passing, the first slot named from 0 on for which a reason
of R31 fails, at the lowest position that names it; and nothing for a table in which no reason fails. -/
def Obligations.ValidationGivesTheLaws : Prop :=
  (∀ s : State, validate s = none →
     (∀ p q : Pos, p < q → s.regions.pending[q] ≠ none → s.regions.pending[p] ≠ none) ∧
     (∀ (p q : Pos) (e f : Entry), p < q → s.regions.pending[p] = some e → s.regions.pending[q] = some f →
       e.base < f.base ∧ e.base + e.length ≤ f.base) ∧
     (∀ (p : Pos) (e : Entry), s.regions.pending[p] = some e →
       e.base % 8 = 0 ∧ e.length % 8 = 0 ∧ 2048 ≤ e.length ∧
       (∃ u, s.uSpan = some u ∧ e.base + e.length ≤ u) ∧
       (e.cls = .pub → e.writable = false) ∧ (e.cls = .priv → e.slot ≠ none)) ∧
     (∀ (p : Pos) (e : Entry) (k : SlotIx), s.regions.pending[p] = some e → e.slot = some k →
       s.regions.masks[k] ≠ 0 ∧
       ∀ r : ProfIx, (s.regions.masks[k]).getLsbD r.val = true → s.cred.profiles[r] ≠ none)) ∧
  (∀ (s : State) (p : Pos) (e : Entry) (r : Reason), s.regions.pending[p] = some e → s.positionFails p e r →
     (∀ x : Reason, x.code < r.code → ¬ s.positionFails p e x) →
     (∀ (q : Pos) (f : Entry) (x : Reason), q < p → s.regions.pending[q] = some f → ¬ s.positionFails q f x) →
     validate s = some (r, p.val)) ∧
  (∀ (s : State) (k : SlotIx) (p : Pos) (e : Entry) (r : Reason), s.positionsPass →
     s.regions.pending[p] = some e → e.slot = some k →
     (∀ (q : Pos) (f : Entry), q < p → s.regions.pending[q] = some f → f.slot ≠ some k) →
     s.slotFails k r → (∀ x : Reason, x.code < r.code → ¬ s.slotFails k x) →
     (∀ (j : SlotIx) (q : Pos) (f : Entry) (x : Reason), j < k → s.regions.pending[q] = some f → f.slot = some j →
       ¬ s.slotFails j x) →
     validate s = some (r, p.val)) ∧
  (∀ s : State, s.positionsPass →
     (∀ (k : SlotIx) (q : Pos) (f : Entry) (x : Reason), s.regions.pending[q] = some f → f.slot = some k →
       ¬ s.slotFails k x) →
     validate s = none)

/-! ### The gates of a request -/

/-- An arrival of FRONT_REQUEST_ARRIVAL that carries a signed request sector to W is the row that the sector stands
for: that a request row is the whole arrival, and so equals it, is the model's reading of the spec, not a rule of it
(assumption 12). A SELF_TEST whose selection names no test is answered BAD_FIELD, and NOT_NOW in FAULT (R176, R185),
its arrival and its taking one event by the same reading. -/
def Obligations.RequestSectorIsItsRow : Prop :=
  ∀ (s : State) (tag : Tag) (x : Sector), requestSigned x = true →
    (∀ c, requestRow tag x = some c →
      exec (.frontRequestArrival 2 (BitVec.ofNat 8 tag.val) 4294967232 1 x) s = exec c s) ∧
    (requestRow tag x = none → s.hears tag →
      exec (.frontRequestArrival 2 (BitVec.ofNat 8 tag.val) 4294967232 1 x) s =
        .next (s.arrived.answered tag (requestSeq x) 0x0D
          (if s.ctl.drive = .fault then .notNow else .badField) []))

/-- What comes before a request's own cases (R3, R7, R176 and the table of section 9.2): no request can arrive while
the link is DETACHED, and a row that comes all the same changes nothing, the model's choice (assumption 4); an
OUTSTANDING tag gets TAG_IN_USE; in FAULT every request but STATUS is answered NOT_NOW; a privileged request is
answered DENIED unless admin is open. A code that names no request is answered UNKNOWN_REQUEST in every drive state,
FAULT among them. -/
def Obligations.RequestGates : Prop :=
  (∀ (s : State) (c : Instr) (tag : Tag) (seq code : Byte), c.request = some (tag, seq, code) → c.wf = true →
     (s.front.link = .detached → exec c s = .next s) ∧
     (s.front.link = .attached → s.front.tags[tag] ≠ .free → exec c s = .next (s.arrived.replied tag .tagInUse)) ∧
     (s.hears tag → s.ctl.drive = .fault → 2 ≤ code.toNat → code.toNat ≤ 14 →
       exec c s = .next (s.arrived.answered tag seq code .notNow [])) ∧
     (s.hears tag → s.ctl.drive ≠ .fault → c.privileged = true → s.ctl.openProfile ≠ some 0 →
       exec c s = .next (s.arrived.answered tag seq code .denied []))) ∧
  (∀ (s : State) (tag : Tag) (seq code : Byte), s.hears tag → code = 0 ∨ 15 ≤ code.toNat →
     exec (.unknownRequest tag seq code) s = .next (s.arrived.answered tag seq code .unknownRequest []))

/-! ### The settings store's requests -/

/-- A commit request (R193): one for a record that stands in the queue joins its entry, any other joins the tail;
with no commit in progress, an empty queue and the drive not in FAULT the commit starts at once with the content as
it stands; otherwise nothing else changes. -/
def Obligations.CommitRequestJoinsOrStarts : Prop :=
  ∀ (s : State) (r : RecordId) (ws : List Waiter), (s.store.queue.map QueueEntry.record).Nodup →
    (s.store.busy = none → s.store.queue = [] → s.ctl.drive ≠ .fault →
      requestCommit r ws s = { s with store.busy := some ⟨s.capture r, ws, s.erase.additions⟩ }) ∧
    ((s.store.busy ≠ none ∨ s.ctl.drive = .fault) → (∀ e ∈ s.store.queue, e.record ≠ r) →
      requestCommit r ws s = { s with store.queue := s.store.queue ++ [⟨r, ws⟩] }) ∧
    (∀ before after old, (s.store.busy ≠ none ∨ s.ctl.drive = .fault) →
      s.store.queue = before ++ ⟨r, old⟩ :: after →
      requestCommit r ws s = { s with store.queue := before ++ ⟨r, old ++ ws⟩ :: after })

/-! ### Requests to the erase engine -/

/-- ERASE_REGION's refusals in their order (R86, R182): BAD_FIELD for a mode that is neither QUICK nor FULL, a
position above 15 or absent, QUICK on a PUBLIC region; SHARED_KEY; EXISTS; BUSY for a full queue or an apply
DRAINING; ERASE_LIMIT. Each changes nothing but the response. Accepted behind other jobs, the job joins the tail of
the queue, a SWEEP commit is requested, and nothing else changes. -/
def Obligations.EraseRegionAnswers : Prop :=
  (∀ (s : State) (tag : Tag) (seq position mode : Byte),
     s.hears tag → s.ctl.drive ≠ .fault → s.ctl.openProfile = some 0 →
     ((mode ≠ 1 ∧ mode ≠ 2) ∨ 15 < position.toNat ∨ s.regions.table[position.toNat]? = none ∨
         (mode = 1 ∧ ∃ e, s.regions.table[position.toNat]? = some e ∧ e.cls = .pub) →
       exec (.eraseRegion tag seq position mode) s = .next (s.arrived.answered tag seq 0x08 .badField [])) ∧
     (∀ (p : Pos) (e : Entry), position.toNat = p.val → s.regions.table[p.val]? = some e →
       (mode = 2 ∨ (mode = 1 ∧ e.cls = .priv)) →
       ((∃ (k : SlotIx) (q : Pos) (f : Entry), e.slot = some k ∧ q ≠ p ∧ s.regions.table[q.val]? = some f ∧
           f.slot = some k) →
         exec (.eraseRegion tag seq position mode) s = .next (s.arrived.answered tag seq 0x08 .sharedKey [])) ∧
       ((∀ (k : SlotIx) (q : Pos) (f : Entry), e.slot = some k → q ≠ p → s.regions.table[q.val]? = some f →
           f.slot ≠ some k) →
         ((∃ j ∈ s.erase.queue, j.pos = p) →
           exec (.eraseRegion tag seq position mode) s = .next (s.arrived.answered tag seq 0x08 .exists [])) ∧
         ((∀ j ∈ s.erase.queue, j.pos ≠ p) →
           (4 ≤ s.erase.queue.length ∨ s.regions.apply = .draining →
             exec (.eraseRegion tag seq position mode) s = .next (s.arrived.answered tag seq 0x08 .busy [])) ∧
           (∀ k : SlotIx, s.erase.queue.length < 4 → s.regions.apply = .idle → e.cls = .priv → e.slot = some k →
             s.cipher.slots[k].gen = 4294967295 →
             exec (.eraseRegion tag seq position mode) s =
               .next (s.arrived.answered tag seq 0x08 .eraseLimit [])))))) ∧
  (∀ (s : State) (tag : Tag) (seq position mode : Byte) (p : Pos) (e : Entry) (m : EraseMode),
     s.hears tag → s.ctl.drive ≠ .fault → s.ctl.openProfile = some 0 →
     position.toNat = p.val → (mode = 1 ∧ m = .quick ∧ e.cls = .priv ∨ mode = 2 ∧ m = .full) →
     s.regions.table[p.val]? = some e →
     (∀ (k : SlotIx) (q : Pos) (f : Entry), e.slot = some k → q ≠ p → s.regions.table[q.val]? = some f →
       f.slot ≠ some k) →
     (∀ j ∈ s.erase.queue, j.pos ≠ p) → s.erase.queue.length < 4 → s.regions.apply = .idle →
     (∀ k : SlotIx, e.cls = .priv → e.slot = some k → s.cipher.slots[k].gen ≠ 4294967295) →
     s.erase.queue ≠ [] →
     exec (.eraseRegion tag seq position mode) s =
       .next (State.answered (requestCommit .sweep [] { s.arrived with erase.queue := s.erase.queue ++ [⟨p, m⟩] })
         tag seq 0x08 .accepted []))

/-- An accepted ERASE_REGION on a PRIVATE region with the queue empty (R86 to R88, R71): the job is the head. With
fragments in flight there it waits. With none, the key of the slot is replaced by one that no earlier key was (a
number of the counter of assumption 7, above every key held by NamesStayUnique), the generation rises by 1, mask and
state stay, and the MAP commit is requested behind the SWEEP commit. On a PUBLIC region a FULL job's sweep is set up
at once (R88). The completion of the MAP commit ends a QUICK job, the queue's SWEEP commit being requested, and sets
up a FULL job's sweep at the base with its SWEEP commit; the completion of that one makes the region SWEEPING (R88,
R89). -/
def Obligations.EraseRegionReplacesKey : Prop :=
  (∀ (s : State) (tag : Tag) (seq position mode : Byte) (p : Pos) (e : Entry) (m : EraseMode) (k : SlotIx),
     s.hears tag → s.ctl.drive ≠ .fault → s.ctl.openProfile = some 0 →
     position.toNat = p.val → (mode = 1 ∧ m = .quick ∨ mode = 2 ∧ m = .full) →
     s.regions.table[p.val]? = some e → e.cls = .priv → e.slot = some k →
     (∀ (q : Pos) (f : Entry), q ≠ p → s.regions.table[q.val]? = some f → f.slot ≠ some k) →
     s.erase.queue = [] → s.regions.apply = .idle → s.cipher.slots[k].gen < 4294967295 →
     (s.filter.inFlight[p] ≠ 0 →
       exec (.eraseRegion tag seq position mode) s =
         .next (State.answered { requestCommit .sweep [] { s.arrived with erase.queue := [⟨p, m⟩] } with
           erase := { s.erase with queue := [⟨p, m⟩], stage := .waitCount } } tag seq 0x08 .accepted [])) ∧
     (s.filter.inFlight[p] = 0 →
       exec (.eraseRegion tag seq position mode) s =
         .next (State.answered
           (requestCommit .map [.eraseMap]
             { requestCommit .sweep [] { s.arrived with erase.queue := [⟨p, m⟩] } with
               erase := { s.erase with queue := [⟨p, m⟩], stage := .waitMap }
               cipher.slots := s.cipher.slots.set k
                 { state := s.cipher.slots[k].state, key := some s.counters.keys, gen := s.cipher.slots[k].gen + 1,
                   mask := s.cipher.slots[k].mask }
               counters.keys := s.counters.keys + 1 }) tag seq 0x08 .accepted []))) ∧
  (∀ (s : State) (tag : Tag) (seq position : Byte) (p : Pos) (e : Entry),
     s.hears tag → s.ctl.drive ≠ .fault → s.ctl.openProfile = some 0 → position.toNat = p.val →
     s.regions.table[p.val]? = some e → e.cls = .pub → e.slot = none → s.erase.queue = [] → s.regions.apply = .idle →
     s.filter.inFlight[p] = 0 →
     exec (.eraseRegion tag seq position 2) s =
       .next (State.answered
         (requestCommit .sweep [.eraseSweep]
           { requestCommit .sweep [] { s.arrived with erase.queue := [⟨p, .full⟩] } with
             erase := { s.erase with
               queue := [⟨p, .full⟩], stage := .waitSweep
               sweep := some ⟨p, none, e.base, e.base, e.base, none, [], 0, .running, .none⟩ } })
         tag seq 0x08 .accepted [])) ∧
  (∀ (s : State) (m : MapRecord) (a : BitVec 32) (p : Pos) (e : Entry) (k : SlotIx), s.staysAwake →
     s.ctl.drive ≠ .fault → s.store.busy = some ⟨.map m, [.eraseMap], a⟩ → s.store.queue = [] →
     s.erase.stage = .waitMap → s.regions.table[p.val]? = some e → e.cls = .priv → e.slot = some k →
     (s.erase.queue = [⟨p, .quick⟩] →
       exec (.commitCompletion true) s = .next (requestCommit .sweep []
         { s.committed (.map m) with erase := { s.erase with queue := [], stage := .idle, sweep := none } })) ∧
     (∀ rest, s.erase.queue = ⟨p, .full⟩ :: rest →
       exec (.commitCompletion true) s = .next (requestCommit .sweep [.eraseSweep]
         { s.committed (.map m) with
           erase := { s.erase with
             stage := .waitSweep
             sweep := some
               ⟨p, some s.cipher.slots[k].gen, e.base, e.base, e.base, none, [], 0, .running, .none⟩ } }))) ∧
  (∀ (s : State) (jobs : List Job) (a : BitVec 32) (x : Sweep), s.staysAwake → s.ctl.drive ≠ .fault →
     s.store.busy = some ⟨.sweep ⟨some ⟨x.pos, x.gen, x.c, []⟩, jobs⟩, [.eraseSweep], a⟩ → s.store.queue = [] →
     s.erase.stage = .waitSweep → s.erase.sweep = some x → x.keep = [] →
     (∀ t ∈ s.filter.txns, t.waiting = false) → (∀ l, s.sweepLimit x.pos = some l → x.q < l) →
     exec (.commitCompletion true) s = .next
       { s.committed (.sweep ⟨some ⟨x.pos, x.gen, x.c, []⟩, jobs⟩) with erase := { s.erase with stage := .sweeping } })

/-- CANCEL_SWEEP (R100): NOT_NOW with no region SWEEPING, BUSY outside phase RUNNING, else ACCEPTED. With a chunk on
a media tag the phase becomes CANCELLING; with no chunk in flight the outcome is CANCELLED, q returns to w, the phase
becomes ENDING and a SWEEP commit is requested. -/
def Obligations.CancelSweepAnswers : Prop :=
  ∀ (s : State) (tag : Tag) (seq : Byte), s.hears tag → s.ctl.drive ≠ .fault → s.ctl.openProfile = some 0 →
    (s.erase.stage ≠ .sweeping →
      exec (.cancelSweep tag seq) s = .next (s.arrived.answered tag seq 0x09 .notNow [])) ∧
    (∀ x, s.erase.stage = .sweeping → s.erase.sweep = some x →
      (x.phase ≠ .running → exec (.cancelSweep tag seq) s = .next (s.arrived.answered tag seq 0x09 .busy [])) ∧
      (∀ k, x.phase = .running → x.chunk = some k → k.onTag = true →
        exec (.cancelSweep tag seq) s =
          .next (State.answered { s.arrived with erase.sweep := some { x with phase := .cancelling } }
            tag seq 0x09 .accepted [])) ∧
      (x.phase = .running → x.chunk = none →
        exec (.cancelSweep tag seq) s =
          .next (State.answered
            (requestCommit .sweep []
              { s.arrived with
                erase.sweep := some { x with q := x.w, phase := .ending, outcome := .cancelled } })
            tag seq 0x09 .accepted [])))

/-! ### Requests to the credential unit, the cipher unit and the lock controller -/

/-- ENROLL by the cases of R133 in their order; accepted, it makes the enrollment context with origin OPEN and step
WAIT_FIRST, shows RUNNING and sets the drive state to ENROLLING with its background. -/
def Obligations.EnrollAnswers : Prop :=
  ∀ (s : State) (tag : Tag) (seq slot kind : Byte),
    s.hears tag → s.ctl.drive ≠ .fault → s.ctl.openProfile = some 0 →
    (s.ctl.drive = .enrolling →
      exec (.enroll tag seq slot kind) s = .next (s.arrived.answered tag seq 0x0A .busy [])) ∧
    (s.ctl.drive ≠ .enrolling →
      (7 < slot.toNat ∨ kind = 0 ∨ 4 < kind.toNat ∨ (slot = 0 ∧ kind ≠ 1) ∨ (slot ≠ 0 ∧ kind = 1) →
        exec (.enroll tag seq slot kind) s = .next (s.arrived.answered tag seq 0x0A .badField [])) ∧
      (∀ (p : ProfIx) (k : ProfileKind), slot.toNat = p.val →
        (kind = 1 ∧ k = .admin ∨ kind = 2 ∧ k = .user ∨ kind = 3 ∧ k = .reader ∨ kind = 4 ∧ k = .wipe) →
        (k = .admin ↔ p = 0) →
        (((p ≠ 0 ∧ s.cred.profiles[p] ≠ none) ∨
            (k = .wipe ∧ ∃ (r : ProfIx) (x : Profile), r ≠ p ∧ s.cred.profiles[r] = some x ∧ x.kind = .wipe)) →
          exec (.enroll tag seq slot kind) s = .next (s.arrived.answered tag seq 0x0A .exists [])) ∧
        ((p ≠ 0 → s.cred.profiles[p] = none) →
          (∀ (r : ProfIx) (x : Profile), k = .wipe → r ≠ p → s.cred.profiles[r] = some x → x.kind ≠ .wipe) →
          (p ≠ 0 → s.cred.removal[p] = true →
            exec (.enroll tag seq slot kind) s = .next (s.arrived.answered tag seq 0x0A .busy [])) ∧
          ((p ≠ 0 → s.cred.removal[p] = false) →
            ∃ u : KeypadUnit,
              exec (.enroll tag seq slot kind) s =
                .next (State.answered { s.arrived with
                  ctl := { s.arrived.ctl with drive := .enrolling }
                  cred := { s.cred with
                    enroll := some ⟨p, k, .opened, .waitFirst, [], false, false, false⟩, lastEnroll := .running }
                  keypad := u } tag seq 0x0A .accepted []) ∧
              u.selection = .enrolling ∧ u.keys = s.keypad.keys ∧ u.buffer = s.keypad.buffer ∧
              u.phase = s.keypad.phase ∧ u.timer = s.keypad.timer ∧ u.oneShot = s.keypad.oneShot))))

/-- REMOVE_PROFILE by the cases of R140 in their order, LAST_HOLDER by R37 with no apply DRAINING; accepted, the
record is EMPTY, its removal pending and its PROFILE commit requested. -/
def Obligations.RemoveProfileAnswers : Prop :=
  ∀ (s : State) (tag : Tag) (seq slot : Byte), s.hears tag → s.ctl.drive ≠ .fault → s.ctl.openProfile = some 0 →
    (s.ctl.drive = .enrolling →
      exec (.removeProfile tag seq slot) s = .next (s.arrived.answered tag seq 0x0B .busy [])) ∧
    (s.ctl.drive ≠ .enrolling →
      (slot = 0 ∨ 7 < slot.toNat →
        exec (.removeProfile tag seq slot) s = .next (s.arrived.answered tag seq 0x0B .badField [])) ∧
      (∀ r : ProfIx, slot.toNat = r.val → r ≠ 0 →
        (s.cred.profiles[r] = none →
          exec (.removeProfile tag seq slot) s = .next (s.arrived.answered tag seq 0x0B .badField [])) ∧
        (s.cred.profiles[r] ≠ none →
          ((∃ k : SlotIx, tableNames s.regions.table k = true ∧
              s.cipher.slots[k].mask &&& ~~~(BitVec.ofNat 8 (2 ^ r.val)) = 0) →
            exec (.removeProfile tag seq slot) s =
              .next (s.arrived.answered tag seq 0x0B .lastHolder [])) ∧
          (s.regions.apply = .idle →
            (∀ k : SlotIx, tableNames s.regions.table k = true →
              s.cipher.slots[k].mask &&& ~~~(BitVec.ofNat 8 (2 ^ r.val)) ≠ 0) →
            exec (.removeProfile tag seq slot) s =
              .next (State.answered
                (requestCommit (.profile r) [.removal r]
                  { s.arrived with
                    cred.profiles := s.cred.profiles.set r none, cred.removal := s.cred.removal.set r true })
                tag seq 0x0B .accepted [])))))

/-- SET_OPTIONS with admin open completes in every such state: the staged options become the six bytes exactly as
given and the OPTIONS commit is requested; the effective options and everything else stay (R184). Stored values are
clamped when they are taken into force as the table of R196 states: each out-of-range value takes the near end of its
range, and T, when it is not 0, is clamped to F + 1 to 99 against the clamped F. -/
def Obligations.StartOptions : Prop :=
  (∀ (s : State) (tag : Tag) (seq minPin free threshold inactivity chunk pace : Byte),
     s.hears tag → s.ctl.drive ≠ .fault → s.ctl.openProfile = some 0 →
     exec (.setOptions tag seq minPin free threshold inactivity chunk pace) s =
       .next (State.answered
         (requestCommit .options []
           { s.arrived with window.staged := ⟨minPin, free, threshold, inactivity, chunk, pace⟩ })
         tag seq 0x0C .accepted [])) ∧
  (∀ o : RawOptions,
     o.clamp.minPin = max 6 (min 12 o.minPin.toNat) ∧
     o.clamp.free = max 1 (min 10 o.free.toNat) ∧
     (o.threshold = 0 → o.clamp.threshold = 0) ∧
     (o.threshold ≠ 0 → o.clamp.threshold = max (o.clamp.free + 1) (min 99 o.threshold.toNat)) ∧
     o.clamp.inactivity = min 8 o.inactivity.toNat ∧ o.clamp.chunk = min 2 o.chunk.toNat ∧
     o.clamp.pace = max 1 (min 16 o.pace.toNat))

/-- SELF_TEST CIPHER and CIPHER_INJECT need no profile (R79, R185): NOT_NOW in WIPING, BUSY while a run is in
progress, else ACCEPTED with a run of 5 ms and the result RUNNING. SELF_TEST MEDIA by the cases of R81 in their order:
BAD_FIELD for no passes, BUSY for a test or an apply at work, NOT_NOW unless the media is READY, else ACCEPTED. The
test drains under quiesce TEST; with nothing in flight it is RUNNING at once, its quiesce lifted, its first WRITE
waiting. And the results of a RUNNING test's commands (the image changes at a WRITE's result: assumption 15): a
WRITE's FAIL counts as an error, and the READ waits next; a READ's FAIL counts as an error, its OK adds the sectors
that differ from the pass's pattern to the mismatches, at most 65,535; the pass is then done, and the test is DONE
after the last one, or the next WRITE waits (R82, R83). -/
def Obligations.SelfTestsStart : Prop :=
  (∀ (s : State) (tag : Tag) (seq : Byte) (c : Instr) (k : RunKind), s.hears tag → s.ctl.drive ≠ .fault →
     (c = .selfTestCipher tag seq ∧ k = .plain ∨ c = .selfTestCipherInject tag seq ∧ k = .inject) →
     (s.ctl.drive = .wiping → exec c s = .next (s.arrived.answered tag seq 0x0D .notNow [])) ∧
     (s.ctl.drive ≠ .wiping → s.cipher.run ≠ none →
       exec c s = .next (s.arrived.answered tag seq 0x0D .busy [])) ∧
     (s.ctl.drive ≠ .wiping → s.cipher.run = none →
       exec c s = .next (State.answered { s.arrived with cipher.run := some ⟨k, 5⟩, cipher.result := .running }
         tag seq 0x0D .accepted []))) ∧
  (∀ (s : State) (tag : Tag) (seq passes : Byte), s.hears tag → s.ctl.drive ≠ .fault → s.ctl.openProfile = some 0 →
     (passes = 0 →
       exec (.selfTestMedia tag seq passes) s = .next (s.arrived.answered tag seq 0x0D .badField [])) ∧
     (passes ≠ 0 →
       (s.cipher.test.state = .draining ∨ s.cipher.test.state = .running ∨ s.regions.apply = .draining →
         exec (.selfTestMedia tag seq passes) s = .next (s.arrived.answered tag seq 0x0D .busy [])) ∧
       (s.cipher.test.state ≠ .draining → s.cipher.test.state ≠ .running → s.regions.apply = .idle →
         (s.media.state ≠ .ready →
           exec (.selfTestMedia tag seq passes) s = .next (s.arrived.answered tag seq 0x0D .notNow [])) ∧
         (s.media.state = .ready → s.filter.total ≠ 0 →
           exec (.selfTestMedia tag seq passes) s =
             .next (State.answered { s.arrived with
               cipher.test := ⟨.draining, passes.toNat, 0, 0, 0, none, s.cipher.test.run⟩
               filter.quiesce := .test } tag seq 0x0D .accepted [])) ∧
         (s.media.state = .ready → s.filter.total = 0 →
           exec (.selfTestMedia tag seq passes) s =
             .next (State.answered { s.arrived with
               cipher.test := ⟨.running, passes.toNat, 0, 0, 0, some .write, s.cipher.test.run + 1⟩
               filter.quiesce := .none } tag seq 0x0D .accepted []))))) ∧
  (∀ (s : State) (tag : Tag) (status : Byte) (span : BitVec 32) (c : Command),
      s.media.tags[tag] = .busy c → c.requester = .test s.cipher.test.run → s.cipher.test.state = .running →
      s.media.sizeWaiting = false → s.power.source = .link →
      (c.kind = .write →
        exec (.mediaCompletion tag status span .asStored) s = .next { s with
          media.tags := s.media.tags.set tag .free
          flash := if status = 0 then flashWriteAll c.range.lo c.data s.flash else flashForget c.range s.flash
          cipher.test := { s.cipher.test with
            errors := if status = 0 then s.cipher.test.errors else s.cipher.test.errors + 1
            waiting := some .read } }) ∧
      (∀ xs : List Sector, c.kind = .read → c.data = xs.map .plain →
        exec (.mediaCompletion tag status span .asStored) s = .next { s with
          media.tags := s.media.tags.set tag .free
          cipher.test := { s.cipher.test with
            errors := if status = 0 then s.cipher.test.errors else s.cipher.test.errors + 1
            mismatched :=
              if status = 0 then
                min (s.cipher.test.mismatched + ((List.range xs.length).filter
                  (fun i => decide (xs[i]? ≠ some (testPattern (s.cipher.test.done + 1) i)))).length) 65535
              else s.cipher.test.mismatched
            done := s.cipher.test.done + 1
            state := if s.cipher.test.done + 1 = s.cipher.test.requested then .done else .running
            waiting := if s.cipher.test.done + 1 = s.cipher.test.requested then none else some .write } }))

/-- WIPE_ALL with admin open starts the full wipe within its taking (R166, R186); with no sweep and an idle store:
the drive is WIPING with no profile open, the three timers stopped, the wipe flag set; the table empty, the epoch
raised, every key destroyed with its slot EMPTY at the next generation, the pending table empty, an apply discarded;
the erase engine cleared; a media test ABORTED; an enrollment CANCELLED and the entry discarded; the MAP commit
started. Profiles, n, the media image and the media port do not change. -/
def Obligations.WipeAllStartsWipe : Prop :=
  ∀ (s : State) (tag : Tag) (seq : Byte), s.hears tag → s.ctl.drive ≠ .fault → s.ctl.drive ≠ .wiping →
    s.ctl.openProfile = some 0 → s.erase.sweep = none → s.store.busy = none → s.store.queue = [] →
    ∃ t, exec (.wipeAll tag seq) s = .next t ∧
      t.window = { s.window with response := ⟨seq, 0x0E, .accepted, []⟩ } ∧
      t.replies = s.replies ++ [⟨tag, .good, none, []⟩] ∧
      t.ctl = { s.ctl with drive := .wiping, openProfile := none, window := none, inactivity := none,
                           wipeStep := some 1, wipeFlag := true } ∧
      t.keypad.selection = .wiping ∧ t.keypad.buffer = [] ∧ t.keypad.phase = none ∧ t.keypad.timer = none ∧
      t.keypad.oneShot = s.keypad.oneShot ∧ t.keypad.keys = s.keypad.keys ∧
      t.regions.table = [] ∧ t.regions.epoch = s.regions.epoch + 1 ∧
      (∀ p : Pos, t.regions.pending[p] = none) ∧ (∀ k : SlotIx, t.regions.masks[k] = t.cipher.slots[k].mask) ∧
      t.regions.apply = .idle ∧
      (∀ k : SlotIx,
        (s.cipher.slots[k].key ≠ none →
          t.cipher.slots[k] = ⟨.empty, none, min (s.cipher.slots[k].gen + 1) 4294967295, 0⟩) ∧
        (s.cipher.slots[k].key = none → t.cipher.slots[k].key = none ∧
          t.cipher.slots[k].gen = s.cipher.slots[k].gen ∧ t.cipher.slots[k].mask = s.cipher.slots[k].mask)) ∧
      t.cipher.run = s.cipher.run ∧ t.cipher.result = s.cipher.result ∧
      (s.cipher.test.state = .draining ∨ s.cipher.test.state = .running → t.cipher.test.state = .aborted) ∧
      t.erase.queue = [] ∧ t.erase.stage = .idle ∧ t.erase.sweep = none ∧ t.erase.lastResult = .none ∧
      (∀ p : Pos, t.filter.inFlight[p] = 0) ∧ t.filter.total = s.filter.total ∧ t.filter.queue = s.filter.queue ∧
      t.filter.issueQ = s.filter.issueQ ∧
      t.cred.profiles = s.cred.profiles ∧ t.cred.n = s.cred.n ∧ t.cred.eval = none ∧ t.cred.backoff = none ∧
      t.cred.enroll = none ∧ (s.cred.enroll ≠ none → t.cred.lastEnroll = .cancelled) ∧
      t.store = { s.store with busy := some ⟨.map t.mapRecord, [.wipe 1], t.erase.additions⟩ } ∧
      t.flash = s.flash ∧ t.media = s.media ∧ t.front = s.front ∧ t.power = s.power ∧ t.mediaOut = s.mediaOut

/-! ### The front link -/

/-- The structural checks of an arrival in their order, the first failure answered at once (R7): TAG_IN_USE; a kind
that is none of the five; a bad count or an end above 2^32; a range that straddles W. An access wholly in the control
window (R8, R177): a READ of one sector at W + 1 is GOOD with the response sector; an unsigned request sector and any
other access get BAD_REQUEST. An arrival while DETACHED, which R3 rules out, changes nothing: the model's choice
(assumption 4). -/
def Obligations.ArrivalChecks : Prop :=
  (∀ (s : State) (kind : Byte) (tag : Tag) (start : BitVec 32) (count : BitVec 16) (x : Sector),
     (s.front.link = .detached →
       exec (.frontRequestArrival kind (BitVec.ofNat 8 tag.val) start count x) s = .next s) ∧
     (s.front.link = .attached → s.front.tags[tag] ≠ .free →
       exec (.frontRequestArrival kind (BitVec.ofNat 8 tag.val) start count x) s =
         .next (s.arrived.replied tag .tagInUse)) ∧
     (s.hears tag →
       (kind = 0 ∨ 5 < kind.toNat) ∨
         ((kind = 1 ∨ kind = 2 ∨ kind = 3) ∧
           (count = 0 ∨ 256 < count.toNat ∨ 4294967296 < start.toNat + count.toNat ∨
             (start.toNat < 4294967232 ∧ 4294967232 < start.toNat + count.toNat))) →
       exec (.frontRequestArrival kind (BitVec.ofNat 8 tag.val) start count x) s =
         .next (s.arrived.replied tag .badRequest))) ∧
  (∀ (s : State) (kind : Byte) (tag : Tag) (start : BitVec 32) (count : BitVec 16) (x : Sector),
     s.hears tag → (kind = 1 ∨ kind = 2 ∨ kind = 3) → count ≠ 0 → 4294967232 ≤ start.toNat →
     start.toNat + count.toNat ≤ 4294967296 →
     (kind = 1 → start = 4294967233 → count = 1 →
       exec (.frontRequestArrival kind (BitVec.ofNat 8 tag.val) start count x) s =
         .next { s.arrived with
           replies := s.replies ++ [⟨tag, .good, none, [s.window.response.toSector]⟩] }) ∧
     ((kind ≠ 2 ∨ start ≠ 4294967232 ∨ count ≠ 1 ∨ requestSigned x = false) →
       (kind ≠ 1 ∨ start ≠ 4294967233 ∨ count ≠ 1) →
       exec (.frontRequestArrival kind (BitVec.ofNat 8 tag.val) start count x) s =
         .next (s.arrived.replied tag .badRequest)))

/-- An arrival that passes the checks and is no window access joins the tail of the admission queue with its tag
OUTSTANDING (R7, R41); SYNC and SIZE always do. -/
def Obligations.ArrivalQueues : Prop :=
  ∀ (s : State) (kind : Byte) (k : Kind) (tag : Tag) (start : BitVec 32) (count : BitVec 16) (x : Sector),
    s.hears tag →
    ((kind = 1 ∧ k = .read ∨ kind = 2 ∧ k = .write ∨ kind = 3 ∧ k = .discard) ∧ count ≠ 0 ∧ count.toNat ≤ 256 ∧
        start.toNat + count.toNat ≤ 4294967232) ∨ (kind = 4 ∧ k = .sync ∨ kind = 5 ∧ k = .size) →
    exec (.frontRequestArrival kind (BitVec.ofNat 8 tag.val) start count x) s =
      .next { s.arrived with
        filter := { s.filter with
          queue := s.filter.queue ++
            [{ id := s.counters.ids, kind := k, tag := tag,
               range := ⟨start.toNat, start.toNat + count.toNat⟩, state := .queued, frags := [], held := 0,
               waiting := false, recorded := none, addition := none, status := .good, pulled := 0,
               dropped := false }] }
        front.tags := s.front.tags.set tag (.outstanding s.counters.ids)
        counters.ids := s.counters.ids + 1 }

/-- An ATTACH taken while DETACHED (R3, R158, R205): link, power source and attached item; a wake from STANDBY; on an
OPEN drive the window stops and the inactivity timer starts at I, unless v is 0; nothing else changes but the
background. In ATTACHED it is ignored. -/
def Obligations.AttachTaken : Prop :=
  ∀ s : State, s.started = true →
    (s.front.link = .attached → exec .attach s = .next s) ∧
    (s.front.link = .detached →
      ∃ k : KeypadUnit,
        exec .attach s = .next { s with
          front.link := .attached
          power := { s.power with
            source := .link
            mode := if s.power.mode = .standby then .settling else s.power.mode
            settling := if s.power.mode = .standby then some 16 else s.power.settling }
          ctl := { s.ctl with
            attached := true
            window := if s.ctl.drive = .opened then none else s.ctl.window
            inactivity :=
              if s.ctl.drive = .opened then
                (if s.store.effective.inactivity = 0 then none
                 else some (60000 * 2 ^ (s.store.effective.inactivity - 1)))
              else s.ctl.inactivity }
          keypad := k } ∧
        k.keys = s.keypad.keys ∧ k.buffer = s.keypad.buffer ∧ k.phase = s.keypad.phase ∧
        k.timer = s.keypad.timer ∧ k.oneShot = s.keypad.oneShot ∧
        (s.ctl.drive = .opened → k.selection = .opened))

/-- A DETACH taken while ATTACHED (R16, R20, R155, R202): every transaction is dropped without a reply, both links go
down, all counts are 0, the sectors of every WRITE on a media tag become unknown and no other sector changes (the
moment: assumption 15); a media test ends ABORTED; an OPEN drive locks, and so does one in an enrollment from OPEN,
which is discarded or left to complete (R139, R163); the chunk in flight returns to w. While DETACHED it is ignored.
With a quiesce or an erase wait in progress further effects follow (R44, R87), so that case is left out. -/
def Obligations.DetachTaken : Prop :=
  ∀ s : State,
    (s.front.link = .detached → exec .detach s = .next s) ∧
    (s.front.link = .attached → s.filter.quiesce = .none → s.erase.stage ≠ .waitCount →
      ∃ t, exec .detach s = .next t ∧
        t.front = ⟨.detached, Vector.replicate 16 .free⟩ ∧
        t.media = ⟨.notReady, none, Vector.replicate 16 .free, 0, false⟩ ∧
        t.filter = ⟨[], [], [], 0, Vector.replicate 16 0, .none⟩ ∧
        t.window = { s.window with response := ⟨0, 0, .none, []⟩ } ∧
        t.replies = s.replies ∧ t.mediaOut = s.mediaOut ∧
        t.power.source = .battery ∧ t.ctl.attached = false ∧
        (∀ a, (∃ (tag : Tag) (c : Command), s.media.tags[tag] = .busy c ∧ c.kind = .write ∧ c.range.has a = true) →
          flashRead t.flash a = .unknown) ∧
        (∀ a, (∀ (tag : Tag) (c : Command), s.media.tags[tag] = .busy c → c.kind = .write →
            c.range.has a = false) → flashRead t.flash a = flashRead s.flash a) ∧
        (s.cipher.test.state = .draining ∨ s.cipher.test.state = .running → t.cipher.test.state = .aborted) ∧
        (s.ctl.drive = .opened →
          t.ctl.drive = .locked ∧ t.ctl.openProfile = none ∧ t.ctl.window = none ∧ t.ctl.inactivity = none ∧
          ∀ k : SlotIx, t.cipher.slots[k].state ≠ .opened) ∧
        (∀ e, s.ctl.drive = .enrolling → s.cred.enroll = some e → e.origin = .opened →
          t.ctl = { s.ctl with
            drive := .locked, openProfile := none, attached := false, window := none, inactivity := none } ∧
          t.cred = s.cred.atLock e ∧ ∀ k : SlotIx, t.cipher.slots[k].state ≠ .opened) ∧
        (∀ x, s.erase.sweep = some x → ∃ y, t.erase.sweep = some y ∧ y.w = x.w ∧ y.q = x.w ∧ y.c = x.c ∧
          y.chunk = none ∧ y.keep = x.keep) ∧
        t.regions = s.regions ∧ t.erase.queue = s.erase.queue ∧ t.cred.profiles = s.cred.profiles ∧
        t.cred.n = s.cred.n)

/-- A LINK_RESET taken while ATTACHED (R19): every tag FREE, the queues empty, the response NONE, no reply; of the
admitted transactions only ISSUED fragments stay, and the WAITING ones leave the total count; the sectors
of an ISSUED piece of a WRITE dropped now become unknown, and no other sector changes (R73); the link stays ATTACHED
and the media port, the drive state and n stay. While DETACHED it is ignored. -/
def Obligations.LinkResetTaken : Prop :=
  ∀ s : State,
    (s.front.link = .detached → exec .linkReset s = .next s) ∧
    (s.front.link = .attached →
      ∃ t, exec .linkReset s = .next t ∧
        t.front = ⟨.attached, Vector.replicate 16 .free⟩ ∧
        t.window = { s.window with response := ⟨0, 0, .none, []⟩ } ∧
        t.filter.queue = [] ∧ t.filter.issueQ = [] ∧
        (∀ x ∈ t.filter.txns, x.dropped = true ∧ x.frags ≠ [] ∧ ∀ g ∈ x.frags, g.state = .issued) ∧
        t.filter.total = s.filter.total -
          (s.filter.txns.flatMap (fun x => x.frags.filter (fun g => g.state == .waiting))).length ∧
        (∀ a, (∃ x ∈ s.filter.txns, ∃ g ∈ x.frags, x.kind = .write ∧ x.dropped = false ∧ g.state = .issued ∧
            g.range.has a = true) →
          flashRead t.flash a = .unknown) ∧
        (∀ a, (∀ x ∈ s.filter.txns, ∀ g ∈ x.frags, x.kind = .write → x.dropped = false → g.state = .issued →
            g.range.has a = false) → flashRead t.flash a = flashRead s.flash a) ∧
        t.replies = s.replies ∧ t.media = s.media ∧ t.mediaOut = s.mediaOut ∧ t.ctl = s.ctl ∧ t.cred = s.cred ∧
        t.power = s.power ∧ t.keypad = s.keypad)

/-! ### The media link -/

/-- MEDIA_READY while ATTACHED and NOT_READY makes the media SIZING with the geometry out of force and sends SIZE on
the lowest FREE tag (R4, R6, R11); while DETACHED it is ignored. With no BUSY tag and no test, a restart makes every
tag FREE and sends SIZE on tag 0. With one BUSY tag it first gives its requester FAIL (the order: assumption 17): a
transaction of one fragment ends MEDIA_ERROR, a chunk counts a failed attempt and waits for its retry (R15, R95). -/
def Obligations.MediaReadySizes : Prop :=
  (∀ s : State,
     (s.front.link = .detached → exec .mediaReady s = .next s) ∧
     (∀ tag : Tag, s.front.link = .attached → s.media.state = .notReady → s.lowestIs tag →
       exec .mediaReady s = .next { s with
         media := { s.media with
           state := .sizing, capacity := none, sizeWaiting := false
           tags := s.media.tags.set tag (.busy ⟨.size, .size, ⟨0, 0⟩, [], 2000⟩) }
         mediaOut := s.mediaOut ++ [.command tag .size ⟨0, 0⟩ []] }) ∧
     (s.front.link = .attached → s.media.state ≠ .notReady → (∀ (t : Tag) (c : Command), s.media.tags[t] ≠ .busy c) →
       s.cipher.test.state ≠ .draining → s.cipher.test.state ≠ .running →
       exec .mediaReady s = .next { s with
         media := ⟨.sizing, none, (Vector.replicate 16 .free).set 0 (.busy ⟨.size, .size, ⟨0, 0⟩, [], 2000⟩), 0, false⟩
         mediaOut := s.mediaOut ++ [.command 0 .size ⟨0, 0⟩ []] })) ∧
  (∀ (s : State) (tag : Tag) (c : Command), s.front.link = .attached → s.media.state ≠ .notReady →
     s.media.tags[tag] = .busy c → (∀ (i : Tag) (d : Command), i ≠ tag → s.media.tags[i] ≠ .busy d) →
     s.cipher.test.state ≠ .draining → s.cipher.test.state ≠ .running → s.filter.quiesce = .none →
     s.erase.stage ≠ .waitCount →
     ∃ u, exec .mediaReady s = .next u ∧
       u.media = ⟨.sizing, none, (Vector.replicate 16 .free).set 0 (.busy ⟨.size, .size, ⟨0, 0⟩, [], 2000⟩), 0, false⟩ ∧
       u.mediaOut = s.mediaOut ++ [.command 0 .size ⟨0, 0⟩ []] ∧
       (∀ (t : Txn) (g : Frag), c.requester = .fragment g.id → s.namesInv → t ∈ s.filter.txns → t.frags = [g] →
         t.status = .good → t.dropped = false →
         u.replies = s.replies ++ [⟨t.tag, .mediaError, none, []⟩] ∧ u.front.tags = s.front.tags.set t.tag .free ∧
         u.filter.txns = s.filter.txns.filter (fun x => x.id != t.id) ∧ u.filter.total = s.filter.total - 1) ∧
       (∀ (x : Sweep) (n : Nat), c.requester = .chunk n → s.erase.sweep = some x → x.chunk = some ⟨n, true⟩ →
         x.phase = .running → x.retry < 3 → s.ctl.drive ≠ .fault →
         u.erase = { s.erase with sweep := some { x with retry := x.retry + 1, chunk := some ⟨n, false⟩ } } ∧
         u.replies = s.replies ∧ u.filter = s.filter))

/-- SLOT_GRANT (R11, R17, R93, R77): no grant while DETACHED, while the media is not READY, with no FREE tag or with
nobody waiting. Else the lowest FREE tag goes to the media test; or, with a chunk ready and the queue empty or the
count at P, to a new chunk, which is formed from q, or the end of the keep range q lies in, and carries the zero
content; or to the head of the issue queue, the count rising if a chunk was ready. A READ takes note of the image at
its grant (assumption 14), and the sectors of a DISCARD become unknown at its grant (assumption 15): the model's
choices of the moment. The grant of a retry sends the chunk out again with the range and the serial number it has
(R95). -/
def Obligations.SlotGrantChooses : Prop :=
  (∀ s : State,
     (s.front.link = .detached ∨ s.media.state ≠ .ready ∨ (∀ t : Tag, s.media.tags[t] ≠ .free) ∨
         (s.cipher.test.waiting = none ∧ s.chunkReady = false ∧ s.filter.issueQ = []) →
       exec .slotGrant s = .next s) ∧
     (∀ tag : Tag, s.front.link = .attached → s.media.state = .ready → s.lowestIs tag →
       (s.cipher.test.waiting = some .write →
         exec .slotGrant s = .next { s with
           cipher.test := { s.cipher.test with waiting := none }
           media.tags := s.media.tags.set tag
             (.busy ⟨.test s.cipher.test.run, .write, s.scratch, patternData (s.cipher.test.done + 1), 2000⟩)
           mediaOut := s.mediaOut ++
             [.command tag .write s.scratch (patternData (s.cipher.test.done + 1))] }) ∧
       (s.cipher.test.waiting = some .read →
         exec .slotGrant s = .next { s with
           cipher.test := { s.cipher.test with waiting := none }
           media.tags := s.media.tags.set tag
             (.busy ⟨.test s.cipher.test.run, .read, s.scratch, flashReadAll s.flash s.scratch, 2000⟩)
           mediaOut := s.mediaOut ++ [.command tag .read s.scratch []] }) ∧
       (s.cipher.test.waiting = none →
         (∀ (x : Sweep) (w q : Nat), s.chunkReady = true →
           (s.filter.issueQ = [] ∨ s.store.effective.pace ≤ s.erase.passedOver) →
           s.erase.sweep = some x → x.chunk = none → w = stepOver x.keep x.q →
           q = min (nextKeepStart w (w + chunkSize s.store.effective.chunk) x.keep)
             (min (s.regionEnd x.pos) (s.uSpan.getD 0)) →
           exec .slotGrant s = .next { s with
             erase := { s.erase with
               sweep := some { x with w := w, q := q, chunk := some ⟨s.erase.chunks, true⟩, retry := 0 }
               passedOver := 0, chunks := s.erase.chunks + 1 }
             media.tags := s.media.tags.set tag
               (.busy ⟨.chunk s.erase.chunks, .write, ⟨w, q⟩, List.replicate (q - w) (s.zeroContent x.pos), 2000⟩)
             mediaOut := s.mediaOut ++
               [.command tag .write ⟨w, q⟩ (List.replicate (q - w) (s.zeroContent x.pos))] }) ∧
         (∀ (id : Nat) (rest : List Nat) (t : Txn) (g : Frag),
           (s.chunkReady = false ∨ s.erase.passedOver < s.store.effective.pace) →
           s.filter.issueQ = id :: rest → s.findFrag id = some (t, g) →
           ∃ u, exec .slotGrant s = .next u ∧ u.filter.issueQ = rest ∧
             u.filter.txns = s.filter.txns.map (fun t => { t with
               frags := t.frags.map (fun g => if g.id = id then { g with state := .issued } else g) }) ∧
             u.media.tags = s.media.tags.set tag
               (.busy ⟨.fragment id, t.kind, g.range,
                 if t.kind = .read then flashReadAll s.flash g.range else g.stored, 2000⟩) ∧
             u.mediaOut = s.mediaOut ++ [.command tag t.kind g.range g.stored] ∧
             u.erase = { s.erase with
               passedOver := if s.chunkReady then s.erase.passedOver + 1 else s.erase.passedOver } ∧
             (t.kind ≠ .discard → u.flash = s.flash) ∧
             (t.kind = .discard → ∀ a, flashRead u.flash a =
               if g.range.has a then .unknown else flashRead s.flash a) ∧
             u.filter.total = s.filter.total ∧ u.filter.inFlight = s.filter.inFlight ∧
             u.filter.queue = s.filter.queue ∧ u.replies = s.replies ∧ u.front = s.front ∧ u.cipher = s.cipher ∧
             u.ctl = s.ctl ∧ u.store = s.store ∧ u.cred = s.cred ∧ u.regions = s.regions)))) ∧
  (∀ (s : State) (tag : Tag) (x : Sweep) (n : Nat), s.front.link = .attached → s.media.state = .ready →
     s.lowestIs tag → s.cipher.test.waiting = none → s.chunkReady = true →
     (s.filter.issueQ = [] ∨ s.store.effective.pace ≤ s.erase.passedOver) → s.erase.sweep = some x →
     x.chunk = some ⟨n, false⟩ →
     exec .slotGrant s = .next { s with
       erase := { s.erase with sweep := some { x with chunk := some ⟨n, true⟩ }, passedOver := 0 }
       media.tags := s.media.tags.set tag
         (.busy ⟨.chunk n, .write, ⟨x.w, x.q⟩, List.replicate (x.q - x.w) (s.zeroContent x.pos), 2000⟩)
       mediaOut := s.mediaOut ++
         [.command tag .write ⟨x.w, x.q⟩ (List.replicate (x.q - x.w) (s.zeroContent x.pos))] })

/-- The completion of SIZE (R5, R6, R170), with no sweep and no entry waiting: OK with a capacity of at least 4,096
makes the media READY with the geometry in force; a smaller one leaves it NOT_READY and the drive enters FAULT with
cause MEDIA_SMALL, every OPEN slot closing; FAIL sends SIZE again, the media staying as it is. -/
def Obligations.SizeCompletion : Prop :=
  ∀ (s : State) (tag : Tag) (status : Byte) (span : BitVec 32) (data : MediaData) (c : Command),
    s.media.tags[tag] = .busy c → c.requester = .size → c.kind = .size → s.media.sizeWaiting = false →
    s.erase.sweep = none → s.filter.issueQ = [] → s.power.source = .link →
    (status = 0 → 4096 ≤ span.toNat →
      exec (.mediaCompletion tag status span data) s = .next { s with
        media := { s.media with
          state := .ready, capacity := some span.toNat, tags := s.media.tags.set tag .free } }) ∧
    (status = 0 → span.toNat < 4096 → s.ctl.drive ≠ .fault →
      ∃ t, exec (.mediaCompletion tag status span data) s = .next t ∧
        t.media = { s.media with state := .notReady, capacity := none, tags := s.media.tags.set tag .free } ∧
        t.ctl = { s.ctl with drive := .fault, openProfile := none, window := none, inactivity := none,
                             cause := some .mediaSmall, wipeStep := none } ∧
        t.keypad.selection = .fault ∧ t.keypad.buffer = [] ∧ t.keypad.phase = none ∧ t.keypad.timer = none ∧
        (∀ k : SlotIx, t.cipher.slots[k] =
          { s.cipher.slots[k] with
            state := if s.cipher.slots[k].state = .opened then .closed else s.cipher.slots[k].state }) ∧
        t.cred.backoff = none ∧ t.cred.eval = none ∧ t.cred.enroll = none ∧ t.regions.apply = .idle ∧
        t.store = s.store ∧ t.flash = s.flash ∧ t.regions.table = s.regions.table ∧ t.cred.n = s.cred.n) ∧
    (∀ low : Tag, status ≠ 0 → { s with media.tags := s.media.tags.set tag .free }.lowestIs low →
      exec (.mediaCompletion tag status span data) s = .next { s with
        media := { s.media with
          tags := (s.media.tags.set tag .free).set low (.busy ⟨.size, .size, ⟨0, 0⟩, [], 2000⟩) }
        mediaOut := s.mediaOut ++ [.command low .size ⟨0, 0⟩ []] })

/-- The result of a host READ of one fragment (R12, R54, R61, R62, R74, R76), the content arriving as noted at the
issue (assumption 14): OK under an open instance, or in a PUBLIC region, delivers each sector (zeros in the zero set,
the plaintext where the content is under the key instance taken at admission, with the key that it stood for
(assumption 37), a value of the free sequence elsewhere (assumption 10)) and replies GOOD; FAIL replies MEDIA_ERROR; a
key check that fails replies LOCKED. The record goes and the tag entry is FREE. -/
def Obligations.ReadDelivery : Prop :=
  ∀ (s : State) (tag : Tag) (status : Byte) (span : BitVec 32) (c : Command) (t : Txn) (g : Frag),
    s.media.tags[tag] = .busy c → c.requester = .fragment g.id → c.kind = .read → c.range = g.range →
    c.data.length = g.range.len → s.namesInv → t ∈ s.filter.txns → t.frags = [g] → g.kind ≠ .zero → t.kind = .read →
    t.status = .good → t.dropped = false → s.media.sizeWaiting = false → s.power.source = .link →
    s.filter.quiesce = .none → s.erase.stage ≠ .waitCount →
    ∃ u, exec (.mediaCompletion tag status span .asStored) s = .next u ∧
      u.filter.txns = s.filter.txns.filter (fun x => x.id != t.id) ∧
      u.front.tags = s.front.tags.set t.tag .free ∧
      u.media.tags = s.media.tags.set tag .free ∧ u.filter.total = s.filter.total - 1 ∧
      u.flash = s.flash ∧ u.filter.queue = s.filter.queue ∧ u.filter.issueQ = s.filter.issueQ ∧
      u.ctl = s.ctl ∧ u.cred = s.cred ∧ u.erase = s.erase ∧ u.regions = s.regions ∧ u.cipher = s.cipher ∧
      u.store = s.store ∧
      (status ≠ 0 → u.replies = s.replies ++ [⟨t.tag, .mediaError, none, []⟩]) ∧
      (status = 0 → (∃ i, g.key = some i ∧
          (s.cipher.slots[i.slot].state ≠ .opened ∨ s.cipher.slots[i.slot].gen ≠ i.gen)) →
        u.replies = s.replies ++ [⟨t.tag, .locked, none, []⟩]) ∧
      (status = 0 → (∀ i, g.key = some i →
          s.cipher.slots[i.slot].state = .opened ∧ s.cipher.slots[i.slot].gen = i.gen) →
        ∃ data : List Sector,
          u.replies = s.replies ++ [⟨t.tag, .good, none, data⟩] ∧ data.length = g.range.len ∧
          ∀ (j : Nat) (x : Content), c.data[j]? = some x →
            ((∃ z ∈ g.zeros, z.has (g.range.lo + j) = true) → data[j]? = some 0) ∧
            ((∀ z ∈ g.zeros, z.has (g.range.lo + j) = false) →
              (∀ p, g.key = none → x = .plain p → data[j]? = some p) ∧
              (∀ i p, g.key = some i → x = .cipher i p → data[j]? = some p) ∧
              ((∀ p, g.key = none → x ≠ .plain p) → (∀ i p, g.key = some i → x ≠ .cipher i p) →
                ∃ n, s.counters.unrelated ≤ n ∧ data[j]? = some (Config.unrelated n))))

/-- The end of a WRITE on the media (R73): on OK every sector of its range holds what the command carried; on FAIL, by
completion or timeout, every sector of the range is unknown; no other sector changes (the moment: assumption 15). And
what the result of a chunk does to the sweep: OK makes w the old q, ends the chunk and returns the retry count to 0,
with a SWEEP commit once w - c is at least 4,096; the sweep then finishes where no sector is left below L (R94, R98).
FAIL leads to a retry of the same range while the count is below 3, and then abandons the sweep with outcome FAILED at
w (R95, R96); in CANCELLING either result ends it with CANCELLED (R100). An OK releases a HOLD piece over the chunk,
which joins the issue queue if all of it has been pulled (R57). -/
def Obligations.WriteOutcomeOnMedia : Prop :=
  (∀ (s : State) (tag : Tag) (c : Command), s.imageInv → s.media.tags[tag] = .busy c → c.kind = .write →
     c.data.length = c.range.len → s.commandKept c = true →
     (∀ (status : Byte) (span : BitVec 32) (data : MediaData), ∃ t,
       exec (.mediaCompletion tag status span data) s = .next t ∧
       ∀ a, flashRead t.flash a =
         if c.range.has a then (if status = 0 then c.data.getD (a - c.range.lo) .unknown else .unknown)
         else flashRead s.flash a) ∧
     (s.media.retired < 7 → ∃ t, exec (.tagTimeout tag) s = .next t ∧
       ∀ a, flashRead t.flash a = if c.range.has a then .unknown else flashRead s.flash a)) ∧
  (∀ (s : State) (tag : Tag) (status : Byte) (span : BitVec 32) (c : Command) (x : Sweep) (n : Nat),
     s.media.tags[tag] = .busy c → c.requester = .chunk n → c.kind = .write → s.erase.sweep = some x →
     x.chunk = some ⟨n, true⟩ → s.ctl.drive ≠ .fault → s.power.source = .link → s.media.sizeWaiting = false →
     (∀ t ∈ s.filter.txns, ∀ g ∈ t.frags, g.kind ≠ .hold n) →
     ∀ (t u : State) (y : Sweep),
       t = { s with
         media.tags := s.media.tags.set tag .free
         flash := if status = 0 then flashWriteAll c.range.lo c.data s.flash else flashForget c.range s.flash } →
       y = { x with w := x.q, chunk := none, retry := 0 } →
       u = (if 4096 ≤ x.q - x.c then requestCommit .sweep [] { t with erase.sweep := some y }
            else { t with erase.sweep := some y }) →
       (status ≠ 0 → x.phase = .running → x.retry < 3 →
         exec (.mediaCompletion tag status span .asStored) s = .next { t with
           erase.sweep := some { x with retry := x.retry + 1, chunk := some ⟨n, false⟩ } }) ∧
       (status ≠ 0 → x.phase = .running → 3 ≤ x.retry →
         exec (.mediaCompletion tag status span .asStored) s = .next (requestCommit .sweep [] { t with
           erase.sweep := some { x with q := x.w, chunk := none, phase := .ending, outcome := .failed x.w } })) ∧
       (status ≠ 0 → x.phase = .cancelling →
         exec (.mediaCompletion tag status span .asStored) s = .next (requestCommit .sweep [] { t with
           erase.sweep := some { x with q := x.w, chunk := none, phase := .ending, outcome := .cancelled } })) ∧
       (status = 0 → x.phase = .running → s.erase.stage = .sweeping →
         (∀ l, s.sweepLimit x.pos = some l → stepOver x.keep x.q < l) →
         exec (.mediaCompletion tag status span .asStored) s = .next u) ∧
       (∀ l, status = 0 → x.phase = .running → s.erase.stage = .sweeping → s.sweepLimit x.pos = some l →
         l ≤ stepOver x.keep x.q →
         exec (.mediaCompletion tag status span .asStored) s = .next (requestCommit .sweep [] { u with
           erase.sweep := some { y with phase := .ending, outcome := .done } })) ∧
       (status = 0 → x.phase = .cancelling →
         exec (.mediaCompletion tag status span .asStored) s = .next (requestCommit .sweep [] { u with
           erase.sweep := some { y with phase := .ending, outcome := .cancelled } }))) ∧
  (∀ (s : State) (tag : Tag) (span : BitVec 32) (c : Command) (x : Sweep) (n : Nat) (t : Txn) (g : Frag),
     s.media.tags[tag] = .busy c → c.requester = .chunk n → s.erase.sweep = some x → x.chunk = some ⟨n, true⟩ →
     s.power.source = .link → s.media.sizeWaiting = false → s.media.state = .ready →
     s.filter.txns = [t] → t.frags = [g] → g.kind = .hold n → g.state = .waiting →
     ∃ u, exec (.mediaCompletion tag 0 span .asStored) s = .next u ∧
       u.filter.txns = [{ t with frags := [{ g with kind := .pass }] }] ∧
       u.filter.issueQ = (if g.stored.length = g.range.len then s.filter.issueQ ++ [g.id] else s.filter.issueQ))

/-- TAG_TIMEOUT (R13, R14, R15): on a tag that is not BUSY it changes nothing, the model's choice (assumption 4). A
BUSY tag becomes RETIRED and the retired count rises by 1; at 8, with no command of the port's own outstanding or
waiting, the media link is reset: the reset is signalled, every tag FREE and the count 0. The media state and the
geometry stay. A completion on a FREE tag has no effect; on a RETIRED tag it makes the tag FREE and the retired count
falls by 1 (R12). With two BUSY tags that carry the fragments of two transactions, the timeout that brings the count
to 8 ends both with MEDIA_ERROR, the timed-out one first (the order: assumption 16). -/
def Obligations.TagsRetireAndReturn : Prop :=
  (∀ (s : State) (tag : Tag) (status : Byte) (span : BitVec 32) (data : MediaData),
     (s.media.tags[tag] = .free → exec (.mediaCompletion tag status span data) s = .next s) ∧
     (s.media.tags[tag] = .retired → s.media.sizeWaiting = false →
       exec (.mediaCompletion tag status span data) s = .next { s with
         media := { s.media with tags := s.media.tags.set tag .free, retired := s.media.retired - 1 } })) ∧
  (∀ (s : State) (tag : Tag),
     ((∀ c, s.media.tags[tag] ≠ .busy c) → exec (.tagTimeout tag) s = .next s) ∧
     (∀ c, s.media.tags[tag] = .busy c → (∀ (t : Tag) (d : Command), s.media.tags[t] = .busy d → d.requester ≠ .size) →
       s.media.sizeWaiting = false →
       ∃ u, exec (.tagTimeout tag) s = .next u ∧
         u.media.state = s.media.state ∧ u.media.capacity = s.media.capacity ∧
         (s.media.retired < 7 →
           u.media.tags = s.media.tags.set tag .retired ∧ u.media.retired = s.media.retired + 1 ∧
           u.mediaOut = s.mediaOut) ∧
         (7 ≤ s.media.retired →
           u.media.tags = Vector.replicate 16 .free ∧ u.media.retired = 0 ∧
           u.mediaOut = s.mediaOut ++ [.linkReset]))) ∧
  (∀ (s : State) (tag other : Tag) (c d : Command) (t y : Txn) (g h : Frag), tag ≠ other →
     s.media.tags[tag] = .busy c → s.media.tags[other] = .busy d →
     (∀ (i : Tag) (b : Command), i ≠ tag → i ≠ other → s.media.tags[i] ≠ .busy b) →
     s.media.sizeWaiting = false → 7 ≤ s.media.retired → s.filter.quiesce = .none → s.erase.stage ≠ .waitCount →
     c.requester = .fragment g.id → d.requester = .fragment h.id → s.namesInv →
     t ∈ s.filter.txns → y ∈ s.filter.txns → t.frags = [g] → y.frags = [h] → t.status = .good → y.status = .good →
     t.dropped = false → y.dropped = false →
     t.id ≠ y.id →
     ∃ u, exec (.tagTimeout tag) s = .next u ∧
       u.replies = s.replies ++ [⟨t.tag, .mediaError, none, []⟩, ⟨y.tag, .mediaError, none, []⟩] ∧
       u.front.tags = (s.front.tags.set t.tag .free).set y.tag .free ∧
       u.filter.txns = s.filter.txns.filter (fun x => x.id != t.id && x.id != y.id) ∧
       u.media.tags = Vector.replicate 16 .free ∧ u.media.retired = 0 ∧ u.mediaOut = s.mediaOut ++ [.linkReset])

/-! ### Admission -/

/-- ADMISSION before the cut (R42, R9, R45): a quiesce, a cipher test run or too little buffer holds the head, and
with an empty queue nothing changes (assumption 4); a SIZE is answered GOOD with U while the media is READY and
NOT_READY otherwise; any other head is refused NOT_READY in WIPING, in FAULT, while the media is not READY and while
the media test runs. The checks on a request that lies in one region (R47, R51), in their order: a slot not OPEN gives
LOCKED with no profile open and NO_ACCESS with one; a WRITE or DISCARD to a PUBLIC region, to one that is not writable
or from a READER gives READ_ONLY; an erase pending there gives ERASE_BUSY. A refusal is a reply without data and
nothing else. And the verdict on any request (R46, R51): the parts of step 1 from the lowest LBA on, of which a part
at or above U fails OUT_OF_RANGE and a gap part fails LOCKED in FACTORY and in an enrollment from FACTORY and
NO_ACCESS elsewhere; the first part that fails gives the status. -/
def Obligations.AdmissionRefuses : Prop :=
  (∀ s : State,
     (s.filter.queue = [] → exec .admission s = .next s) ∧
     (∀ t rest, s.filter.queue = t :: rest →
       (s.filter.quiesce ≠ .none ∨ s.cipher.run ≠ none ∨ 2048 < t.need + s.bufferHeld ∧ 0 < t.need →
         exec .admission s = .next s) ∧
       (s.filter.quiesce = .none → s.cipher.run = none → t.need + s.bufferHeld ≤ 2048 →
         (t.kind = .size → s.media.state = .ready →
           exec .admission s = .next
             (State.concluded { s with filter.queue := rest } t.tag .good s.uSpan [])) ∧
         (t.kind = .size → s.media.state ≠ .ready →
           exec .admission s = .next
             (State.concluded { s with filter.queue := rest } t.tag .notReady none [])) ∧
         (t.kind ≠ .size →
           s.ctl.drive = .wiping ∨ s.ctl.drive = .fault ∨ s.media.state ≠ .ready ∨
             s.cipher.test.state = .running →
           exec .admission s = .next
             (State.concluded { s with filter.queue := rest } t.tag .notReady none []))))) ∧
  (∀ (s : State) (t : Txn) (rest : List Txn) (p : Pos) (e : Entry) (u : Nat),
     s.filter.queue = t :: rest → (t.kind = .read ∨ t.kind = .write ∨ t.kind = .discard) →
     s.filter.quiesce = .none → s.cipher.run = none → t.need + s.bufferHeld ≤ 2048 →
     s.ctl.drive ≠ .wiping → s.ctl.drive ≠ .fault → s.media.state = .ready → s.cipher.test.state ≠ .running →
     s.uSpan = some u → tableLaw 0 s.regions.table = true → s.regions.table.length ≤ 16 →
     s.regions.table[p.val]? = some e → e.base ≤ t.range.lo → t.range.lo < t.range.hi →
     t.range.hi ≤ e.base + e.length → t.range.hi ≤ u →
     ((e.cls = .priv ∧ ∀ k : SlotIx, e.slot = some k → s.cipher.slots[k].state ≠ .opened) →
       exec .admission s = .next (State.concluded { s with filter.queue := rest } t.tag
         (if s.ctl.openProfile = none then .locked else .noAccess) none [])) ∧
     ((e.cls = .pub ∨ ∃ k : SlotIx, e.slot = some k ∧ s.cipher.slots[k].state = .opened) →
       (t.kind ≠ .read → e.cls = .pub ∨ e.writable = false ∨ s.readerOpen = true →
         exec .admission s = .next (State.concluded { s with filter.queue := rest } t.tag .readOnly none [])) ∧
       (t.kind = .read ∨ (e.cls = .priv ∧ e.writable = true ∧ s.readerOpen = false) →
         s.eraseState p = .erasePending →
         exec .admission s = .next (State.concluded { s with filter.queue := rest } t.tag .eraseBusy none [])))) ∧
  (∀ (s : State) (k : Kind) (r : Range),
     cutPart s k (.beyond r) = .error .outOfRange ∧
     (s.ctl.drive = .factory ∨ (s.ctl.drive = .enrolling ∧ ∃ e, s.cred.enroll = some e ∧ e.origin = .factory) →
       cutPart s k (.gap r) = .error .locked) ∧
     (s.ctl.drive ≠ .factory → (∀ e, s.ctl.drive = .enrolling → s.cred.enroll = some e → e.origin ≠ .factory) →
       cutPart s k (.gap r) = .error .noAccess)) ∧
  (∀ (s : State) (t : Txn) (rest : List Txn) (u : Nat) (before after : List Part) (x : Part) (st : FrontStatus),
     s.filter.queue = t :: rest → (t.kind = .read ∨ t.kind = .write ∨ t.kind = .discard) →
     s.filter.quiesce = .none → s.cipher.run = none → t.need + s.bufferHeld ≤ 2048 →
     s.ctl.drive ≠ .wiping → s.ctl.drive ≠ .fault → s.media.state = .ready → s.cipher.test.state ≠ .running →
     s.uSpan = some u → splitRequest u s.regions.table t.range = before ++ x :: after →
     (∀ y ∈ before, ∃ g, cutPart s t.kind y = .ok g) → cutPart s t.kind x = .error st →
     exec .admission s = .next (State.concluded { s with filter.queue := rest } t.tag st none []))

/-- The admission of a request that lies in one region with no erase and passes its checks (R51, R53, R55, R75): one
PASS fragment under the slot's current instance; a READ or DISCARD fragment joins the issue queue, a WRITE piece
takes the slot's key as its working key and waits for its data; the counts rise by 1, a READ and a WRITE hold their
sectors, and nothing is answered yet. A request that lies in two adjacent regions and passes in both gets one
such fragment for each (R46, R51). A SYNC gets one fragment of an empty range, without region or key, which joins the
issue queue (R63), the range being that of no sector at LBA 0 (assumption 25). -/
def Obligations.AdmissionPasses : Prop :=
  (∀ (s : State) (t : Txn) (rest : List Txn) (p : Pos) (e : Entry) (u : Nat),
     s.filter.queue = t :: rest → (t.kind = .read ∨ t.kind = .write ∨ t.kind = .discard) →
     s.filter.quiesce = .none → s.cipher.run = none → t.need + s.bufferHeld ≤ 2048 →
     s.ctl.drive ≠ .wiping → s.ctl.drive ≠ .fault → s.media.state = .ready → s.cipher.test.state ≠ .running →
     s.uSpan = some u → tableLaw 0 s.regions.table = true → s.regions.table.length ≤ 16 →
     s.regions.table[p.val]? = some e → e.base ≤ t.range.lo → t.range.lo < t.range.hi →
     t.range.hi ≤ e.base + e.length → t.range.hi ≤ u → s.namesInv → s.eraseState p = .idle →
     (e.cls = .pub ∨ ∃ k : SlotIx, e.slot = some k ∧ s.cipher.slots[k].state = .opened) →
     (t.kind = .read ∨ (e.cls = .priv ∧ e.writable = true ∧ s.readerOpen = false)) →
     exec .admission s = .next { s with
       filter := { s.filter with
         queue := rest
         txns := s.filter.txns ++
           [{ t with
               state := .admitted, status := .good, waiting := false, recorded := none, addition := none
               held := if t.kind = .discard then 0 else t.range.len
               frags :=
                 [{ id := s.counters.ids, range := t.range, kind := .pass, recorded := false, pos := some p,
                    key := s.instanceOf e, zeros := [], state := .waiting,
                    workKey := if t.kind = .write then (s.instanceOf e).bind (fun i => s.cipher.slots[i.slot].key)
                      else none,
                    stored := [], plain := [], counted := true }] }]
         issueQ := if t.kind = .write then s.filter.issueQ else s.filter.issueQ ++ [s.counters.ids]
         total := s.filter.total + 1
         inFlight := s.filter.inFlight.set p (s.filter.inFlight[p] + 1) }
       counters.ids := s.counters.ids + 1 }) ∧
  (∀ (s : State) (t : Txn) (rest : List Txn), s.filter.queue = t :: rest → t.kind = .sync →
     s.filter.quiesce = .none → s.cipher.run = none → s.ctl.drive ≠ .wiping → s.ctl.drive ≠ .fault →
     s.media.state = .ready → s.cipher.test.state ≠ .running → s.namesInv →
     exec .admission s = .next { s with
       filter := { s.filter with
         queue := rest
         txns := s.filter.txns ++
           [{ t with
               state := .admitted, status := .good, waiting := false, recorded := none, addition := none, held := 0
               frags :=
                 [{ id := s.counters.ids, range := ⟨0, 0⟩, kind := .pass, recorded := false, pos := none, key := none,
                    zeros := [], state := .waiting, workKey := none, stored := [], plain := [], counted := true }] }]
         issueQ := s.filter.issueQ ++ [s.counters.ids]
         total := s.filter.total + 1 }
       counters.ids := s.counters.ids + 1 }) ∧
  (∀ (s : State) (t : Txn) (rest : List Txn) (p q : Pos) (e f : Entry) (u : Nat),
     s.filter.queue = t :: rest → (t.kind = .read ∨ t.kind = .write ∨ t.kind = .discard) →
     s.filter.quiesce = .none → s.cipher.run = none → t.need + s.bufferHeld ≤ 2048 →
     s.ctl.drive ≠ .wiping → s.ctl.drive ≠ .fault → s.media.state = .ready → s.cipher.test.state ≠ .running →
     s.uSpan = some u → tableLaw 0 s.regions.table = true → s.regions.table.length ≤ 16 → q.val = p.val + 1 →
     s.regions.table[p.val]? = some e → s.regions.table[q.val]? = some f → e.base ≤ t.range.lo →
     t.range.lo < f.base → e.base + e.length = f.base → f.base < t.range.hi → t.range.hi ≤ f.base + f.length →
     t.range.hi ≤ u → s.namesInv → s.eraseState p = .idle → s.eraseState q = .idle →
     (∀ x, x = e ∨ x = f →
       (x.cls = .pub ∨ ∃ k : SlotIx, x.slot = some k ∧ s.cipher.slots[k].state = .opened) ∧
       (t.kind = .read ∨ (x.cls = .priv ∧ x.writable = true ∧ s.readerOpen = false))) →
       exec .admission s = .next { s with
         filter := { s.filter with
           queue := rest
           txns := s.filter.txns ++
             [{ t with
                 state := .admitted, status := .good, waiting := false, recorded := none, addition := none
                 held := if t.kind = .discard then 0 else t.range.len
                 frags := [s.passPiece t.kind s.counters.ids p e ⟨t.range.lo, f.base⟩,
                   s.passPiece t.kind (s.counters.ids + 1) q f ⟨f.base, t.range.hi⟩] }]
           issueQ := if t.kind = .write then s.filter.issueQ
             else s.filter.issueQ ++ [s.counters.ids, s.counters.ids + 1]
           total := s.filter.total + 2
           inFlight := (s.filter.inFlight.set p (s.filter.inFlight[p] + 1)).set q (s.filter.inFlight[q] + 1) }
         counters.ids := s.counters.ids + 2 })

/-- The split of a request over a table that obeys R22 (R46): every sector of the request lies in exactly one part,
at or above U in a beyond part, else in the segment of the region that holds it, else in a gap part. -/
def Obligations.SplitCoversRequest : Prop :=
  ∀ (u : Nat) (table : List Entry) (r : Range) (a : Nat), tableLaw 0 table = true → table.length ≤ 16 →
    r.has a = true →
    (u ≤ a → ∃! x, x ∈ splitRequest u table r ∧ ∃ q, x = .beyond q ∧ q.has a = true) ∧
    (∀ (p : Pos) (e : Entry), a < u → table[p.val]? = some e → e.base ≤ a → a < e.base + e.length →
      ∃! x, x ∈ splitRequest u table r ∧ ∃ q, x = .segment p e q ∧ q.has a = true) ∧
    (a < u → (∀ e ∈ table, ¬ (e.base ≤ a ∧ a < e.base + e.length)) →
      ∃! x, x ∈ splitRequest u table r ∧ ∃ q, x = .gap q ∧ q.has a = true) ∧
    (∀ (x y : Part), x ∈ splitRequest u table r → y ∈ splitRequest u table r →
      (∃ q, (x = .beyond q ∨ x = .gap q ∨ ∃ p e, x = .segment p e q) ∧ q.has a = true) →
      (∃ q, (y = .beyond q ∨ y = .gap q ∨ ∃ p e, y = .segment p e q) ∧ q.has a = true) → x = y)

/-- The cuts of a segment of the sweeping region. A READ (R48): one fragment over the whole segment whose zero set is
[max(a, w), b) without the keep ranges: PASS when it is empty, ZERO when it is the segment, MASKED otherwise. A WRITE
(R49): below c one PASS piece that is not recorded; from c on the recorded range, whose sectors lie in HOLD pieces of
the chunk in flight from w to q and in PASS pieces elsewhere; it fails, ERASE_BUSY, when the keep list merged with the
recorded range would exceed 16 ranges. A DISCARD (R50): PASS below w, SKIP and DONE from w on. The admission of a WRITE
there takes its pieces; with a recorded range it joins the keep list as one more addition, the SWEEP commit is
requested and the transaction waits for it (R51, R102). -/
def Obligations.SweepReadCut : Prop :=
  (∀ (s : State) (p : Pos) (e : Entry) (x : Sweep) (r : Range), r.lo < r.hi → keepSorted x.keep = true →
     ∃ g, cutRead s p e x r = ⟨[g], none⟩ ∧ g.range = r ∧ g.key = s.instanceOf e ∧ g.pos = some p ∧
       (g.kind = .pass → g.state = .waiting ∧
         ∀ a, r.has a = true → ¬ (x.w ≤ a ∧ ∀ k ∈ x.keep, k.has a = false)) ∧
       (g.kind = .zero → g.state = .done ∧
         ∀ a, r.has a = true → x.w ≤ a ∧ ∀ k ∈ x.keep, k.has a = false) ∧
       (g.kind = .masked → g.state = .waiting ∧
         (∃ a, r.has a = true ∧ x.w ≤ a ∧ ∀ k ∈ x.keep, k.has a = false) ∧
         (∃ a, r.has a = true ∧ ¬ (x.w ≤ a ∧ ∀ k ∈ x.keep, k.has a = false)) ∧
         ∀ a, r.has a = true →
           ((∃ z ∈ g.zeros, z.has a = true) ↔ x.w ≤ a ∧ ∀ k ∈ x.keep, k.has a = false)) ∧
       (g.kind = .pass ∨ g.kind = .zero ∨ g.kind = .masked)) ∧
  (∀ (s : State) (p : Pos) (e : Entry) (x : Sweep) (r : Range), r.lo < r.hi → x.c ≤ x.w → x.w ≤ x.q →
     (r.hi ≤ x.c → ∃ g, cutWrite s p e x r = some ⟨[g], none⟩ ∧ g.range = r ∧ g.kind = .pass ∧ g.recorded = false ∧
       g.key = s.instanceOf e ∧ g.state = .waiting) ∧
     (x.c < r.hi → 16 < (keepMerge ⟨max r.lo x.c, r.hi⟩ x.keep).length → cutWrite s p e x r = none) ∧
     (x.c < r.hi → (keepMerge ⟨max r.lo x.c, r.hi⟩ x.keep).length ≤ 16 →
       ∃ gs, cutWrite s p e x r = some ⟨gs, some ⟨max r.lo x.c, r.hi⟩⟩ ∧
         (∀ g ∈ gs, g.range.lo < g.range.hi ∧ r.lo ≤ g.range.lo ∧ g.range.hi ≤ r.hi ∧ g.key = s.instanceOf e ∧
           g.pos = some p ∧ g.state = .waiting ∧ g.stored = []) ∧
         ∀ a, r.has a = true → ∃ g ∈ gs, g.range.has a = true ∧ (∀ h ∈ gs, h.range.has a = true → h = g) ∧
           (g.recorded = true ↔ x.c ≤ a) ∧
           (a < x.w ∨ x.q ≤ a → g.kind = .pass) ∧
           (∀ n b, x.w ≤ a → a < x.q → x.chunk = some ⟨n, b⟩ → g.kind = .hold n))) ∧
  (∀ (s : State) (p : Pos) (e : Entry) (x : Sweep) (r : Range), r.lo < r.hi →
     ∃ gs, cutDiscard s p e x r = ⟨gs, none⟩ ∧
       ∀ a, r.has a = true → ∃ g ∈ gs, g.range.has a = true ∧ (∀ h ∈ gs, h.range.has a = true → h = g) ∧
         (a < x.w → g.kind = .pass ∧ g.state = .waiting) ∧ (x.w ≤ a → g.kind = .skip ∧ g.state = .done)) ∧
  (∀ (s : State) (t : Txn) (rest : List Txn) (p : Pos) (e : Entry) (u : Nat) (k : SlotIx) (x : Sweep),
     s.filter.queue = t :: rest → t.kind = .write → s.filter.quiesce = .none → s.cipher.run = none →
     t.need + s.bufferHeld ≤ 2048 → s.ctl.drive ≠ .wiping → s.ctl.drive ≠ .fault → s.media.state = .ready →
     s.cipher.test.state ≠ .running → s.uSpan = some u → tableLaw 0 s.regions.table = true →
     s.regions.table.length ≤ 16 → s.regions.table[p.val]? = some e → e.base ≤ t.range.lo →
     t.range.lo < t.range.hi → t.range.hi ≤ e.base + e.length → t.range.hi ≤ u → s.namesInv → e.cls = .priv →
     e.slot = some k → s.cipher.slots[k].state = .opened → e.writable = true → s.readerOpen = false →
     s.eraseState p = .sweeping → s.erase.sweep = some x →
     (cutWrite s p e x t.range = none →
       exec .admission s = .next (State.concluded { s with filter.queue := rest } t.tag .eraseBusy none [])) ∧
     (∀ gs, cutWrite s p e x t.range = some ⟨gs, none⟩ →
       ∃ v, exec .admission s = .next v ∧ v.filter.queue = rest ∧ v.replies = s.replies ∧ v.erase = s.erase ∧
         v.filter.txns = s.filter.txns ++ [{ t with
           state := .admitted, frags := nameFrags s.counters.ids gs, held := t.range.len, waiting := false
           recorded := none, addition := none, status := .good }]) ∧
     (∀ gs r, cutWrite s p e x t.range = some ⟨gs, some r⟩ →
       ∃ v y, exec .admission s = .next v ∧ v.filter.queue = rest ∧ v.replies = s.replies ∧
         v.filter.txns = s.filter.txns ++ [{ t with
           state := .admitted, frags := nameFrags s.counters.ids gs, held := t.range.len, waiting := true
           recorded := some r, addition := some (s.erase.additions + 1), status := .good }] ∧
         v.filter.issueQ = s.filter.issueQ ∧ v.filter.total = s.filter.total + gs.length ∧
         v.erase.additions = s.erase.additions + 1 ∧ v.erase.sweep = some y ∧ y.keep = keepMerge r x.keep ∧
         y.c = x.c ∧ y.w = x.w ∧ y.q = x.q ∧ y.chunk = x.chunk ∧ v.sweepAsked))

/-- The merge of a recorded range into the keep list (R101, R102): the list stays sorted, disjoint and not adjacent;
it covers what it covered and the range; and it grows by one range less one for each range that overlapped or was
adjacent. The pruning at a checkpoint keeps the law and removes exactly the ranges that end at or below it (R103). And
the completion of a SWEEP commit with no WRITE waiting: one that records the sweep of the context moves c to its
checkpoint and prunes; one that records another sweep, or none outside phase ENDING, only stores; one that records
none in phase ENDING ends the sweep: the outcome is the last result, the context goes, the head job leaves and a SWEEP
commit is requested (R99, R103, R106). -/
def Obligations.KeepMergeLaw : Prop :=
  (∀ (r : Range) (keep : List Range), r.lo < r.hi → keepSorted keep = true →
     keepSorted (keepMerge r keep) = true ∧
     (∀ a, (∃ k ∈ keepMerge r keep, k.has a = true) ↔ r.has a = true ∨ ∃ k ∈ keep, k.has a = true) ∧
     (keepMerge r keep).length + (keep.filter (fun k => decide (k.lo ≤ r.hi ∧ r.lo ≤ k.hi))).length =
       keep.length + 1) ∧
  (∀ (c : Nat) (keep : List Range), keepSorted keep = true →
     keepSorted (keepPrune c keep) = true ∧ ∀ k, k ∈ keepPrune c keep ↔ k ∈ keep ∧ c < k.hi) ∧
  (∀ (s : State) (r : SweepRecord) (a : BitVec 32), s.staysAwake → s.ctl.drive ≠ .fault →
     s.store.busy = some ⟨.sweep r, [], a⟩ → s.store.queue = [] → (∀ t ∈ s.filter.txns, t.waiting = false) →
     (∀ x y, r.sweep = some y → s.erase.sweep = some x → x.pos = y.pos → x.gen = y.gen →
       exec (.commitCompletion true) s = .next
         { s.committed (.sweep r) with
           erase := { s.erase with
             sweep := some { x with
               c := y.checkpoint, keep := x.keep.filter (fun k => decide (y.checkpoint < k.hi)) } } }) ∧
     (∀ y, r.sweep = some y → (∀ x, s.erase.sweep = some x → x.pos ≠ y.pos ∨ x.gen ≠ y.gen) →
       exec (.commitCompletion true) s = .next (s.committed (.sweep r))) ∧
     (r.sweep = none → (∀ x, s.erase.sweep = some x → x.phase ≠ .ending) →
       exec (.commitCompletion true) s = .next (s.committed (.sweep r))) ∧
     (∀ (x : Sweep) (j : Job) (rest : List Job), r.sweep = none → s.erase.sweep = some x → x.phase = .ending →
       s.erase.queue = j :: rest → (∀ k ∈ rest.head?, s.filter.inFlight[k.pos] ≠ 0) →
       exec (.commitCompletion true) s = .next (requestCommit .sweep []
         { s.committed (.sweep r) with
           erase := { s.erase with
             queue := rest, stage := if rest = [] then .idle else .waitCount, sweep := none
             lastResult := x.outcome } })))

/-- WRITE_DATA_SECTOR (R10, R56, R75). With no data to come nothing changes: the model's choice (assumption 4). The
next sector of the oldest WRITE with data to come (assumption 24) goes into the piece that its LBA lies in, in media
form, under the piece's key instance, whether the WRITE has one piece or several; the last sector of a piece destroys
its working key, and puts a PASS piece, but not a HOLD piece, in the issue queue. -/
def Obligations.WriteDataPulled : Prop :=
  (∀ (s : State) (x : Sector),
     (s.pulling = none → exec (.writeDataSector x) s = .next s) ∧
     (∀ (t : Txn) (g : Frag), s.pulling = some t → s.namesInv → t.frags = [g] → g.range = t.range → g.kind = .pass →
       g.state = .waiting → g.stored.length = t.pulled → s.media.state = .ready →
       exec (.writeDataSector x) s = .next { s with
         filter := { s.filter with
           txns := s.filter.txns.map (fun y =>
             if y.id = t.id then
               { y with
                 pulled := t.pulled + 1
                 frags := [{ g with
                   stored := g.stored ++ [match g.key with | some i => .cipher i x | none => .plain x]
                   workKey := if t.pulled + 1 = g.range.len then none else g.workKey }] }
             else y)
           issueQ := if t.pulled + 1 = g.range.len then s.filter.issueQ ++ [g.id] else s.filter.issueQ } })) ∧
  (∀ (s : State) (x : Sector) (t : Txn) (g : Frag) (before after : List Frag), s.pulling = some t → s.namesInv →
     t.frags = before ++ g :: after → g.range.has (t.range.lo + t.pulled) = true →
     (∀ h ∈ before, h.range.has (t.range.lo + t.pulled) = false) → g.state = .waiting → s.media.state = .ready →
     exec (.writeDataSector x) s = .next { s with
       filter := { s.filter with
         txns := s.filter.txns.map (fun y =>
           if y.id = t.id then
             { y with
               pulled := t.pulled + 1
               frags := before ++ { g with
                 stored := g.stored ++ [match g.key with | some i => .cipher i x | none => .plain x]
                 workKey := if g.stored.length + 1 = g.range.len then none else g.workKey } :: after }
           else y)
         issueQ := if g.kind = .pass ∧ g.stored.length + 1 = g.range.len then s.filter.issueQ ++ [g.id]
           else s.filter.issueQ } })

/-! ### The settings store -/

/-- A record holds its old or its new content (R192): a commit that is verified makes the new content, obeying the
record's laws, the current one; one cut short or failed leaves the old content current. -/
def Obligations.RecordOldOrNew : Prop :=
  ∀ (α : Type) (law : α → Bool) (c : Copies α) (old new : α), c.load law = some old →
    (c.spoil law).load law = some old ∧ (law new = true → (c.commit law new).load law = some new)

/-- COMMIT_COMPLETION (R192 to R195). With no commit in progress nothing changes: the model's choice (assumption 4). A
verified OPTIONS commit is stored and, with nothing queued, the store is idle; with another record queued, its commit
starts with the content as it then stands (the order within the completion: assumption 13). A read-back that differs
leaves the record's old content, the copy written failing its check by the model's choice (assumption 11), and the
drive enters FAULT with cause STORE_WRITE; the queue keeps its entries and nothing starts (the premise that a quiesce
for an apply stands only while one is DRAINING is an invariant: KeysStayClosedWithoutProfile). In FAULT a verified
commit is stored, nobody is told and nothing starts. The MAP commit of a swap ends the apply (R35). The PROFILE commit
of a removal clears the profile's bit from every stored, pending and snapshot mask and requests MAP (R37, R140). The
wipe's commits follow one another, and the last one ends it in FACTORY (R167). A SWEEP commit ends the durability wait
of a WRITE that it covers, which is answered GOOD once its pieces have ended (R59, R60), and a failed commit gives a
WRITE that waits NOT_READY. -/
def Obligations.CommitCompletes : Prop :=
  (∀ s : State, s.staysAwake →
     (∀ v, s.store.busy = none → exec (.commitCompletion v) s = .next s) ∧
     (∀ (o : RawOptions) (n : BitVec 32), s.store.busy = some ⟨.options o, [], n⟩ → s.ctl.drive ≠ .fault →
       s.store.queue = [] →
       exec (.commitCompletion true) s = .next { s with
         store := { s.store with options := s.store.options.commit optionsLaw o, busy := none } }) ∧
     (∀ (o : RawOptions) (n : BitVec 32) (e : QueueEntry) (rest : List QueueEntry),
       s.store.busy = some ⟨.options o, [], n⟩ → s.ctl.drive ≠ .fault → s.store.queue = e :: rest →
       exec (.commitCompletion true) s = .next { s with
         store := { s.store with
           options := s.store.options.commit optionsLaw o, queue := rest
           busy := some ⟨s.capture e.record, e.waiters, s.erase.additions⟩ } }) ∧
     (∀ c, s.store.busy = some c → s.ctl.drive = .fault →
       exec (.commitCompletion true) s = .next { s with store := { s.store.write c.content with busy := none } }) ∧
     (∀ c, s.store.busy = some c → s.ctl.drive ≠ .fault →
       (s.filter.quiesce = .apply → s.regions.apply = .draining) →
       ∃ t, exec (.commitCompletion false) s = .next t ∧ t.ctl.drive = .fault ∧ t.ctl.cause = some .storeWrite ∧
         t.ctl.openProfile = none ∧ t.cred.enroll = none ∧ t.cred.eval = none ∧ t.cred.backoff = none ∧
         t.store = { s.store.spoil c.content with busy := none } ∧ t.regions.table = s.regions.table ∧
         t.cred.profiles = s.cred.profiles ∧ t.flash = s.flash)) ∧
  (∀ (s : State) (m : MapRecord) (a : BitVec 32) (n : Snapshot), s.staysAwake → s.ctl.drive ≠ .fault →
    s.store.busy = some ⟨.map m, [.applyEnd], a⟩ → s.store.queue = [] → s.regions.snapshot = some n →
    n.swapped = true → s.regions.apply = .draining → s.filter.quiesce = .apply →
    exec (.commitCompletion true) s = .next
      { s.committed (.map m) with
        regions.apply := .idle, regions.snapshot := none, filter.quiesce := .none }) ∧
  (∀ (s : State) (r : ProfIx) (v : Option Profile) (a : BitVec 32), s.staysAwake → s.ctl.drive ≠ .fault →
    s.store.busy = some ⟨.profile r v, [.removal r], a⟩ → s.store.queue = [] → s.cred.removal[r] = true →
    exec (.commitCompletion true) s = .next (requestCommit .map []
      { s.committed (.profile r v) with
        cred.removal := s.cred.removal.set r false
        cipher.slots := s.cipher.slots.map (fun k => { k with mask := k.mask &&& ~~~(BitVec.ofNat 8 (2 ^ r.val)) })
        regions.masks := s.regions.masks.map (fun m => m &&& ~~~(BitVec.ofNat 8 (2 ^ r.val)))
        regions.snapshot := s.regions.snapshot.map (fun n => { n with
          masks := n.masks.map (fun m => m &&& ~~~(BitVec.ofNat 8 (2 ^ r.val))) }) })) ∧
  (∀ (s : State) (x : RecordContent) (a : BitVec 32) (k : Nat), s.staysAwake → s.ctl.drive = .wiping →
    s.ctl.wipeStep = some k → s.store.busy = some ⟨x, [.wipe k], a⟩ → s.store.queue = [] →
    (∀ r, x = .sweep r → k = 2) →
    (k = 1 → exec (.commitCompletion true) s = .next (requestCommit .sweep [.wipe 2]
      { s.committed x with
        ctl.wipeStep := some 2
        cred := { s.cred with
          profiles := Vector.replicate 8 none, removal := Vector.replicate 8 false, lastEnroll := .none } })) ∧
    (k = 2 → s.erase.sweep = none → (∀ t ∈ s.filter.txns, t.waiting = false) →
      exec (.commitCompletion true) s = .next (requestCommit (.profile 0) [.wipe 3]
        { s.committed x with ctl.wipeStep := some 3 })) ∧
    (∀ p : ProfIx, k = p.val + 3 → p < 7 →
      exec (.commitCompletion true) s = .next (requestCommit (.profile (p + 1)) [.wipe (k + 1)]
        { s.committed x with ctl.wipeStep := some (k + 1) })) ∧
    (k = 10 → exec (.commitCompletion true) s = .next (requestCommit .attempts [.wipe 11]
      { s.committed x with ctl.wipeStep := some 11, cred.n := 0 })) ∧
    (k = 11 → exec (.commitCompletion true) s = .next (requestCommit .map [.wipe 12]
      { s.committed x with ctl := { s.ctl with wipeStep := some 12, wipeFlag := false } })) ∧
    (k = 12 → ∃ u : KeypadUnit,
      exec (.commitCompletion true) s = .next
        { s.committed x with ctl := { s.ctl with wipeStep := none, drive := .factory }, keypad := u } ∧
      u.selection = .factory ∧ u.keys = s.keypad.keys ∧ u.oneShot = s.keypad.oneShot)) ∧
  (∀ (s : State) (r : SweepRecord) (a : BitVec 32) (x : Sweep) (y : StoredSweep) (before after : List Txn) (t : Txn)
      (u : State), s.staysAwake → s.ctl.drive ≠ .fault → s.store.busy = some ⟨.sweep r, [], a⟩ →
    s.store.queue = [] → r.sweep = some y → s.erase.sweep = some x → x.pos = y.pos → x.gen = y.gen → s.namesInv →
    s.filter.txns = before ++ t :: after → (∀ z ∈ before ++ after, z.waiting = false) →
    t.waiting = true → t.kind = .write → t.status = .good → t.dropped = false →
    u = { s.committed (.sweep r) with
      erase := { s.erase with
        sweep := some { x with
          c := y.checkpoint, keep := x.keep.filter (fun k => decide (y.checkpoint < k.hi)) } } } →
    ((∃ b, t.addition = some b ∧ (a - b).toNat < 2147483648) ∨ (∃ q, t.recorded = some q ∧ q.hi ≤ y.checkpoint) →
      ((∀ g ∈ t.frags, g.state = .done ∨ g.state = .failed) →
        exec (.commitCompletion true) s = .next
          (State.concluded { u with filter.txns := before ++ after } t.tag .good none [])) ∧
      ((∃ g ∈ t.frags, g.state ≠ .done ∧ g.state ≠ .failed) →
        exec (.commitCompletion true) s = .next
          { u with filter.txns := before ++ { t with waiting := false } :: after })) ∧
    ((∀ b, t.addition = some b → 2147483648 ≤ (a - b).toNat) →
      (∀ q, t.recorded = some q → y.checkpoint < q.hi) →
      exec (.commitCompletion true) s = .next u)) ∧
  (∀ (s : State) (c : Commit) (before after : List Txn) (t : Txn), s.store.busy = some c → s.ctl.drive ≠ .fault →
    s.erase.sweep = none → s.namesInv → s.filter.txns = before ++ t :: after →
    (∀ z ∈ before ++ after, z.waiting = false) → t.waiting = true → t.kind = .write → t.status = .good →
    t.dropped = false →
    ∃ v, exec (.commitCompletion false) s = .next v ∧
      ((∀ g ∈ t.frags, g.state = .done ∨ g.state = .failed) →
        v.replies = s.replies ++ [⟨t.tag, .notReady, none, []⟩] ∧ v.front.tags = s.front.tags.set t.tag .free ∧
        v.filter.txns = before ++ after) ∧
      ((∃ g ∈ t.frags, g.state ≠ .done ∧ g.state ≠ .failed) →
        v.replies = s.replies ∧ v.filter.txns = before ++ { t with status := .notReady } :: after))

/-- What the completions of the commits of an evaluation do (R143, R144): the count stored, the comparison of the
candidate starts and takes 320 ms; the reset stored, the matching profile is opened: the slots whose masks name it,
the inactivity timer or the attach window, the OPEN state and its background, the ACCEPT one-shot. And the commits of
an enrollment in COMMITTING (R137, R139): PROFILE, and MAP for origin FACTORY, are awaited, each one noted as it
completes; the last one ends the enrollment with OK: OPEN again for origin OPEN, nothing more if a lock had cancelled
it; for origin FACTORY the administrator is opened without ACCEPT, or the drive becomes LOCKED if it was cancelled. -/
def Obligations.EvaluationCommits : Prop :=
  (∀ (s : State) (n : Nat) (a : BitVec 32), s.staysAwake → s.power.mode = .active → s.store.queue = [] →
     (∀ d, s.ctl.drive = .evaluating → s.cred.eval = some ⟨d, .counting⟩ →
       s.store.busy = some ⟨.attempts n, [.countAttempts], a⟩ →
       exec (.commitCompletion true) s = .next { s with
         store := { s.store with attempts := s.store.attempts.commit attemptsLaw n, busy := none }
         cred := { s.cred with eval := some ⟨d, .comparing⟩, comparison := some ⟨.evaluation, d, 320⟩ } }) ∧
     (∀ (d : List Digit) (p : ProfIx), s.ctl.drive = .evaluating → s.cred.eval = some ⟨d, .resetting p⟩ →
       s.store.busy = some ⟨.attempts n, [.resetAttempts], a⟩ →
       ∃ k : KeypadUnit,
         exec (.commitCompletion true) s = .next { s with
           store := { s.store with attempts := s.store.attempts.commit attemptsLaw n, busy := none }
           cred := { s.cred with eval := none }
           ctl := { s.ctl with
             drive := .opened, openProfile := some p
             inactivity :=
               if s.ctl.attached then
                 (if s.store.effective.inactivity = 0 then none
                  else some (60000 * 2 ^ (s.store.effective.inactivity - 1)))
               else s.ctl.inactivity
             window := if s.ctl.attached then s.ctl.window else some 30000 }
           cipher.slots := s.cipher.slots.map (fun x =>
             if x.state = .closed ∧ x.mask.getLsbD p.val = true then { x with state := .opened } else x)
           keypad := k } ∧
         k.selection = (if s.ctl.attached then .opened else .openUnattached) ∧
         k.oneShot = some ⟨.accept, 0, 500, 1⟩ ∧ k.keys = s.keypad.keys ∧ k.buffer = s.keypad.buffer ∧
         k.phase = s.keypad.phase ∧ k.timer = s.keypad.timer)) ∧
  (∀ (s : State) (e : Enroll) (c : RecordContent) (w : Waiter) (a : BitVec 32), s.staysAwake → s.ctl.drive ≠ .fault →
     s.store.queue = [] → s.store.busy = some ⟨c, [w], a⟩ → s.cred.enroll = some e → e.step = .committing →
     (∀ r, c ≠ .sweep r) → (w = .enrollProfile ∨ w = .enrollMap) →
     ((w = .enrollProfile ∧ e.mapDone = false → exec (.commitCompletion true) s = .next
         { s.committed c with cred := { s.cred with enroll := some { e with profileDone := true } } }) ∧
      (w = .enrollMap ∧ e.profileDone = false → exec (.commitCompletion true) s = .next
         { s.committed c with cred := { s.cred with enroll := some { e with mapDone := true } } }) ∧
      (w = .enrollProfile ∧ e.mapDone = true ∨ w = .enrollMap ∧ e.profileDone = true →
        (e.origin = .opened → e.cancelled = true → exec (.commitCompletion true) s = .next
          { s.committed c with cred := { s.cred with enroll := none, lastEnroll := .ok } }) ∧
        (e.origin = .opened → e.cancelled = false → s.ctl.drive = .enrolling → ∃ k : KeypadUnit,
          exec (.commitCompletion true) s = .next
            { s.committed c with
              ctl.drive := .opened, cred := { s.cred with enroll := none, lastEnroll := .ok }, keypad := k } ∧
          k.selection = (if s.ctl.attached then .opened else .openUnattached) ∧ k.keys = s.keypad.keys ∧
          k.oneShot = s.keypad.oneShot) ∧
        (e.origin = .factory → e.cancelled = true → s.ctl.drive = .enrolling → ∃ k : KeypadUnit,
          exec (.commitCompletion true) s = .next
            { s.committed c with
              ctl.drive := .locked, cred := { s.cred with enroll := none, lastEnroll := .ok }, keypad := k } ∧
          k.selection = .idleLocked ∧ k.keys = s.keypad.keys ∧ k.oneShot = s.keypad.oneShot) ∧
        (e.origin = .factory → e.cancelled = false → s.ctl.drive = .enrolling → ∃ k : KeypadUnit,
          exec (.commitCompletion true) s = .next
            { s.committed c with
              cred := { s.cred with enroll := none, lastEnroll := .ok }
              ctl := { s.ctl with
                drive := .opened, openProfile := some 0
                inactivity :=
                  if s.ctl.attached then
                    (if s.store.effective.inactivity = 0 then none
                     else some (60000 * 2 ^ (s.store.effective.inactivity - 1)))
                  else s.ctl.inactivity
                window := if s.ctl.attached then s.ctl.window else some 30000 }
              cipher.slots := s.cipher.slots.map (fun x =>
                if x.state = .closed ∧ x.mask.getLsbD 0 = true then { x with state := .opened } else x)
              keypad := k } ∧
          k.selection = (if s.ctl.attached then .opened else .openUnattached) ∧ k.keys = s.keypad.keys ∧
          k.oneShot = s.keypad.oneShot))))

/-! ### Cipher test and start-up -/

/-- CIPHER_TEST_END (R78, R79, R197). With no run in progress nothing changes: the model's choice (assumption 4). A run
of CIPHER without a differing compare ends PASS and one of CIPHER_INJECT in which exactly the altered compare differs
ends INJECT_DETECTED (which bit of the operand stands for that compare: assumption 21); any other end is FAIL and FAULT
with cause CIPHER_TEST. At start-up a failing run enters FAULT with the same cause. (The premise that a
quiesce for an apply stands only while one is DRAINING is an invariant: KeysStayClosedWithoutProfile.) -/
def Obligations.CipherTestEnds : Prop :=
  ∀ (s : State) (m : BitVec 16), s.staysAwake →
    (s.cipher.run = none → exec (.cipherTestEnd m) s = .next s) ∧
    (∀ left, s.cipher.run = some ⟨.plain, left⟩ → m = 0 →
      exec (.cipherTestEnd m) s = .next { s with cipher := { s.cipher with run := none, result := .pass } }) ∧
    (∀ left, s.cipher.run = some ⟨.inject, left⟩ → m = 1 →
      exec (.cipherTestEnd m) s =
        .next { s with cipher := { s.cipher with run := none, result := .injectDetected } }) ∧
    (∀ k left, s.cipher.run = some ⟨k, left⟩ → s.ctl.drive ≠ .fault →
      (s.filter.quiesce = .apply → s.regions.apply = .draining) →
      (k = .plain ∧ m ≠ 0 ∨ k = .inject ∧ m ≠ 1 ∨ k = .startUp ∧ m ≠ 0) →
      ∃ t, exec (.cipherTestEnd m) s = .next t ∧ t.ctl.drive = .fault ∧ t.ctl.cause = some .cipherTest ∧
        t.ctl.openProfile = none ∧ t.cipher.run = none ∧
        t.cipher.result = (if k = .startUp then s.cipher.result else .fail) ∧
        (∀ x : SlotIx, t.cipher.slots[x].state ≠ .opened) ∧ t.store = s.store ∧ t.flash = s.flash ∧
        t.cred.profiles = s.cred.profiles ∧ t.cred.n = s.cred.n ∧ t.regions.table = s.regions.table)

/-- The end of start-up after a passing test (R152, R198, R200): with the wipe flag set the drive is WIPING; else with
profile 0 EMPTY it is FACTORY; else with T not 0 and n at least T it is WIPING, with n at least F it is BACKOFF with
the timer at d(n), and else LOCKED. The background player plays the state's pattern and the standby idle timer runs 20
s. Before that every stored and pending mask loses the bits of EMPTY profile slots, and MAP is requested if a stored
mask changed (R198). After it, but in WIPING, the SWEEP record is restored (R107, R108, R199): a sweep of a present
position whose PRIVATE slot holds a key at the recorded generation is resumed at its checkpoint, at the head of the
recorded jobs; without one the first job kept starts, a key replacement taking a number of the counter of assumption
7; a job of an absent position or of a slot at the highest generation is dropped; and a dropped sweep or job requests
the SWEEP commit. -/
def Obligations.StartUpChoosesState : Prop :=
  (∀ (s : State) (left : Nat), s.cipher.run = some ⟨.startUp, left⟩ → s.ctl.drive = .starting →
     ∃ t, exec (.cipherTestEnd 0) s = .next t ∧ t.cipher.run = none ∧
       (∃ p, t.keypad.player = some ⟨p, 0, p.stepMs 0, p.repeats⟩ ∧ backgroundFor t.ctl.drive t.ctl.attached = some p) ∧
       t.power.idle = .running 20000 ∧ t.cred.profiles = s.cred.profiles ∧ t.cred.n = s.cred.n ∧
       t.flash = s.flash ∧
       (s.ctl.wipeFlag = true → t.ctl.drive = .wiping) ∧
       (s.ctl.wipeFlag = false →
         (s.cred.profiles[(0 : ProfIx)] = none → t.ctl.drive = .factory) ∧
         (s.cred.profiles[(0 : ProfIx)] ≠ none →
           (s.store.effective.threshold ≠ 0 → s.store.effective.threshold ≤ s.cred.n → t.ctl.drive = .wiping) ∧
           (s.store.effective.threshold = 0 ∨ s.cred.n < s.store.effective.threshold →
             (s.cred.n < s.store.effective.free → t.ctl.drive = .locked ∧ t.cred.backoff = s.cred.backoff) ∧
             (s.store.effective.free ≤ s.cred.n → t.ctl.drive = .backoff ∧
               t.cred.backoff = some (2000 * 2 ^ min (s.cred.n - s.store.effective.free) 10)))))) ∧
  (∀ (s : State) (left : Nat), s.cipher.run = some ⟨.startUp, left⟩ → s.ctl.drive = .starting →
     ∃ t, exec (.cipherTestEnd 0) s = .next t ∧
       (t.ctl.drive ≠ .wiping →
         (∀ (k : SlotIx) (r : ProfIx),
           t.cipher.slots[k].mask.getLsbD r.val =
             ((s.cipher.slots[k].mask).getLsbD r.val && s.cred.profiles[r].isSome) ∧
           (t.regions.masks[k]).getLsbD r.val =
             ((s.regions.masks[k]).getLsbD r.val && s.cred.profiles[r].isSome)) ∧
         t.regions.table = s.regions.table ∧
         ((∃ (k : SlotIx) (r : ProfIx), (s.cipher.slots[k].mask).getLsbD r.val = true ∧ s.cred.profiles[r] = none) →
           s.store.busy = none → s.store.queue = [] → ∃ b m, t.store.busy = some b ∧ b.content = .map m ∧
             m.table = s.regions.table ∧ m.epoch = s.regions.epoch ∧ m.wipeFlag = s.ctl.wipeFlag ∧
             ∀ (k : SlotIx) (r : ProfIx), m.slots[k].key = s.cipher.slots[k].key ∧
               m.slots[k].gen = s.cipher.slots[k].gen ∧
               (m.slots[k].mask).getLsbD r.val =
                 ((s.cipher.slots[k].mask).getLsbD r.val && s.cred.profiles[r].isSome))) ∧
       (∀ (w : SweepRecord) (kept : List Job), t.ctl.drive ≠ .wiping → s.store.sweep.load sweepLaw = some w →
         s.erase = ⟨[], .idle, none, 0, .none, 0, 0⟩ → kept = w.jobs.filter s.keepsJob →
         (∀ (y : StoredSweep) (e : Entry), w.sweep = some y → s.regions.table[y.pos.val]? = some e →
           (e.cls = .pub ∨ ∃ k : SlotIx, e.cls = .priv ∧ e.slot = some k ∧ s.cipher.slots[k].key ≠ none ∧
             y.gen = some s.cipher.slots[k].gen) →
           t.erase = ⟨⟨y.pos, .full⟩ :: kept, .sweeping,
             some ⟨y.pos, y.gen, y.checkpoint, y.checkpoint, y.checkpoint, none, y.keep, 0, .running, .none⟩,
             0, .none, 0, 0⟩ ∧
           t.cipher.slots.map KeySlot.gen = s.cipher.slots.map KeySlot.gen) ∧
         ((∀ (y : StoredSweep) (e : Entry), w.sweep = some y → s.regions.table[y.pos.val]? = some e →
             e.cls = .priv ∧ ∀ k : SlotIx, e.slot = some k →
               s.cipher.slots[k].key = none ∨ y.gen ≠ some s.cipher.slots[k].gen) →
           (kept = [] → t.erase = ⟨[], .idle, none, 0, .none, 0, 0⟩) ∧
           (∀ (j : Job) (rest : List Job) (e : Entry) (k : SlotIx), kept = j :: rest → s.filter.inFlight[j.pos] = 0 →
             s.regions.table[j.pos.val]? = some e → e.cls = .priv → e.slot = some k →
             s.cipher.slots[k].gen < 4294967295 →
             t.erase = ⟨kept, .waitMap, none, 0, .none, 0, 0⟩ ∧
             t.cipher.slots[k].key = some s.counters.keys ∧ t.cipher.slots[k].gen = s.cipher.slots[k].gen + 1) ∧
           (∀ (j : Job) (rest : List Job) (e : Entry), kept = j :: rest → s.filter.inFlight[j.pos] = 0 →
             s.regions.table[j.pos.val]? = some e → e.cls = .pub → j.mode = .full →
             t.erase = ⟨kept, .waitSweep,
               some ⟨j.pos, none, e.base, e.base, e.base, none, [], 0, .running, .none⟩, 0, .none, 0, 0⟩) ∧
           (w.sweep ≠ none → t.sweepAsked)) ∧
         (kept ≠ w.jobs → t.sweepAsked)))

/-- POWER_ON (R196, R197, R201): whatever the copies that have decayed, which its operand names (assumption 11), the
contents of the records that still load go to their owners; a commit in progress leaves the copy it was writing
failing its check, the model's choice (assumption 11); OPTIONS that fail are taken at the defaults with the
options default flag set, any other record that fails at its delivered content. The options in force are the clamped
ones, n above a T that is not 0 is T, every slot with a key is CLOSED, the pending table is a copy of the active one.
With every other record valid the cipher test runs its 5 ms, and the drive has no state yet (assumption 6); else the
drive enters FAULT with cause STORE_CHECK and start-up ends. -/
def Obligations.PowerOnLoads : Prop :=
  ∀ (s : State) (d : BitVec 24) (st : Store) (m : MapRecord) (n : Nat),
    st = (match s.store.busy with | some c => s.store.spoil c.content | none => s.store).decay d →
    m = (st.map.load mapLaw).getD ⟨[], 0, Vector.replicate 8 ⟨none, 0, 0⟩, false⟩ →
    n = (st.attempts.load attemptsLaw).getD 0 →
    ∃ t, exec (.powerOn d) s = .next t ∧
      t.power.on = true ∧ t.power.source = .battery ∧ t.power.mode = .active ∧ t.power.settling = none ∧
      t.ctl.openProfile = none ∧ t.ctl.wipeFlag = m.wipeFlag ∧ t.front = ⟨.detached, Vector.replicate 16 .free⟩ ∧
      t.media = ⟨.notReady, none, Vector.replicate 16 .free, 0, false⟩ ∧
      t.filter = ⟨[], [], [], 0, Vector.replicate 16 0, .none⟩ ∧ t.window.response = ⟨0, 0, .none, []⟩ ∧
      (∀ o, st.options.load optionsLaw = some o →
        t.window.staged = o ∧ t.store.effective = o.clamp ∧ t.store.optionsDefault = false) ∧
      (st.options.load optionsLaw = none →
        t.window.staged = ⟨7, 5, 20, 5, 1, 4⟩ ∧ t.store.effective = ⟨7, 5, 20, 5, 1, 4⟩ ∧
        t.store.optionsDefault = true) ∧
      t.cred.n = (if t.store.effective.threshold ≠ 0 ∧ t.store.effective.threshold < n
        then t.store.effective.threshold else n) ∧
      (∀ p : ProfIx, t.cred.profiles[p] = (st.profiles[p].load (profileLaw p)).getD none) ∧
      t.regions.table = m.table ∧ t.regions.epoch = m.epoch ∧
      (∀ p : Pos, t.regions.pending[p] = m.table[p.val]?) ∧
      (∀ k : SlotIx, t.regions.masks[k] = m.slots[k].mask ∧
        t.cipher.slots[k] =
          ⟨if m.slots[k].key = none then .empty else .closed, m.slots[k].key, m.slots[k].gen, m.slots[k].mask⟩) ∧
      t.store.busy = none ∧ t.store.queue = [] ∧ t.replies = s.replies ∧ t.counters = s.counters ∧
      (st.map.load mapLaw ≠ none → st.attempts.load attemptsLaw ≠ none → st.sweep.load sweepLaw ≠ none →
        (∀ p : ProfIx, st.profiles[p].load (profileLaw p) ≠ none) →
        t.ctl.drive = .starting ∧ t.cipher.run = some ⟨.startUp, 5⟩ ∧ t.power.idle = .stopped) ∧
      (st.map.load mapLaw = none ∨ st.attempts.load attemptsLaw = none ∨ st.sweep.load sweepLaw = none ∨
          (∃ p : ProfIx, st.profiles[p].load (profileLaw p) = none) →
        t.ctl.drive = .fault ∧ t.ctl.cause = some .storeCheck ∧ t.cipher.run = none ∧
        t.power.idle = .running 20000 ∧ t.keypad.selection = .fault)

/-- POWER_LOSS (R192, R201, R202): all volatile state goes; the record copies stay, but for the copy that a commit in
progress was writing; that this copy fails its check is the model's own choice (assumption 11), the spec letting it
fail its check or be unverified; the media image keeps every sector that no unanswered WRITE and no WRITE on a
media tag covers, and those that one covers are unknown (which sectors: assumption 29). The values of a part without
power (no drive state, slots EMPTY) and what the model keeps (its log of replies, its queue) are the model's own
choice (assumption 6). -/
def Obligations.PowerLossKeepsRecords : Prop :=
  ∀ s : State,
    ∃ t, exec .powerLoss s = .next t ∧
      t.power.on = false ∧ t.ctl.drive = .starting ∧ t.ctl.openProfile = none ∧ t.front.link = .detached ∧
      t.media.state = .notReady ∧ t.filter.txns = [] ∧ t.filter.queue = [] ∧ t.cipher.run = none ∧
      (∀ k : SlotIx, t.cipher.slots[k].state = .empty ∧ t.cipher.slots[k].key = none) ∧
      t.store.busy = none ∧ t.store.queue = [] ∧
      (∀ st, st = (match s.store.busy with | some c => s.store.spoil c.content | none => s.store) →
        t.store.options = st.options ∧ t.store.profiles = st.profiles ∧ t.store.map = st.map ∧
        t.store.attempts = st.attempts ∧ t.store.sweep = st.sweep) ∧
      (∀ a, ((∃ (tag : Tag) (c : Command), s.media.tags[tag] = .busy c ∧ c.kind = .write ∧ c.range.has a = true) ∨
          ∃ x ∈ s.filter.queue ++ s.filter.txns, x.kind = .write ∧ x.dropped = false ∧ x.range.has a = true) →
        flashRead t.flash a = .unknown) ∧
      (∀ a, (∀ (tag : Tag) (c : Command), s.media.tags[tag] = .busy c → c.kind = .write →
            c.range.has a = false) →
          (∀ x ∈ s.filter.queue ++ s.filter.txns, x.kind = .write → x.dropped = false →
            x.range.has a = false) →
        flashRead t.flash a = flashRead s.flash a) ∧
      t.replies = s.replies ∧ t.pending = s.pending

/-! ### PIN evaluation -/

/-- The result of a comparison in an evaluation (R132, R144 to R146, R149): the match of a profile that is not WIPE
sets n to 0 and requests its commit; the match of a WIPE profile and a miss with n at least T, T not 0, start the full
wipe; any other miss locks the drive while n is below F and enters BACKOFF with the timer at d(n) from F on, with the
REJECT one-shot. In an enrollment (R136 to R138, R38): a match fails it with DUPLICATE; a miss without READY media
fails one from FACTORY with NO_MEDIA; any other miss makes the target ACTIVE with the digits under a fresh salt
(assumption 7) and requests its PROFILE commit, and for origin FACTORY installs the default table over [0, floor8(U))
with a fresh key (assumption 7) in slot 0 and requests MAP; a key that a table still in force gave another slot is
destroyed as at the swap of an apply (R23), and that one in slot 0 is replaced and its generation stays at the maximum
is the model's choice (assumption 38), as is the lowest slot for the match where two profiles have equal PINs
(assumption 39). With the enrollment gone the result is discarded (assumption 18). With no comparison running nothing
changes: the model's choice (assumption 4). -/
def Obligations.ComparisonOutcomes : Prop :=
  (∀ s : State, s.staysAwake → s.power.mode = .active →
     (s.cred.comparison = none → exec .comparisonResult s = .next s) ∧
     (∀ (d d' : List Digit) (left : Nat), s.cred.comparison = some ⟨.evaluation, d, left⟩ →
       s.cred.eval = some ⟨d', .comparing⟩ → s.ctl.drive = .evaluating →
       (∀ (p : ProfIx) (x : Profile), matchProfile s.cred.profiles none d = some p → s.cred.profiles[p] = some x →
         (x.kind ≠ .wipe →
           exec .comparisonResult s = .next
             (requestCommit .attempts [.resetAttempts]
               { s with cred := { s.cred with comparison := none, eval := some ⟨[], .resetting p⟩, n := 0 } })) ∧
         (x.kind = .wipe →
           ∃ t, exec .comparisonResult s = .next t ∧ t.ctl.drive = .wiping ∧ t.cred.comparison = none ∧
             t.cred.eval = none ∧ t.regions.table = [] ∧ t.cred.n = s.cred.n ∧ t.ctl.wipeFlag = true)) ∧
       (matchProfile s.cred.profiles none d = none →
         (s.store.effective.threshold ≠ 0 → s.store.effective.threshold ≤ s.cred.n →
           ∃ t, exec .comparisonResult s = .next t ∧ t.ctl.drive = .wiping ∧ t.cred.comparison = none ∧
             t.cred.eval = none ∧ t.regions.table = [] ∧ t.cred.n = s.cred.n ∧ t.ctl.wipeFlag = true) ∧
         (s.store.effective.threshold = 0 ∨ s.cred.n < s.store.effective.threshold →
           ∃ k : KeypadUnit,
             exec .comparisonResult s = .next { s with
               cred := { s.cred with
                 comparison := none, eval := none
                 backoff :=
                   if s.store.effective.free ≤ s.cred.n then
                     some (2000 * 2 ^ min (s.cred.n - s.store.effective.free) 10)
                   else s.cred.backoff }
               ctl := { s.ctl with
                 drive := if s.store.effective.free ≤ s.cred.n then .backoff else .locked }
               keypad := k } ∧
             k.selection = (if s.store.effective.free ≤ s.cred.n then .backoff else .idleLocked) ∧
             k.oneShot = some ⟨.reject, 0, 100, 3⟩ ∧ k.keys = s.keypad.keys ∧ k.buffer = s.keypad.buffer ∧
             k.phase = s.keypad.phase ∧ k.timer = s.keypad.timer)))) ∧
  (∀ (s : State) (d : List Digit) (left : Nat), s.staysAwake → s.power.mode = .active → s.ctl.drive ≠ .fault →
     s.cred.comparison = some ⟨.duplicate, d, left⟩ →
     (s.cred.enroll = none ∨ (∃ e, s.cred.enroll = some e ∧ e.step ≠ .testing) →
       exec .comparisonResult s = .next { s with cred.comparison := none }) ∧
     (∀ (e : Enroll), s.cred.enroll = some e → e.step = .testing →
       (∀ p, matchProfile s.cred.profiles (some e.target) d = some p →
         ∃ t, exec .comparisonResult s = .next t ∧
           { s with cred.comparison := none }.failedFrom e .duplicate t) ∧
       (matchProfile s.cred.profiles (some e.target) d = none →
         (e.origin = .factory → s.media.state ≠ .ready →
           ∃ t, exec .comparisonResult s = .next t ∧
             { s with cred.comparison := none }.failedFrom e .noMedia t) ∧
         (∀ t : State, t = requestCommit (.profile e.target) [.enrollProfile] { s with
             cred := { s.cred with
               comparison := none
               profiles := s.cred.profiles.set e.target
                 (some ⟨e.kind, d.length, s.counters.salts, ⟨s.counters.salts, d⟩⟩)
               enroll := some { e with
                 step := .committing, first := [], mapDone := decide (e.origin = .opened) } }
             counters.salts := s.counters.salts + 1 } →
           (e.origin = .opened → exec .comparisonResult s = .next t) ∧
           (∀ u, e.origin = .factory → s.media.state = .ready → s.uSpan = some u → s.ctl.openProfile = none →
             ∀ slots : Vector KeySlot 8,
               slots = Vector.ofFn (fun k : SlotIx =>
                 if k = 0 then ⟨.closed, some s.counters.keys, min (s.cipher.slots[k].gen + 1) 4294967295, 1⟩
                 else if tableNames s.regions.table k then ⟨.empty, none, min (s.cipher.slots[k].gen + 1) 4294967295, 0⟩
                 else s.cipher.slots[k]) →
               exec .comparisonResult s = .next (requestCommit .map [.enrollMap]
                 { t with
                   regions := { t.regions with
                     table := [⟨0, u - u % 8, .priv, true, some 0⟩], epoch := s.regions.epoch + 1
                     pending := Vector.ofFn (fun p => if p = 0 then some ⟨0, u - u % 8, .priv, true, some 0⟩ else none)
                     masks := slots.map KeySlot.mask }
                   cipher.slots := slots
                   counters.keys := s.counters.keys + 1 }))))))

/-- A candidate matches a profile found exactly when its digits are the digits of that ACTIVE profile, and matches none
exactly when no ACTIVE profile has them (R132). Verifiers are terms of salt and digits (assumption 8), so that equal
verifiers under one salt mean equal digits: the model's choice. -/
def Obligations.MatchIsEqualDigits : Prop :=
  ∀ (profiles : Vector (Option Profile) 8) (d : List Digit),
    (∀ (p : ProfIx) (x : Profile), profiles[p] = some x →
      x.verifier.salt = x.salt ∧ x.pinLen = x.verifier.digits.length) →
    (∀ p : ProfIx, matchProfile profiles none d = some p →
      ∃ x, profiles[p] = some x ∧ x.verifier.digits = d) ∧
    (matchProfile profiles none d = none →
      ∀ (p : ProfIx) (x : Profile), profiles[p] = some x → x.verifier.digits ≠ d)

/-- The back-off delay (R148): 0 for n below F, and no back-off is made; else 2^e times 2 s with e the lesser of n -
F and 10, so between 2 s and 2,048 s, 2 s at n = F and 2,048 s from F + 10 on. -/
def Obligations.BackoffDelay : Prop :=
  (∀ free n : Nat, 1 ≤ free → free ≤ 10 → n ≤ 255 →
    (n < free → backoffSeconds free n = 0) ∧
    (free ≤ n → backoffSeconds free n = 2 ^ min (n - free) 10 * 2 ∧
      2 ≤ backoffSeconds free n ∧ backoffSeconds free n ≤ 2048) ∧
    (n = free → backoffSeconds free n = 2) ∧ (free + 10 ≤ n → backoffSeconds free n = 2048)) ∧
  (∀ (s t : State) (d d' : List Digit) (left : Nat), s.cred.comparison = some ⟨.evaluation, d, left⟩ →
    s.cred.eval = some ⟨d', .comparing⟩ → s.ctl.drive = .evaluating → s.cred.backoff = none →
    matchProfile s.cred.profiles none d = none → s.cred.n < s.store.effective.free →
    exec .comparisonResult s = .next t → t.cred.backoff = none ∧ t.ctl.drive ≠ .backoff)

/-! ### The keypad -/

/-- The debounce of a key and the PRESS (R113 to R115): in ACTIVE a scan debounces every key, a level changing at the
third scan in a row that sees the other sense; without a PRESS nothing else changes, and no PRESS is produced while
two keys are DOWN. Outside ACTIVE and before start-up has ended no scan is made, and a row that comes all the same
changes nothing, the model's choice (assumption 4), but for a scan of the very moment of an entry into STANDBY
(assumption 36, StandbyAndWake). -/
def Obligations.ScanDebounces : Prop :=
  ∀ (s : State) (seen : BitVec 12),
    (s.started = false ∨ s.power.mode ≠ .active → s.power.lastScan = none →
      exec (.keypadScan seen) s = .next s) ∧
    (s.started = true → s.power.mode = .active →
      ∀ keys : Vector KeyState 12,
        (∀ i : KeyIx, keys[i] =
          if seen.getLsbD i.val = s.keypad.keys[i].down then ⟨s.keypad.keys[i].down, 0⟩
          else if 2 ≤ s.keypad.keys[i].run then ⟨!s.keypad.keys[i].down, 0⟩
          else ⟨s.keypad.keys[i].down, s.keypad.keys[i].run + 1⟩) →
        ((∀ i : KeyIx, s.keypad.keys[i].down = false → keys[i].down = true →
            ∃ j : KeyIx, j ≠ i ∧ keys[j].down = true) →
          exec (.keypadScan seen) s = .next { s with keypad.keys := keys }))

/-- What a PRESS does, by drive state (R115, R117). It restarts the standby idle timer, withdrawing the expiry of one
that has just run out (assumption 36), and does no more in EVALUATING, BACKOFF, WIPING and FAULT and where the key is
not accepted. LOCKED: OPEN begins an entry (R119). ENTRY: a digit is appended and acknowledged, LOCK discards the
entry, OPEN with too few digits ends it SHORT and OPEN with enough hands the digits on: n rises to at most 255 and the
ATTEMPTS commit is requested (R120, R121, R142). OPEN: LOCK locks (R123). FACTORY: OPEN is REJECTed without READY
media and, with KEY_LIMIT, with slot 0 exhausted; else the administrator's enrollment begins with its first collection
(R134). ENROLLING (R124): OPEN in WAIT_FIRST and WAIT_SECOND begins a collection; a digit is appended, or fails the
enrollment with OVERFLOW at the sixteenth; OPEN hands the collection on: a first entry too short fails with SHORT,
else it is kept and ENROLL_STEP plays (R135); a second entry that differs fails with MISMATCH, one without READY media
in an enrollment from FACTORY with NO_MEDIA, else the comparison starts (R136). LOCK locks the drive in an enrollment
from OPEN; in one from FACTORY it returns to FACTORY with CANCELLED, or, in COMMITTING, marks it cancelled (R139). A
key accepted in an enrollment from OPEN restarts the inactivity timer (R160). -/
def Obligations.PressInEntry : Prop :=
  (∀ (s : State) (seen : BitVec 12) (i : KeyIx) (keys : Vector KeyState 12), s.started = true →
     s.power.mode = .active → keys = debounceAll seen s.keypad.keys →
     s.keypad.keys[i].down = false → keys[i].down = true → (∀ j : KeyIx, j ≠ i → keys[j].down = false) →
     (s.ctl.drive = .locked → i = 11 →
       ∃ k : KeypadUnit,
         exec (.keypadScan seen) s = .next { s with
           power.idle := s.idleAfterPress, ctl.drive := .entry, keypad := k } ∧
         k.keys = keys ∧ k.buffer = [] ∧ k.phase = some .unlock ∧ k.timer = some 10000 ∧ k.selection = .entry ∧
         k.oneShot = s.keypad.oneShot) ∧
     (s.ctl.drive = .locked → i ≠ 11 →
       exec (.keypadScan seen) s = .next { s with power.idle := s.idleAfterPress, keypad.keys := keys }) ∧
     (∀ d : Digit, s.ctl.drive = .entry → (i.val + 1 = d.val ∧ i < 9 ∨ i = 10 ∧ d = 0) →
       s.keypad.buffer.length < 15 →
       exec (.keypadScan seen) s = .next { s with
         power.idle := s.idleAfterPress
         keypad := { s.keypad with
           keys := keys, buffer := s.keypad.buffer ++ [d], timer := some 10000
           oneShot := some ⟨.keyAck, 0, 50, 1⟩, withdrawn := s.entryRaced } }) ∧
     (s.ctl.drive = .entry → (i = 9 ∨ i ≠ 11 ∧ 15 ≤ s.keypad.buffer.length ∨
         i = 11 ∧ s.keypad.buffer.length < s.store.effective.minPin) →
       ∃ k : KeypadUnit,
         exec (.keypadScan seen) s = .next { s with
           power.idle := s.idleAfterPress, ctl.drive := .locked, keypad := k } ∧
         k.keys = keys ∧ k.buffer = [] ∧ k.phase = none ∧ k.timer = none ∧ k.selection = .idleLocked ∧
         (i = 9 → k.oneShot = s.keypad.oneShot) ∧
         (i ≠ 9 → i ≠ 11 → k.oneShot = some ⟨.reject, 0, 100, 3⟩) ∧
         (i = 11 → k.oneShot = some ⟨.short, 0, 100, 2⟩)) ∧
     (s.ctl.drive = .entry → i = 11 → s.store.effective.minPin ≤ s.keypad.buffer.length →
       ∃ k : KeypadUnit,
         exec (.keypadScan seen) s = .next
           (requestCommit .attempts [.countAttempts] { s with
             power.idle := s.idleAfterPress, ctl.drive := .evaluating, keypad := k
             cred := { s.cred with
               eval := some ⟨s.keypad.buffer, .counting⟩, n := min (s.cred.n + 1) 255 } }) ∧
         k.keys = keys ∧ k.buffer = [] ∧ k.phase = none ∧ k.timer = none ∧ k.selection = .evaluating ∧
         k.oneShot = s.keypad.oneShot)) ∧
  (∀ (s : State) (seen : BitVec 12) (i : KeyIx) (keys : Vector KeyState 12), s.started = true →
     s.power.mode = .active → keys = debounceAll seen s.keypad.keys →
     s.keypad.keys[i].down = false → keys[i].down = true → (∀ j : KeyIx, j ≠ i → keys[j].down = false) →
     ∀ b : State, b = { s with power.idle := s.idleAfterPress, keypad.keys := keys } →
     (s.ctl.drive = .evaluating ∨ s.ctl.drive = .backoff ∨ s.ctl.drive = .wiping ∨ s.ctl.drive = .fault ∨
         s.ctl.drive = .factory ∧ i ≠ 11 ∨ s.ctl.drive = .opened ∧ i ≠ 9 →
       exec (.keypadScan seen) s = .next b) ∧
     (s.ctl.drive = .opened → i = 9 → s.cred.enroll = none →
       ∃ k : KeypadUnit, exec (.keypadScan seen) s = .next (b.shut k) ∧ k.selection = .idleLocked ∧ k.keys = keys ∧
         k.buffer = s.keypad.buffer ∧ k.phase = s.keypad.phase ∧ k.timer = s.keypad.timer ∧
         k.oneShot = s.keypad.oneShot) ∧
     (s.ctl.drive = .factory → i = 11 →
       (s.media.state ≠ .ready →
         exec (.keypadScan seen) s = .next { b with keypad.oneShot := some ⟨.reject, 0, 100, 3⟩ }) ∧
       (s.media.state = .ready → s.cipher.slots[(0 : SlotIx)].state = .empty →
         s.cipher.slots[(0 : SlotIx)].gen = 4294967295 →
         exec (.keypadScan seen) s = .next { b with
           keypad.oneShot := some ⟨.reject, 0, 100, 3⟩, cred.lastEnroll := .keyLimit }) ∧
       (s.media.state = .ready →
         (s.cipher.slots[(0 : SlotIx)].state ≠ .empty ∨ s.cipher.slots[(0 : SlotIx)].gen ≠ 4294967295) →
         ∃ k : KeypadUnit, exec (.keypadScan seen) s = .next { b with
             ctl.drive := .enrolling
             cred := { s.cred with
               enroll := some ⟨0, .admin, .factory, .first, [], false, false, false⟩, lastEnroll := .running }
             keypad := k } ∧
           k.keys = keys ∧ k.buffer = [] ∧ k.phase = some .enroll ∧ k.timer = some 10000 ∧ k.selection = .enrolling ∧
           k.oneShot = s.keypad.oneShot))) ∧
  (∀ (s : State) (seen : BitVec 12) (i : KeyIx) (keys : Vector KeyState 12) (e : Enroll), s.started = true →
     s.power.mode = .active → keys = debounceAll seen s.keypad.keys →
     s.keypad.keys[i].down = false → keys[i].down = true → (∀ j : KeyIx, j ≠ i → keys[j].down = false) →
     s.ctl.drive = .enrolling → s.cred.enroll = some e →
     ∀ b r : State, b = { s with power.idle := s.idleAfterPress, keypad.keys := keys } →
       r = (if e.origin = .opened then b.arrived else b) →
     (i ≠ 9 → s.keypad.phase = none → (i ≠ 11 ∨ e.step ≠ .waitFirst ∧ e.step ≠ .waitSecond) →
       exec (.keypadScan seen) s = .next b) ∧
     (∀ p, i = 11 → s.keypad.phase = none → (e.step = .waitFirst ∧ p = .first ∨ e.step = .waitSecond ∧ p = .second) →
       exec (.keypadScan seen) s = .next { r with
         cred.enroll := some { e with step := p }
         keypad := { r.keypad with
           buffer := [], phase := some .enroll, timer := some 10000, withdrawn := s.entryRaced } }) ∧
     (∀ d : Digit, (i.val + 1 = d.val ∧ i < 9 ∨ i = 10 ∧ d = 0) → s.keypad.phase ≠ none →
       (s.keypad.buffer.length < 15 →
         exec (.keypadScan seen) s = .next { r with
           keypad := { r.keypad with
             buffer := s.keypad.buffer ++ [d], timer := some 10000, oneShot := some ⟨.keyAck, 0, 50, 1⟩
             withdrawn := s.entryRaced } }) ∧
       (15 ≤ s.keypad.buffer.length →
         ∃ t, exec (.keypadScan seen) s = .next t ∧ r.failedFrom e .overflow t)) ∧
     (i = 11 → s.keypad.phase ≠ none → e.step = .first →
       (s.keypad.buffer.length < s.store.effective.minPin →
         ∃ t, exec (.keypadScan seen) s = .next t ∧ r.failedFrom e .short t) ∧
       (s.store.effective.minPin ≤ s.keypad.buffer.length →
         exec (.keypadScan seen) s = .next { r with
           cred.enroll := some { e with step := .waitSecond, first := s.keypad.buffer }
           keypad := { r.keypad with
             buffer := [], phase := none, timer := some 10000, oneShot := some ⟨.enrollStep, 0, 100, 2⟩
             withdrawn := s.entryRaced } })) ∧
     (i = 11 → s.keypad.phase ≠ none → e.step = .second →
       (s.keypad.buffer ≠ e.first →
         ∃ t, exec (.keypadScan seen) s = .next t ∧ r.failedFrom e .mismatch t) ∧
       (s.keypad.buffer = e.first → e.origin = .factory → s.media.state ≠ .ready →
         ∃ t, exec (.keypadScan seen) s = .next t ∧ r.failedFrom e .noMedia t) ∧
       (s.keypad.buffer = e.first → (e.origin = .opened ∨ s.media.state = .ready) →
         exec (.keypadScan seen) s = .next { r with
           cred := { s.cred with
             enroll := some { e with step := .testing }, comparison := some ⟨.duplicate, e.first, 320⟩ }
           keypad := { r.keypad with buffer := [], phase := none, timer := none } })) ∧
     (i = 9 → e.origin = .opened → ∃ t, exec (.keypadScan seen) s = .next t ∧ b.lockedFrom e t) ∧
     (i = 9 → e.origin = .factory → e.step = .committing →
       exec (.keypadScan seen) s = .next { b with cred.enroll := some { e with cancelled := true } }) ∧
     (i = 9 → e.origin = .factory → e.step ≠ .committing →
       ∃ k : KeypadUnit, exec (.keypadScan seen) s = .next { b with
           ctl.drive := .factory, cred := { s.cred with enroll := none, lastEnroll := .cancelled }, keypad := k } ∧
         k.buffer = [] ∧ k.phase = none ∧ k.timer = none ∧ k.selection = .factory ∧ k.keys = keys ∧
         k.oneShot = s.keypad.oneShot))

/-- PATTERN_STEP_EXPIRY (R125, R128, R129). While a one-shot plays, the expiry is its step's and the background stands
still (assumption 23): the next step, the next pass, or at its end the selected background at its first step; else it
is the background's step, which repeats without end. With both players stopped nothing changes: the model's choice
(assumption 4). -/
def Obligations.PatternSteps : Prop :=
  ∀ s : State,
    (s.keypad.oneShot = none → s.keypad.player = none → exec .patternStepExpiry s = .next s) ∧
    (∀ p, s.keypad.oneShot = some p →
      (p.step + 1 < p.pattern.steps.length →
        exec .patternStepExpiry s = .next { s with
          keypad.oneShot := some { p with step := p.step + 1, left := p.pattern.stepMs (p.step + 1) } }) ∧
      (p.pattern.steps.length ≤ p.step + 1 → p.passes ≠ 1 →
        exec .patternStepExpiry s = .next { s with
          keypad.oneShot := some { p with step := 0, left := p.pattern.stepMs 0, passes := p.passes - 1 } }) ∧
      (p.pattern.steps.length ≤ p.step + 1 → p.passes = 1 →
        exec .patternStepExpiry s = .next { s with
          keypad := { s.keypad with
            oneShot := none
            player := some ⟨s.keypad.selection, 0, s.keypad.selection.stepMs 0, s.keypad.selection.repeats⟩ } })) ∧
    (∀ p, s.keypad.oneShot = none → s.keypad.player = some p → p.passes = 0 →
      exec .patternStepExpiry s = .next { s with
        keypad.player := some
          (if p.step + 1 < p.pattern.steps.length then
            { p with step := p.step + 1, left := p.pattern.stepMs (p.step + 1) }
           else { p with step := 0, left := p.pattern.stepMs 0 }) })

/-! ### Timers -/

/-- The expiries of the entry and back-off timers (R122, R138, R149) and of the attach window and the inactivity timer
(R159, R161). With its timer stopped none has an effect: the model's choice (assumption 4). An expiry of the entry
timer or of the inactivity timer that met a restart taken first does not take place, and the timer runs on (R122,
R161; how the model knows it: assumption 36). The entry timer discards the entry and locks in ENTRY, and ends an
enrollment with TIMEOUT and REJECT; the back-off timer sets LOCKED with its background and plays no one-shot. The
attach window and the inactivity timer lock an OPEN drive and one in an enrollment from OPEN, which is discarded or
left to complete (R139, R163); on the battery with the idle timer expired the standby decision may follow (R203), so
that case is left out. -/
def Obligations.TimersExpire : Prop :=
  (∀ s : State, s.staysAwake →
     (s.keypad.timer = none → exec .entryTimerExpiry s = .next s) ∧
     (s.keypad.timer ≠ none → s.keypad.withdrawn = true →
       exec .entryTimerExpiry s = .next { s with keypad.withdrawn := false }) ∧
     (s.keypad.timer ≠ none → s.keypad.withdrawn = false → s.ctl.drive = .entry →
       ∃ k : KeypadUnit, exec .entryTimerExpiry s = .next { s with ctl.drive := .locked, keypad := k } ∧
         k.buffer = [] ∧ k.phase = none ∧ k.timer = none ∧ k.selection = .idleLocked ∧ k.keys = s.keypad.keys ∧
         k.oneShot = s.keypad.oneShot) ∧
     (∀ e, s.keypad.timer ≠ none → s.keypad.withdrawn = false → s.ctl.drive = .enrolling → s.cred.enroll = some e →
       s.power.mode = .active →
       ∃ k : KeypadUnit, exec .entryTimerExpiry s = .next { s with
           ctl.drive := (match e.origin with | .opened => .opened | .factory => .factory)
           cred := { s.cred with enroll := none, lastEnroll := .timeout }
           keypad := k } ∧
         k.buffer = [] ∧ k.phase = none ∧ k.timer = none ∧ k.oneShot = some ⟨.reject, 0, 100, 3⟩ ∧
         k.keys = s.keypad.keys) ∧
     (s.cred.backoff = none → exec .backoffTimerExpiry s = .next s) ∧
     (s.cred.backoff ≠ none → s.ctl.drive = .backoff →
       ∃ k : KeypadUnit, exec .backoffTimerExpiry s =
           .next { s with ctl.drive := .locked, cred := { s.cred with backoff := none }, keypad := k } ∧
         k.selection = .idleLocked ∧ k.oneShot = s.keypad.oneShot ∧ k.keys = s.keypad.keys ∧
         k.buffer = s.keypad.buffer ∧ k.phase = s.keypad.phase ∧ k.timer = s.keypad.timer)) ∧
  (∀ (s : State) (c : Instr),
     (c = .attachWindowExpiry ∧ s.ctl.window = none ∨ c = .inactivityExpiry ∧ s.ctl.inactivity = none →
       exec c s = .next s) ∧
     (c = .inactivityExpiry → s.ctl.inactivity ≠ none → s.ctl.withdrawn = true →
       exec c s = .next { s with ctl.withdrawn := false }) ∧
     (c = .attachWindowExpiry ∧ s.ctl.window ≠ none ∨
         c = .inactivityExpiry ∧ s.ctl.inactivity ≠ none ∧ s.ctl.withdrawn = false →
       s.staysAwake → s.ctl.drive = .opened → s.cred.enroll = none →
       ∃ k : KeypadUnit,
         exec c s = .next { s with
           ctl := { s.ctl with drive := .locked, openProfile := none, window := none, inactivity := none }
           cipher.slots := s.cipher.slots.map (fun x => if x.state = .opened then { x with state := .closed } else x)
           keypad := k } ∧
         k.selection = .idleLocked ∧ k.keys = s.keypad.keys ∧ k.buffer = s.keypad.buffer ∧
         k.phase = s.keypad.phase ∧ k.timer = s.keypad.timer ∧ k.oneShot = s.keypad.oneShot)) ∧
  (∀ (s : State) (c : Instr) (e : Enroll),
     (c = .attachWindowExpiry ∧ s.ctl.window ≠ none ∨
       c = .inactivityExpiry ∧ s.ctl.inactivity ≠ none ∧ s.ctl.withdrawn = false) →
     s.staysAwake → s.ctl.drive = .enrolling → s.cred.enroll = some e → e.origin = .opened →
     ∃ u, s.lockedFrom e u ∧ exec c s = .next u)

/-- STANDBY and the wake from it (R116, R117, R129, R203 to R205). The expiry of the idle timer enters STANDBY in
ACTIVE, on the battery, in FACTORY, LOCKED and BACKOFF with an idle store and in FAULT with no commit in progress: the
players stop and the keys' debounce states are discarded, to UP with run 0 (assumption 22), the model keeping them for
a scan of that very moment (assumption 36); it enters it nowhere else. An expiry of the attach window that locks an
OPEN drive whose idle timer has expired enters it the same way. A PRESS of that scan, taken second, restarts the timer
and is acted on in the drive state it finds; the timer of an entry that it begins starts at 10 s (assumption 36). An
expiry of the idle timer that met a PRESS taken first does not take place, and the timer runs from 20 s (R203;
assumption 36). A column edge wakes to SETTLING with 16 ms; its expiry makes the part ACTIVE with the keys at the
levels seen, the selected background at its first step and the idle timer at 20 s. Outside their timers and modes the
expiries and the edge change nothing; for the expiries this is the model's choice (assumption 4). -/
def Obligations.StandbyAndWake : Prop :=
  ∀ (s : State) (seen : BitVec 12),
    ((s.power.idle = .stopped ∨ s.power.idle = .expired) → exec .standbyIdleTimerExpiry s = .next s) ∧
    (s.power.idle = .restarted →
      exec .standbyIdleTimerExpiry s = .next { s with power.idle := .running 20000 }) ∧
    (∀ n, s.power.idle = .running n → s.power.on = true → s.power.mode = .active → s.power.source = .battery →
      (s.ctl.drive = .factory ∨ s.ctl.drive = .locked ∨ s.ctl.drive = .backoff ∨ s.ctl.drive = .fault) →
      s.store.busy = none → (s.store.queue = [] ∨ s.ctl.drive = .fault) →
      exec .standbyIdleTimerExpiry s = .next { s with
        power := { s.power with idle := .expired, mode := .standby, lastScan := some s.keypad.keys }
        keypad := { s.keypad with keys := Vector.replicate 12 ⟨false, 0⟩, player := none, oneShot := none } }) ∧
    (∀ n, s.power.idle = .running n → (s.power.source = .link ∨ s.power.mode ≠ .active ∨ s.ctl.drive = .opened ∨
        s.ctl.drive = .entry ∨ s.ctl.drive = .evaluating ∨ s.ctl.drive = .enrolling ∨ s.ctl.drive = .wiping ∨
        s.store.busy ≠ none ∨ s.store.queue ≠ [] ∧ s.ctl.drive ≠ .fault) →
      exec .standbyIdleTimerExpiry s = .next { s with power.idle := .expired }) ∧
    (s.ctl.window ≠ none → s.ctl.drive = .opened → s.cred.enroll = none → s.power.idle = .expired →
      s.power.on = true → s.power.mode = .active → s.power.source = .battery → s.store.busy = none →
      s.store.queue = [] →
      exec .attachWindowExpiry s = .next { s with
        ctl := { s.ctl with drive := .locked, openProfile := none, window := none, inactivity := none }
        cipher.slots := s.cipher.slots.map (fun x => if x.state = .opened then { x with state := .closed } else x)
        power := { s.power with mode := .standby, lastScan := some s.keypad.keys }
        keypad := { s.keypad with
          keys := Vector.replicate 12 ⟨false, 0⟩, player := none, oneShot := none, selection := .idleLocked } }) ∧
    (∀ (was now : Vector KeyState 12) (i : KeyIx), s.power.mode ≠ .active → s.power.lastScan = some was →
      s.keypad.player = none → now = debounceAll seen was → was[i].down = false → now[i].down = true →
      (∀ j : KeyIx, j ≠ i → now[j].down = false) →
      (s.ctl.drive = .locked → i = 11 →
        exec (.keypadScan seen) s = .next { s with
          power := { s.power with idle := s.idleAfterPress, lastScan := none }
          ctl.drive := .entry
          keypad := { s.keypad with
            buffer := [], phase := some .unlock, timer := some 10000, selection := .entry
            withdrawn := s.entryRaced } }) ∧
      (s.ctl.drive = .locked ∧ i ≠ 11 ∨ s.ctl.drive = .backoff ∨ s.ctl.drive = .fault ∨
          s.ctl.drive = .factory ∧ i ≠ 11 →
        exec (.keypadScan seen) s = .next { s with
          power := { s.power with idle := s.idleAfterPress, lastScan := none } }) ∧
      (s.ctl.drive = .factory → i = 11 → s.media.state ≠ .ready →
        exec (.keypadScan seen) s = .next { s with
          power := { s.power with idle := s.idleAfterPress, lastScan := none } })) ∧
    (∀ was : Vector KeyState 12, s.power.mode ≠ .active → s.power.lastScan = some was →
      (∀ i : KeyIx, was[i].down = false → (debounceAll seen was)[i].down = true →
        ∃ j : KeyIx, j ≠ i ∧ (debounceAll seen was)[j].down = true) →
      exec (.keypadScan seen) s = .next { s with power.lastScan := none }) ∧
    (s.power.mode ≠ .standby → exec .keypadColumnEdge s = .next s) ∧
    (s.power.mode = .standby →
      exec .keypadColumnEdge s =
        .next { s with power := { s.power with mode := .settling, settling := some 16 } }) ∧
    (s.power.mode ≠ .settling → exec (.settlingTimerExpiry seen) s = .next s) ∧
    (s.power.mode = .settling →
      exec (.settlingTimerExpiry seen) s = .next { s with
        power := { s.power with mode := .active, settling := none, idle := .running 20000, lastScan := none }
        keypad := { s.keypad with
          keys := Vector.ofFn (fun i => ⟨seen.getLsbD i.val, 0⟩)
          player := some ⟨s.keypad.selection, 0, s.keypad.selection.stepMs 0, s.keypad.selection.repeats⟩ } })

/-! ### Invariants that every step keeps -/

/-- The front link, the power source and the attached item go together, STANDBY is on the battery, and a capacity of
at least 4,096 is in force exactly while the media is READY: from every state in which this holds, every step leads
to one in which it holds (R5, R6, R155, R202, R203). -/
def Obligations.LinksStayTogether : Prop :=
  ∀ s t : State, s.linksInv → step s = .next t → t.linksInv

/-- With no profile open no key slot is OPEN: from every state in which this holds, every step leads to one in which
it holds (R67 to R69). The same for the whole law of R67: a slot without a key is EMPTY, and one with a key is OPEN
exactly if its mask names the open profile, else CLOSED, every slot that the active table names holding a key (R23);
with what it rests on, the contexts that go with the drive state and the profiles that are ACTIVE. And the same for the
laws of the active table (R22), and for the quiesce of an apply, which stands only while one is DRAINING (R32, R44),
while the link and the media agree. -/
def Obligations.KeysStayClosedWithoutProfile : Prop :=
  (∀ s t : State, s.keysInv → step s = .next t → t.keysInv) ∧
  (∀ s t : State, s.modeInv → s.profilesInv → s.slotsInv → step s = .next t →
     t.modeInv ∧ t.profilesInv ∧ t.slotsInv) ∧
  (∀ s t : State, s.linksInv → s.tableInv → step s = .next t → t.tableInv)

/-- The media image keeps its one canonical form (R73), which is the model's own. -/
def Obligations.ImageStaysCanonical : Prop :=
  ∀ s t : State, s.imageInv → step s = .next t → t.imageInv

/-- The commit queue keeps each record at most once and n stays at most 255 (R141, R193); no generation, in a slot or in
the MAP record, passes 4,294,967,295, at any step (R70). None ever falls at a step that is not POWER_ON or POWER_LOSS,
which take the generations from the record or away. -/
def Obligations.CountersStayInRange : Prop :=
  (∀ s t : State, s.storeInv → s.gensInv → step s = .next t → t.storeInv ∧ t.gensInv) ∧
  (∀ s t : State, s.gensInv → step s = .next t → (∀ c ∈ s.pending.head?, c.isPower = false) →
     ∀ k : SlotIx, s.cipher.slots[k].gen ≤ t.cipher.slots[k].gen)

/-- The model's names stay unique (assumption 7): those of transactions and fragments, and those of keys: every key held
in a slot, in a snapshot's copies or in the MAP record lies below the counter that names the next one. -/
def Obligations.NamesStayUnique : Prop :=
  (∀ s t : State, s.namesInv → step s = .next t → t.namesInv) ∧
  (∀ s t : State, s.freshInv → step s = .next t → t.freshInv)

/-- The laws of the sweep (R91, R101): from every state in which they hold, and in which the erase engine's queue, stage
and context agree, every step leads to one in which they hold: c ≤ w ≤ q, w = q with no chunk in flight, a sorted,
disjoint keep list of at most 16 ranges that all end above c, a captured checkpoint between c and w. And the context
stays in its region at every step that leaves the table as it is and is not in start-up, whose record the spec does not
check against the table's bounds (R107). -/
def Obligations.SweepKeepsItsLaws : Prop :=
  (∀ s t : State, s.modeInv → s.eraseInv → s.sweepInv → step s = .next t → t.eraseInv ∧ t.sweepInv) ∧
  (∀ s t : State, s.modeInv → s.eraseInv → s.sweepInv → s.sweepInside → s.regions.table.length ≤ 16 →
     (∀ left, s.cipher.run ≠ some ⟨.startUp, left⟩) → step s = .next t → t.regions.table = s.regions.table →
     t.sweepInside)

/-- The state after reset meets the invariants, and holds the values a delivered part starts with in FACTORY (R191,
R196, R198, R200): an empty table at epoch 0, no key, no profile, n = 0, the default options, nothing queued. -/
def Obligations.ResetMeetsInvariants : Prop :=
  State.reset.linksInv ∧ State.reset.keysInv ∧ State.reset.imageInv ∧ State.reset.storeInv ∧
  State.reset.gensInv ∧ State.reset.namesInv ∧ State.reset.freshInv ∧ State.reset.modeInv ∧
  State.reset.profilesInv ∧ State.reset.slotsInv ∧ State.reset.tableInv ∧ State.reset.eraseInv ∧
  State.reset.sweepInv ∧ State.reset.sweepInside ∧
  State.reset.ctl.drive = .factory ∧ State.reset.regions.table = [] ∧ State.reset.regions.epoch = 0 ∧
  (∀ k : SlotIx, State.reset.cipher.slots[k] = ⟨.empty, none, 0, 0⟩) ∧
  (∀ p : ProfIx, State.reset.cred.profiles[p] = none) ∧ State.reset.cred.n = 0 ∧
  State.reset.store.effective = ⟨7, 5, 20, 5, 1, 4⟩ ∧ State.reset.pending = []
end

