-- ==== Sys2Proof/Laws/State.lean ====
section
/-! SUPPORT. What each plain update of the state leaves as it stands: one theorem per update, each conjunct a
rewriting rule for one field, true by `rfl`. -/

namespace Sys2Proof.Machine

open Sys2Proof

@[simp] theorem startPlayer_frame (s : State) : (startPlayer s).front = s.front ∧ (startPlayer s).media = s.media ∧
    (startPlayer s).regions = s.regions ∧ (startPlayer s).filter = s.filter ∧ (startPlayer s).cipher = s.cipher ∧
    (startPlayer s).erase = s.erase ∧ (startPlayer s).cred = s.cred ∧ (startPlayer s).ctl = s.ctl ∧
    (startPlayer s).window = s.window ∧ (startPlayer s).store = s.store ∧ (startPlayer s).power = s.power ∧
    (startPlayer s).flash = s.flash ∧ (startPlayer s).replies = s.replies ∧ (startPlayer s).mediaOut = s.mediaOut ∧
    (startPlayer s).counters = s.counters ∧ (startPlayer s).pending = s.pending := by
  refine ⟨?_, ?_, ?_, ?_, ?_, ?_, ?_, ?_, ?_, ?_, ?_, ?_, ?_, ?_, ?_, ?_⟩ <;> rfl

@[simp] theorem endCollection_frame (s : State) : (endCollection s).front = s.front ∧
    (endCollection s).media = s.media ∧ (endCollection s).regions = s.regions ∧
    (endCollection s).filter = s.filter ∧ (endCollection s).cipher = s.cipher ∧ (endCollection s).erase = s.erase ∧
    (endCollection s).cred = s.cred ∧ (endCollection s).ctl = s.ctl ∧ (endCollection s).window = s.window ∧
    (endCollection s).store = s.store ∧ (endCollection s).power = s.power ∧ (endCollection s).flash = s.flash ∧
    (endCollection s).replies = s.replies ∧ (endCollection s).mediaOut = s.mediaOut ∧
    (endCollection s).counters = s.counters ∧ (endCollection s).pending = s.pending := by
  refine ⟨?_, ?_, ?_, ?_, ?_, ?_, ?_, ?_, ?_, ?_, ?_, ?_, ?_, ?_, ?_, ?_⟩ <;> rfl

@[simp] theorem leaveActive_frame (s : State) : (leaveActive s).front = s.front ∧ (leaveActive s).media = s.media ∧
    (leaveActive s).regions = s.regions ∧ (leaveActive s).filter = s.filter ∧ (leaveActive s).cipher = s.cipher ∧
    (leaveActive s).erase = s.erase ∧ (leaveActive s).cred = s.cred ∧ (leaveActive s).ctl = s.ctl ∧
    (leaveActive s).window = s.window ∧ (leaveActive s).store = s.store ∧ (leaveActive s).power = s.power ∧
    (leaveActive s).flash = s.flash ∧ (leaveActive s).replies = s.replies ∧ (leaveActive s).mediaOut = s.mediaOut ∧
    (leaveActive s).counters = s.counters ∧ (leaveActive s).pending = s.pending := by
  refine ⟨?_, ?_, ?_, ?_, ?_, ?_, ?_, ?_, ?_, ?_, ?_, ?_, ?_, ?_, ?_, ?_⟩ <;> rfl

@[simp] theorem startInactivity_frame (s : State) : (startInactivity s).front = s.front ∧
    (startInactivity s).media = s.media ∧ (startInactivity s).regions = s.regions ∧
    (startInactivity s).filter = s.filter ∧ (startInactivity s).cipher = s.cipher ∧
    (startInactivity s).erase = s.erase ∧ (startInactivity s).keypad = s.keypad ∧
    (startInactivity s).cred = s.cred ∧ (startInactivity s).window = s.window ∧
    (startInactivity s).store = s.store ∧ (startInactivity s).power = s.power ∧
    (startInactivity s).flash = s.flash ∧ (startInactivity s).replies = s.replies ∧
    (startInactivity s).mediaOut = s.mediaOut ∧ (startInactivity s).counters = s.counters ∧
    (startInactivity s).pending = s.pending ∧ (startInactivity s).ctl.drive = s.ctl.drive ∧
    (startInactivity s).ctl.openProfile = s.ctl.openProfile ∧ (startInactivity s).ctl.attached = s.ctl.attached := by
  refine ⟨?_, ?_, ?_, ?_, ?_, ?_, ?_, ?_, ?_, ?_, ?_, ?_, ?_, ?_, ?_, ?_, ?_, ?_, ?_⟩ <;> rfl

@[simp] theorem openSlots_frame (p : ProfIx) (s : State) : (openSlots p s).front = s.front ∧
    (openSlots p s).media = s.media ∧ (openSlots p s).regions = s.regions ∧ (openSlots p s).filter = s.filter ∧
    (openSlots p s).erase = s.erase ∧ (openSlots p s).keypad = s.keypad ∧ (openSlots p s).cred = s.cred ∧
    (openSlots p s).ctl = s.ctl ∧ (openSlots p s).window = s.window ∧ (openSlots p s).store = s.store ∧
    (openSlots p s).power = s.power ∧ (openSlots p s).flash = s.flash ∧ (openSlots p s).replies = s.replies ∧
    (openSlots p s).mediaOut = s.mediaOut ∧ (openSlots p s).counters = s.counters ∧
    (openSlots p s).pending = s.pending ∧ (openSlots p s).cipher.run = s.cipher.run := by
  refine ⟨?_, ?_, ?_, ?_, ?_, ?_, ?_, ?_, ?_, ?_, ?_, ?_, ?_, ?_, ?_, ?_, ?_⟩ <;> rfl

@[simp] theorem closeSlots_frame (s : State) : (closeSlots s).front = s.front ∧ (closeSlots s).media = s.media ∧
    (closeSlots s).regions = s.regions ∧ (closeSlots s).filter = s.filter ∧ (closeSlots s).erase = s.erase ∧
    (closeSlots s).keypad = s.keypad ∧ (closeSlots s).cred = s.cred ∧ (closeSlots s).ctl = s.ctl ∧
    (closeSlots s).window = s.window ∧ (closeSlots s).store = s.store ∧ (closeSlots s).power = s.power ∧
    (closeSlots s).flash = s.flash ∧ (closeSlots s).replies = s.replies ∧ (closeSlots s).mediaOut = s.mediaOut ∧
    (closeSlots s).counters = s.counters ∧ (closeSlots s).pending = s.pending ∧
    (closeSlots s).cipher.run = s.cipher.run := by
  refine ⟨?_, ?_, ?_, ?_, ?_, ?_, ?_, ?_, ?_, ?_, ?_, ?_, ?_, ?_, ?_, ?_, ?_⟩ <;> rfl

@[simp] theorem sendReply_frame (tag : Tag) (st : FrontStatus) (span : Option Nat) (data : List Sector) (s : State) :
    (sendReply tag st span data s).front = s.front ∧ (sendReply tag st span data s).media = s.media ∧
    (sendReply tag st span data s).regions = s.regions ∧ (sendReply tag st span data s).filter = s.filter ∧
    (sendReply tag st span data s).cipher = s.cipher ∧ (sendReply tag st span data s).erase = s.erase ∧
    (sendReply tag st span data s).keypad = s.keypad ∧ (sendReply tag st span data s).cred = s.cred ∧
    (sendReply tag st span data s).ctl = s.ctl ∧ (sendReply tag st span data s).window = s.window ∧
    (sendReply tag st span data s).store = s.store ∧ (sendReply tag st span data s).power = s.power ∧
    (sendReply tag st span data s).flash = s.flash ∧ (sendReply tag st span data s).mediaOut = s.mediaOut ∧
    (sendReply tag st span data s).counters = s.counters ∧ (sendReply tag st span data s).pending = s.pending := by
  refine ⟨?_, ?_, ?_, ?_, ?_, ?_, ?_, ?_, ?_, ?_, ?_, ?_, ?_, ?_, ?_, ?_⟩ <;> rfl

@[simp] theorem endReply_frame (tag : Tag) (st : FrontStatus) (span : Option Nat) (data : List Sector) (s : State) :
    (endReply tag st span data s).media = s.media ∧ (endReply tag st span data s).regions = s.regions ∧
    (endReply tag st span data s).filter = s.filter ∧ (endReply tag st span data s).cipher = s.cipher ∧
    (endReply tag st span data s).erase = s.erase ∧ (endReply tag st span data s).keypad = s.keypad ∧
    (endReply tag st span data s).cred = s.cred ∧ (endReply tag st span data s).ctl = s.ctl ∧
    (endReply tag st span data s).window = s.window ∧ (endReply tag st span data s).store = s.store ∧
    (endReply tag st span data s).power = s.power ∧ (endReply tag st span data s).flash = s.flash ∧
    (endReply tag st span data s).mediaOut = s.mediaOut ∧ (endReply tag st span data s).counters = s.counters ∧
    (endReply tag st span data s).pending = s.pending ∧ (endReply tag st span data s).front.link = s.front.link := by
  refine ⟨?_, ?_, ?_, ?_, ?_, ?_, ?_, ?_, ?_, ?_, ?_, ?_, ?_, ?_, ?_, ?_⟩ <;> rfl

@[simp] theorem copyPending_frame (s : State) : (copyPending s).front = s.front ∧ (copyPending s).media = s.media ∧
    (copyPending s).filter = s.filter ∧ (copyPending s).cipher = s.cipher ∧ (copyPending s).erase = s.erase ∧
    (copyPending s).keypad = s.keypad ∧ (copyPending s).cred = s.cred ∧ (copyPending s).ctl = s.ctl ∧
    (copyPending s).window = s.window ∧ (copyPending s).store = s.store ∧ (copyPending s).power = s.power ∧
    (copyPending s).flash = s.flash ∧ (copyPending s).replies = s.replies ∧ (copyPending s).mediaOut = s.mediaOut ∧
    (copyPending s).counters = s.counters ∧ (copyPending s).pending = s.pending := by
  refine ⟨?_, ?_, ?_, ?_, ?_, ?_, ?_, ?_, ?_, ?_, ?_, ?_, ?_, ?_, ?_, ?_⟩ <;> simp [copyPending]

@[simp] theorem replaceKey_frame (k : SlotIx) (s : State) : (replaceKey k s).front = s.front ∧
    (replaceKey k s).media = s.media ∧ (replaceKey k s).regions = s.regions ∧ (replaceKey k s).filter = s.filter ∧
    (replaceKey k s).erase = s.erase ∧ (replaceKey k s).keypad = s.keypad ∧ (replaceKey k s).cred = s.cred ∧
    (replaceKey k s).ctl = s.ctl ∧ (replaceKey k s).window = s.window ∧ (replaceKey k s).store = s.store ∧
    (replaceKey k s).power = s.power ∧ (replaceKey k s).flash = s.flash ∧ (replaceKey k s).replies = s.replies ∧
    (replaceKey k s).mediaOut = s.mediaOut ∧ (replaceKey k s).pending = s.pending ∧
    (replaceKey k s).cipher.run = s.cipher.run := by
  refine ⟨?_, ?_, ?_, ?_, ?_, ?_, ?_, ?_, ?_, ?_, ?_, ?_, ?_, ?_, ?_, ?_⟩ <;> rfl

@[simp] theorem startTestRun_frame (s : State) : (startTestRun s).front = s.front ∧
    (startTestRun s).media = s.media ∧ (startTestRun s).regions = s.regions ∧ (startTestRun s).erase = s.erase ∧
    (startTestRun s).keypad = s.keypad ∧ (startTestRun s).cred = s.cred ∧ (startTestRun s).ctl = s.ctl ∧
    (startTestRun s).window = s.window ∧ (startTestRun s).store = s.store ∧ (startTestRun s).power = s.power ∧
    (startTestRun s).flash = s.flash ∧ (startTestRun s).replies = s.replies ∧
    (startTestRun s).mediaOut = s.mediaOut ∧ (startTestRun s).counters = s.counters ∧
    (startTestRun s).pending = s.pending ∧ (startTestRun s).cipher.slots = s.cipher.slots ∧
    (startTestRun s).cipher.run = s.cipher.run := by
  refine ⟨?_, ?_, ?_, ?_, ?_, ?_, ?_, ?_, ?_, ?_, ?_, ?_, ?_, ?_, ?_, ?_, ?_⟩ <;> rfl

@[simp] theorem setTxn_frame (id : Nat) (f : Txn → Txn) (s : State) : (setTxn id f s).front = s.front ∧
    (setTxn id f s).media = s.media ∧ (setTxn id f s).regions = s.regions ∧ (setTxn id f s).cipher = s.cipher ∧
    (setTxn id f s).erase = s.erase ∧ (setTxn id f s).keypad = s.keypad ∧ (setTxn id f s).cred = s.cred ∧
    (setTxn id f s).ctl = s.ctl ∧ (setTxn id f s).window = s.window ∧ (setTxn id f s).store = s.store ∧
    (setTxn id f s).power = s.power ∧ (setTxn id f s).flash = s.flash ∧ (setTxn id f s).replies = s.replies ∧
    (setTxn id f s).mediaOut = s.mediaOut ∧ (setTxn id f s).counters = s.counters ∧
    (setTxn id f s).pending = s.pending := by
  refine ⟨?_, ?_, ?_, ?_, ?_, ?_, ?_, ?_, ?_, ?_, ?_, ?_, ?_, ?_, ?_, ?_⟩ <;> rfl

@[simp] theorem setFrag_frame (id : Nat) (f : Frag → Frag) (s : State) : (setFrag id f s).front = s.front ∧
    (setFrag id f s).media = s.media ∧ (setFrag id f s).regions = s.regions ∧ (setFrag id f s).cipher = s.cipher ∧
    (setFrag id f s).erase = s.erase ∧ (setFrag id f s).keypad = s.keypad ∧ (setFrag id f s).cred = s.cred ∧
    (setFrag id f s).ctl = s.ctl ∧ (setFrag id f s).window = s.window ∧ (setFrag id f s).store = s.store ∧
    (setFrag id f s).power = s.power ∧ (setFrag id f s).flash = s.flash ∧ (setFrag id f s).replies = s.replies ∧
    (setFrag id f s).mediaOut = s.mediaOut ∧ (setFrag id f s).counters = s.counters ∧
    (setFrag id f s).pending = s.pending := by
  refine ⟨?_, ?_, ?_, ?_, ?_, ?_, ?_, ?_, ?_, ?_, ?_, ?_, ?_, ?_, ?_, ?_⟩ <;> rfl

@[simp] theorem removeTxn_frame (id : Nat) (s : State) : (removeTxn id s).front = s.front ∧
    (removeTxn id s).media = s.media ∧ (removeTxn id s).regions = s.regions ∧ (removeTxn id s).cipher = s.cipher ∧
    (removeTxn id s).erase = s.erase ∧ (removeTxn id s).keypad = s.keypad ∧ (removeTxn id s).cred = s.cred ∧
    (removeTxn id s).ctl = s.ctl ∧ (removeTxn id s).window = s.window ∧ (removeTxn id s).store = s.store ∧
    (removeTxn id s).power = s.power ∧ (removeTxn id s).flash = s.flash ∧ (removeTxn id s).replies = s.replies ∧
    (removeTxn id s).mediaOut = s.mediaOut ∧ (removeTxn id s).counters = s.counters ∧
    (removeTxn id s).pending = s.pending := by
  refine ⟨?_, ?_, ?_, ?_, ?_, ?_, ?_, ?_, ?_, ?_, ?_, ?_, ?_, ?_, ?_, ?_⟩ <;> rfl

@[simp] theorem lowerCounts_frame (g : Frag) (s : State) : (lowerCounts g s).front = s.front ∧
    (lowerCounts g s).media = s.media ∧ (lowerCounts g s).regions = s.regions ∧
    (lowerCounts g s).cipher = s.cipher ∧ (lowerCounts g s).erase = s.erase ∧ (lowerCounts g s).keypad = s.keypad ∧
    (lowerCounts g s).cred = s.cred ∧ (lowerCounts g s).ctl = s.ctl ∧ (lowerCounts g s).window = s.window ∧
    (lowerCounts g s).store = s.store ∧ (lowerCounts g s).power = s.power ∧ (lowerCounts g s).flash = s.flash ∧
    (lowerCounts g s).replies = s.replies ∧ (lowerCounts g s).mediaOut = s.mediaOut ∧
    (lowerCounts g s).counters = s.counters ∧ (lowerCounts g s).pending = s.pending := by
  refine ⟨?_, ?_, ?_, ?_, ?_, ?_, ?_, ?_, ?_, ?_, ?_, ?_, ?_, ?_, ?_, ?_⟩ <;> rfl

@[simp] theorem raiseCounts_frame (g : Frag) (s : State) : (raiseCounts g s).front = s.front ∧
    (raiseCounts g s).media = s.media ∧ (raiseCounts g s).regions = s.regions ∧
    (raiseCounts g s).cipher = s.cipher ∧ (raiseCounts g s).erase = s.erase ∧ (raiseCounts g s).keypad = s.keypad ∧
    (raiseCounts g s).cred = s.cred ∧ (raiseCounts g s).ctl = s.ctl ∧ (raiseCounts g s).window = s.window ∧
    (raiseCounts g s).store = s.store ∧ (raiseCounts g s).power = s.power ∧ (raiseCounts g s).flash = s.flash ∧
    (raiseCounts g s).replies = s.replies ∧ (raiseCounts g s).mediaOut = s.mediaOut ∧
    (raiseCounts g s).counters = s.counters ∧ (raiseCounts g s).pending = s.pending := by
  refine ⟨?_, ?_, ?_, ?_, ?_, ?_, ?_, ?_, ?_, ?_, ?_, ?_, ?_, ?_, ?_, ?_⟩ <;> rfl

@[simp] theorem setSweep_frame (f : Sweep → Sweep) (s : State) : (setSweep f s).front = s.front ∧
    (setSweep f s).media = s.media ∧ (setSweep f s).regions = s.regions ∧ (setSweep f s).filter = s.filter ∧
    (setSweep f s).cipher = s.cipher ∧ (setSweep f s).keypad = s.keypad ∧ (setSweep f s).cred = s.cred ∧
    (setSweep f s).ctl = s.ctl ∧ (setSweep f s).window = s.window ∧ (setSweep f s).store = s.store ∧
    (setSweep f s).power = s.power ∧ (setSweep f s).flash = s.flash ∧ (setSweep f s).replies = s.replies ∧
    (setSweep f s).mediaOut = s.mediaOut ∧ (setSweep f s).counters = s.counters ∧ (setSweep f s).pending = s.pending := by
  refine ⟨?_, ?_, ?_, ?_, ?_, ?_, ?_, ?_, ?_, ?_, ?_, ?_, ?_, ?_, ?_, ?_⟩ <;> rfl

@[simp] theorem dropChunk_frame (s : State) : (dropChunk s).front = s.front ∧ (dropChunk s).media = s.media ∧
    (dropChunk s).regions = s.regions ∧ (dropChunk s).filter = s.filter ∧ (dropChunk s).cipher = s.cipher ∧
    (dropChunk s).keypad = s.keypad ∧ (dropChunk s).cred = s.cred ∧ (dropChunk s).ctl = s.ctl ∧
    (dropChunk s).window = s.window ∧ (dropChunk s).store = s.store ∧ (dropChunk s).power = s.power ∧
    (dropChunk s).flash = s.flash ∧ (dropChunk s).replies = s.replies ∧ (dropChunk s).mediaOut = s.mediaOut ∧
    (dropChunk s).counters = s.counters ∧ (dropChunk s).pending = s.pending := by
  refine ⟨?_, ?_, ?_, ?_, ?_, ?_, ?_, ?_, ?_, ?_, ?_, ?_, ?_, ?_, ?_, ?_⟩ <;> rfl

@[simp] theorem clearErase_frame (s : State) : (clearErase s).front = s.front ∧ (clearErase s).media = s.media ∧
    (clearErase s).regions = s.regions ∧ (clearErase s).filter = s.filter ∧ (clearErase s).cipher = s.cipher ∧
    (clearErase s).keypad = s.keypad ∧ (clearErase s).cred = s.cred ∧ (clearErase s).ctl = s.ctl ∧
    (clearErase s).window = s.window ∧ (clearErase s).store = s.store ∧ (clearErase s).power = s.power ∧
    (clearErase s).flash = s.flash ∧ (clearErase s).replies = s.replies ∧ (clearErase s).mediaOut = s.mediaOut ∧
    (clearErase s).counters = s.counters ∧ (clearErase s).pending = s.pending := by
  refine ⟨?_, ?_, ?_, ?_, ?_, ?_, ?_, ?_, ?_, ?_, ?_, ?_, ?_, ?_, ?_, ?_⟩ <;> rfl

@[simp] theorem rebaseAdditions_frame (s : State) : (rebaseAdditions s).front = s.front ∧
    (rebaseAdditions s).media = s.media ∧ (rebaseAdditions s).regions = s.regions ∧
    (rebaseAdditions s).cipher = s.cipher ∧ (rebaseAdditions s).erase = s.erase ∧
    (rebaseAdditions s).keypad = s.keypad ∧ (rebaseAdditions s).cred = s.cred ∧ (rebaseAdditions s).ctl = s.ctl ∧
    (rebaseAdditions s).window = s.window ∧ (rebaseAdditions s).power = s.power ∧
    (rebaseAdditions s).flash = s.flash ∧ (rebaseAdditions s).replies = s.replies ∧
    (rebaseAdditions s).mediaOut = s.mediaOut ∧ (rebaseAdditions s).counters = s.counters ∧
    (rebaseAdditions s).pending = s.pending ∧ (rebaseAdditions s).filter.queue = s.filter.queue ∧
    (rebaseAdditions s).filter.issueQ = s.filter.issueQ ∧ (rebaseAdditions s).filter.total = s.filter.total ∧
    (rebaseAdditions s).filter.inFlight = s.filter.inFlight ∧
    (rebaseAdditions s).filter.quiesce = s.filter.quiesce ∧ (rebaseAdditions s).store.queue = s.store.queue ∧
    (rebaseAdditions s).store.effective = s.store.effective := by
  refine ⟨?_, ?_, ?_, ?_, ?_, ?_, ?_, ?_, ?_, ?_, ?_, ?_, ?_, ?_, ?_, ?_, ?_, ?_, ?_, ?_, ?_, ?_⟩ <;> rfl

/-- With no commit in progress the store stands as it is. -/
theorem rebaseAdditions_store {s : State} (h : s.store.busy = none) : (rebaseAdditions s).store = s.store := by
  unfold rebaseAdditions
  rw [h, Option.map_none, ← h]

@[simp] theorem clearRegionCounts_frame (s : State) : (clearRegionCounts s).front = s.front ∧
    (clearRegionCounts s).media = s.media ∧ (clearRegionCounts s).regions = s.regions ∧
    (clearRegionCounts s).cipher = s.cipher ∧ (clearRegionCounts s).erase = s.erase ∧
    (clearRegionCounts s).keypad = s.keypad ∧ (clearRegionCounts s).cred = s.cred ∧
    (clearRegionCounts s).ctl = s.ctl ∧ (clearRegionCounts s).window = s.window ∧
    (clearRegionCounts s).store = s.store ∧ (clearRegionCounts s).power = s.power ∧
    (clearRegionCounts s).flash = s.flash ∧ (clearRegionCounts s).replies = s.replies ∧
    (clearRegionCounts s).mediaOut = s.mediaOut ∧ (clearRegionCounts s).counters = s.counters ∧
    (clearRegionCounts s).pending = s.pending := by
  refine ⟨?_, ?_, ?_, ?_, ?_, ?_, ?_, ?_, ?_, ?_, ?_, ?_, ?_, ?_, ?_, ?_⟩ <;> rfl

@[simp] theorem startComparison_frame (u : Purpose) (digits : List Digit) (s : State) :
    (startComparison u digits s).front = s.front ∧ (startComparison u digits s).media = s.media ∧
    (startComparison u digits s).regions = s.regions ∧ (startComparison u digits s).filter = s.filter ∧
    (startComparison u digits s).cipher = s.cipher ∧ (startComparison u digits s).erase = s.erase ∧
    (startComparison u digits s).keypad = s.keypad ∧ (startComparison u digits s).ctl = s.ctl ∧
    (startComparison u digits s).window = s.window ∧ (startComparison u digits s).store = s.store ∧
    (startComparison u digits s).power = s.power ∧ (startComparison u digits s).flash = s.flash ∧
    (startComparison u digits s).replies = s.replies ∧ (startComparison u digits s).mediaOut = s.mediaOut ∧
    (startComparison u digits s).counters = s.counters ∧ (startComparison u digits s).pending = s.pending ∧
    (startComparison u digits s).cred.n = s.cred.n ∧ (startComparison u digits s).cred.profiles = s.cred.profiles := by
  refine ⟨?_, ?_, ?_, ?_, ?_, ?_, ?_, ?_, ?_, ?_, ?_, ?_, ?_, ?_, ?_, ?_, ?_, ?_⟩ <;> rfl

@[simp] theorem answer_frame (r : Result) (s : State) : (answer r s).2.2.front = s.front ∧
    (answer r s).2.2.media = s.media ∧ (answer r s).2.2.regions = s.regions ∧ (answer r s).2.2.filter = s.filter ∧
    (answer r s).2.2.cipher = s.cipher ∧ (answer r s).2.2.erase = s.erase ∧ (answer r s).2.2.keypad = s.keypad ∧
    (answer r s).2.2.cred = s.cred ∧ (answer r s).2.2.ctl = s.ctl ∧ (answer r s).2.2.window = s.window ∧
    (answer r s).2.2.store = s.store ∧ (answer r s).2.2.power = s.power ∧ (answer r s).2.2.flash = s.flash ∧
    (answer r s).2.2.replies = s.replies ∧ (answer r s).2.2.mediaOut = s.mediaOut ∧
    (answer r s).2.2.counters = s.counters ∧ (answer r s).2.2.pending = s.pending := by
  refine ⟨?_, ?_, ?_, ?_, ?_, ?_, ?_, ?_, ?_, ?_, ?_, ?_, ?_, ?_, ?_, ?_, ?_⟩ <;> rfl

@[simp] theorem takeStatus_frame (s : State) : (takeStatus s).2.2.front = s.front ∧
    (takeStatus s).2.2.media = s.media ∧ (takeStatus s).2.2.regions = s.regions ∧
    (takeStatus s).2.2.filter = s.filter ∧ (takeStatus s).2.2.cipher = s.cipher ∧
    (takeStatus s).2.2.erase = s.erase ∧ (takeStatus s).2.2.keypad = s.keypad ∧ (takeStatus s).2.2.cred = s.cred ∧
    (takeStatus s).2.2.ctl = s.ctl ∧ (takeStatus s).2.2.window = s.window ∧ (takeStatus s).2.2.store = s.store ∧
    (takeStatus s).2.2.power = s.power ∧ (takeStatus s).2.2.flash = s.flash ∧
    (takeStatus s).2.2.replies = s.replies ∧ (takeStatus s).2.2.mediaOut = s.mediaOut ∧
    (takeStatus s).2.2.counters = s.counters ∧ (takeStatus s).2.2.pending = s.pending := by
  refine ⟨?_, ?_, ?_, ?_, ?_, ?_, ?_, ?_, ?_, ?_, ?_, ?_, ?_, ?_, ?_, ?_, ?_⟩ <;> rfl

@[simp] theorem refuse_frame (t : Txn) (st : FrontStatus) (s : State) : (refuse t st s).media = s.media ∧
    (refuse t st s).regions = s.regions ∧ (refuse t st s).filter = s.filter ∧ (refuse t st s).cipher = s.cipher ∧
    (refuse t st s).erase = s.erase ∧ (refuse t st s).keypad = s.keypad ∧ (refuse t st s).cred = s.cred ∧
    (refuse t st s).ctl = s.ctl ∧ (refuse t st s).window = s.window ∧ (refuse t st s).store = s.store ∧
    (refuse t st s).power = s.power ∧ (refuse t st s).flash = s.flash ∧ (refuse t st s).mediaOut = s.mediaOut ∧
    (refuse t st s).counters = s.counters ∧ (refuse t st s).pending = s.pending ∧
    (refuse t st s).front.link = s.front.link := by
  refine ⟨?_, ?_, ?_, ?_, ?_, ?_, ?_, ?_, ?_, ?_, ?_, ?_, ?_, ?_, ?_, ?_⟩ <;> rfl

@[simp] theorem issue_frame (tag : Tag) (req : Requester) (kind : Kind) (r : Range) (data : List Content) (s : State) :
    (issue tag req kind r data s).front = s.front ∧ (issue tag req kind r data s).regions = s.regions ∧
    (issue tag req kind r data s).filter = s.filter ∧ (issue tag req kind r data s).cipher = s.cipher ∧
    (issue tag req kind r data s).erase = s.erase ∧ (issue tag req kind r data s).keypad = s.keypad ∧
    (issue tag req kind r data s).cred = s.cred ∧ (issue tag req kind r data s).ctl = s.ctl ∧
    (issue tag req kind r data s).window = s.window ∧ (issue tag req kind r data s).store = s.store ∧
    (issue tag req kind r data s).power = s.power ∧ (issue tag req kind r data s).replies = s.replies ∧
    (issue tag req kind r data s).counters = s.counters ∧ (issue tag req kind r data s).pending = s.pending ∧
    (issue tag req kind r data s).media.state = s.media.state ∧
    (issue tag req kind r data s).media.capacity = s.media.capacity := by
  refine ⟨?_, ?_, ?_, ?_, ?_, ?_, ?_, ?_, ?_, ?_, ?_, ?_, ?_, ?_, ?_, ?_⟩ <;> rfl

@[simp] theorem freeTags_frame (s : State) : (freeTags s).front = s.front ∧ (freeTags s).regions = s.regions ∧
    (freeTags s).filter = s.filter ∧ (freeTags s).cipher = s.cipher ∧ (freeTags s).erase = s.erase ∧
    (freeTags s).keypad = s.keypad ∧ (freeTags s).cred = s.cred ∧ (freeTags s).ctl = s.ctl ∧
    (freeTags s).window = s.window ∧ (freeTags s).store = s.store ∧ (freeTags s).power = s.power ∧
    (freeTags s).flash = s.flash ∧ (freeTags s).replies = s.replies ∧ (freeTags s).mediaOut = s.mediaOut ∧
    (freeTags s).counters = s.counters ∧ (freeTags s).pending = s.pending ∧
    (freeTags s).media.state = s.media.state ∧ (freeTags s).media.capacity = s.media.capacity := by
  refine ⟨?_, ?_, ?_, ?_, ?_, ?_, ?_, ?_, ?_, ?_, ?_, ?_, ?_, ?_, ?_, ?_, ?_, ?_⟩ <;> rfl

@[simp] theorem grantTest_frame (tag : Tag) (k : Kind) (s : State) : (grantTest tag k s).front = s.front ∧
    (grantTest tag k s).regions = s.regions ∧ (grantTest tag k s).filter = s.filter ∧
    (grantTest tag k s).erase = s.erase ∧ (grantTest tag k s).keypad = s.keypad ∧
    (grantTest tag k s).cred = s.cred ∧ (grantTest tag k s).ctl = s.ctl ∧ (grantTest tag k s).window = s.window ∧
    (grantTest tag k s).store = s.store ∧ (grantTest tag k s).power = s.power ∧
    (grantTest tag k s).replies = s.replies ∧ (grantTest tag k s).counters = s.counters ∧
    (grantTest tag k s).pending = s.pending ∧ (grantTest tag k s).media.state = s.media.state ∧
    (grantTest tag k s).media.capacity = s.media.capacity ∧ (grantTest tag k s).cipher.slots = s.cipher.slots ∧
    (grantTest tag k s).cipher.run = s.cipher.run := by
  refine ⟨?_, ?_, ?_, ?_, ?_, ?_, ?_, ?_, ?_, ?_, ?_, ?_, ?_, ?_, ?_, ?_, ?_⟩ <;> rfl

@[simp] theorem grantChunk_frame (tag : Tag) (x : Sweep) (s : State) : (grantChunk tag x s).front = s.front ∧
    (grantChunk tag x s).regions = s.regions ∧ (grantChunk tag x s).filter = s.filter ∧
    (grantChunk tag x s).cipher = s.cipher ∧ (grantChunk tag x s).keypad = s.keypad ∧
    (grantChunk tag x s).cred = s.cred ∧ (grantChunk tag x s).ctl = s.ctl ∧ (grantChunk tag x s).window = s.window ∧
    (grantChunk tag x s).store = s.store ∧ (grantChunk tag x s).power = s.power ∧
    (grantChunk tag x s).flash = s.flash ∧ (grantChunk tag x s).replies = s.replies ∧
    (grantChunk tag x s).counters = s.counters ∧ (grantChunk tag x s).pending = s.pending ∧
    (grantChunk tag x s).media.state = s.media.state ∧ (grantChunk tag x s).media.capacity = s.media.capacity := by
  refine ⟨?_, ?_, ?_, ?_, ?_, ?_, ?_, ?_, ?_, ?_, ?_, ?_, ?_, ?_, ?_, ?_⟩ <;> rfl

@[simp] theorem dropAll_frame (s : State) : (dropAll s).media = s.media ∧ (dropAll s).regions = s.regions ∧
    (dropAll s).cipher = s.cipher ∧ (dropAll s).erase = s.erase ∧ (dropAll s).keypad = s.keypad ∧
    (dropAll s).cred = s.cred ∧ (dropAll s).ctl = s.ctl ∧ (dropAll s).store = s.store ∧
    (dropAll s).power = s.power ∧ (dropAll s).replies = s.replies ∧ (dropAll s).mediaOut = s.mediaOut ∧
    (dropAll s).counters = s.counters ∧ (dropAll s).pending = s.pending ∧ (dropAll s).front.link = s.front.link := by
  refine ⟨?_, ?_, ?_, ?_, ?_, ?_, ?_, ?_, ?_, ?_, ?_, ?_, ?_, ?_⟩ <;> rfl

@[simp] theorem mediaDown_frame (s : State) : (mediaDown s).front = s.front ∧ (mediaDown s).regions = s.regions ∧
    (mediaDown s).filter = s.filter ∧ (mediaDown s).cipher = s.cipher ∧ (mediaDown s).erase = s.erase ∧
    (mediaDown s).keypad = s.keypad ∧ (mediaDown s).cred = s.cred ∧ (mediaDown s).ctl = s.ctl ∧
    (mediaDown s).window = s.window ∧ (mediaDown s).store = s.store ∧ (mediaDown s).power = s.power ∧
    (mediaDown s).flash = s.flash ∧ (mediaDown s).replies = s.replies ∧ (mediaDown s).mediaOut = s.mediaOut ∧
    (mediaDown s).counters = s.counters ∧ (mediaDown s).pending = s.pending := by
  refine ⟨?_, ?_, ?_, ?_, ?_, ?_, ?_, ?_, ?_, ?_, ?_, ?_, ?_, ?_, ?_, ?_⟩ <;> rfl

@[simp] theorem enqueueRequest_frame (k : Kind) (tag : Tag) (start : Nat) (count : Nat) (s : State) :
    (enqueueRequest k tag start count s).media = s.media ∧
    (enqueueRequest k tag start count s).regions = s.regions ∧
    (enqueueRequest k tag start count s).cipher = s.cipher ∧ (enqueueRequest k tag start count s).erase = s.erase ∧
    (enqueueRequest k tag start count s).keypad = s.keypad ∧ (enqueueRequest k tag start count s).cred = s.cred ∧
    (enqueueRequest k tag start count s).ctl = s.ctl ∧ (enqueueRequest k tag start count s).window = s.window ∧
    (enqueueRequest k tag start count s).store = s.store ∧ (enqueueRequest k tag start count s).power = s.power ∧
    (enqueueRequest k tag start count s).flash = s.flash ∧
    (enqueueRequest k tag start count s).replies = s.replies ∧
    (enqueueRequest k tag start count s).mediaOut = s.mediaOut ∧
    (enqueueRequest k tag start count s).pending = s.pending ∧
    (enqueueRequest k tag start count s).front.link = s.front.link := by
  refine ⟨?_, ?_, ?_, ?_, ?_, ?_, ?_, ?_, ?_, ?_, ?_, ?_, ?_, ?_, ?_⟩ <;> rfl

@[simp] theorem moveCheckpoint_frame (y : StoredSweep) (s : State) : (moveCheckpoint y s).front = s.front ∧
    (moveCheckpoint y s).media = s.media ∧ (moveCheckpoint y s).regions = s.regions ∧
    (moveCheckpoint y s).filter = s.filter ∧ (moveCheckpoint y s).cipher = s.cipher ∧
    (moveCheckpoint y s).keypad = s.keypad ∧ (moveCheckpoint y s).cred = s.cred ∧ (moveCheckpoint y s).ctl = s.ctl ∧
    (moveCheckpoint y s).window = s.window ∧ (moveCheckpoint y s).store = s.store ∧
    (moveCheckpoint y s).power = s.power ∧ (moveCheckpoint y s).flash = s.flash ∧
    (moveCheckpoint y s).replies = s.replies ∧ (moveCheckpoint y s).mediaOut = s.mediaOut ∧
    (moveCheckpoint y s).counters = s.counters ∧ (moveCheckpoint y s).pending = s.pending := by
  refine ⟨?_, ?_, ?_, ?_, ?_, ?_, ?_, ?_, ?_, ?_, ?_, ?_, ?_, ?_, ?_, ?_⟩ <;> rfl

@[simp] theorem powerDown_frame (s : State) : (powerDown s).replies = s.replies ∧
    (powerDown s).mediaOut = s.mediaOut ∧ (powerDown s).counters = s.counters ∧ (powerDown s).pending = s.pending := by
  refine ⟨?_, ?_, ?_, ?_⟩ <;> rfl

@[simp] theorem loadRecords_frame (s : State) : (loadRecords s).front = s.front ∧ (loadRecords s).media = s.media ∧
    (loadRecords s).filter = s.filter ∧ (loadRecords s).erase = s.erase ∧ (loadRecords s).keypad = s.keypad ∧
    (loadRecords s).power = s.power ∧ (loadRecords s).flash = s.flash ∧ (loadRecords s).replies = s.replies ∧
    (loadRecords s).mediaOut = s.mediaOut ∧ (loadRecords s).counters = s.counters ∧
    (loadRecords s).pending = s.pending ∧ (loadRecords s).cipher.run = s.cipher.run ∧
    (loadRecords s).ctl.drive = s.ctl.drive ∧ (loadRecords s).ctl.openProfile = s.ctl.openProfile ∧
    (loadRecords s).ctl.attached = s.ctl.attached ∧ (loadRecords s).store.busy = s.store.busy := by
  refine ⟨?_, ?_, ?_, ?_, ?_, ?_, ?_, ?_, ?_, ?_, ?_, ?_, ?_, ?_, ?_, ?_⟩ <;> rfl

@[simp] theorem startUpEnd_frame (s : State) : (startUpEnd s).front = s.front ∧ (startUpEnd s).media = s.media ∧
    (startUpEnd s).regions = s.regions ∧ (startUpEnd s).filter = s.filter ∧ (startUpEnd s).cipher = s.cipher ∧
    (startUpEnd s).erase = s.erase ∧ (startUpEnd s).cred = s.cred ∧ (startUpEnd s).ctl = s.ctl ∧
    (startUpEnd s).window = s.window ∧ (startUpEnd s).store = s.store ∧ (startUpEnd s).flash = s.flash ∧
    (startUpEnd s).replies = s.replies ∧ (startUpEnd s).mediaOut = s.mediaOut ∧
    (startUpEnd s).counters = s.counters ∧ (startUpEnd s).pending = s.pending ∧
    (startUpEnd s).power.source = s.power.source ∧ (startUpEnd s).power.mode = s.power.mode ∧
    (startUpEnd s).power.on = s.power.on := by
  refine ⟨?_, ?_, ?_, ?_, ?_, ?_, ?_, ?_, ?_, ?_, ?_, ?_, ?_, ?_, ?_, ?_, ?_, ?_⟩ <;> rfl

@[simp] theorem beginCollection_frame (k : EntryKind) (s : State) : (beginCollection k s).front = s.front ∧
    (beginCollection k s).media = s.media ∧ (beginCollection k s).regions = s.regions ∧
    (beginCollection k s).filter = s.filter ∧ (beginCollection k s).cipher = s.cipher ∧
    (beginCollection k s).erase = s.erase ∧ (beginCollection k s).cred = s.cred ∧
    (beginCollection k s).ctl = s.ctl ∧ (beginCollection k s).window = s.window ∧
    (beginCollection k s).store = s.store ∧ (beginCollection k s).power = s.power ∧
    (beginCollection k s).flash = s.flash ∧ (beginCollection k s).replies = s.replies ∧
    (beginCollection k s).mediaOut = s.mediaOut ∧ (beginCollection k s).counters = s.counters ∧
    (beginCollection k s).pending = s.pending := by
  refine ⟨?_, ?_, ?_, ?_, ?_, ?_, ?_, ?_, ?_, ?_, ?_, ?_, ?_, ?_, ?_, ?_⟩ <;> rfl

@[simp] theorem beginStep_frame (e : Enroll) (p : EnrollStep) (s : State) : (beginStep e p s).front = s.front ∧
    (beginStep e p s).media = s.media ∧ (beginStep e p s).regions = s.regions ∧
    (beginStep e p s).filter = s.filter ∧ (beginStep e p s).cipher = s.cipher ∧ (beginStep e p s).erase = s.erase ∧
    (beginStep e p s).ctl = s.ctl ∧ (beginStep e p s).window = s.window ∧ (beginStep e p s).store = s.store ∧
    (beginStep e p s).power = s.power ∧ (beginStep e p s).flash = s.flash ∧ (beginStep e p s).replies = s.replies ∧
    (beginStep e p s).mediaOut = s.mediaOut ∧ (beginStep e p s).counters = s.counters ∧
    (beginStep e p s).pending = s.pending ∧ (beginStep e p s).cred.n = s.cred.n ∧
    (beginStep e p s).cred.profiles = s.cred.profiles := by
  refine ⟨?_, ?_, ?_, ?_, ?_, ?_, ?_, ?_, ?_, ?_, ?_, ?_, ?_, ?_, ?_, ?_, ?_⟩ <;> rfl

end Sys2Proof.Machine
end

