-- ==== Sys2Proof/Laws/Frames.lean ====
section
/-! SUPPORT. What each shared operation leaves as it stands, whatever branch it takes: one theorem per operation,
each conjunct a rewriting rule for one block or one field. -/

namespace Sys2Proof.Machine

open Sys2Proof

/-- A fold whose every step leaves a part of the state as it stands leaves that part as it stands. -/
theorem foldl_keeps {α : Type} (p : State → α) {β : Type} (g : State → β → State)
    (h : ∀ s x, p (g s x) = p s) (l : List β) (s : State) : p (l.foldl g s) = p s := by
  induction l generalizing s with
  | nil => rfl
  | cons x l ih => simp [ih, h]

@[simp] theorem startNext_frame (s : State) : (startNext s).front = s.front ∧ (startNext s).media = s.media ∧
    (startNext s).regions = s.regions ∧ (startNext s).filter = s.filter ∧ (startNext s).cipher = s.cipher ∧
    (startNext s).erase = s.erase ∧ (startNext s).keypad = s.keypad ∧ (startNext s).cred = s.cred ∧
    (startNext s).ctl = s.ctl ∧ (startNext s).window = s.window ∧ (startNext s).power = s.power ∧
    (startNext s).flash = s.flash ∧ (startNext s).replies = s.replies ∧ (startNext s).mediaOut = s.mediaOut ∧
    (startNext s).counters = s.counters ∧ (startNext s).pending = s.pending ∧
    (startNext s).store.effective = s.store.effective := by
  refine ⟨?_, ?_, ?_, ?_, ?_, ?_, ?_, ?_, ?_, ?_, ?_, ?_, ?_, ?_, ?_, ?_, ?_⟩ <;> (unfold startNext; (repeat' split) <;> simp_all)

@[simp] theorem requestCommit_frame (r : RecordId) (ws : List Waiter) (s : State) :
    (requestCommit r ws s).front = s.front ∧ (requestCommit r ws s).media = s.media ∧
    (requestCommit r ws s).regions = s.regions ∧ (requestCommit r ws s).filter = s.filter ∧
    (requestCommit r ws s).cipher = s.cipher ∧ (requestCommit r ws s).erase = s.erase ∧
    (requestCommit r ws s).keypad = s.keypad ∧ (requestCommit r ws s).cred = s.cred ∧
    (requestCommit r ws s).ctl = s.ctl ∧ (requestCommit r ws s).window = s.window ∧
    (requestCommit r ws s).power = s.power ∧ (requestCommit r ws s).flash = s.flash ∧
    (requestCommit r ws s).replies = s.replies ∧ (requestCommit r ws s).mediaOut = s.mediaOut ∧
    (requestCommit r ws s).counters = s.counters ∧ (requestCommit r ws s).pending = s.pending ∧
    (requestCommit r ws s).store.effective = s.store.effective := by
  refine ⟨?_, ?_, ?_, ?_, ?_, ?_, ?_, ?_, ?_, ?_, ?_, ?_, ?_, ?_, ?_, ?_, ?_⟩ <;> (unfold requestCommit; simp)

@[simp] theorem selectBackground_frame (s : State) : (selectBackground s).front = s.front ∧
    (selectBackground s).media = s.media ∧ (selectBackground s).regions = s.regions ∧
    (selectBackground s).filter = s.filter ∧ (selectBackground s).cipher = s.cipher ∧
    (selectBackground s).erase = s.erase ∧ (selectBackground s).cred = s.cred ∧ (selectBackground s).ctl = s.ctl ∧
    (selectBackground s).window = s.window ∧ (selectBackground s).store = s.store ∧
    (selectBackground s).power = s.power ∧ (selectBackground s).flash = s.flash ∧
    (selectBackground s).replies = s.replies ∧ (selectBackground s).mediaOut = s.mediaOut ∧
    (selectBackground s).counters = s.counters ∧ (selectBackground s).pending = s.pending := by
  refine ⟨?_, ?_, ?_, ?_, ?_, ?_, ?_, ?_, ?_, ?_, ?_, ?_, ?_, ?_, ?_, ?_⟩ <;> (unfold selectBackground; (repeat' split) <;> simp_all)

@[simp] theorem setDrive_frame (d : DriveState) (s : State) : (setDrive d s).front = s.front ∧
    (setDrive d s).media = s.media ∧ (setDrive d s).regions = s.regions ∧ (setDrive d s).filter = s.filter ∧
    (setDrive d s).cipher = s.cipher ∧ (setDrive d s).erase = s.erase ∧ (setDrive d s).cred = s.cred ∧
    (setDrive d s).window = s.window ∧ (setDrive d s).store = s.store ∧ (setDrive d s).power = s.power ∧
    (setDrive d s).flash = s.flash ∧ (setDrive d s).replies = s.replies ∧ (setDrive d s).mediaOut = s.mediaOut ∧
    (setDrive d s).counters = s.counters ∧ (setDrive d s).pending = s.pending ∧
    (setDrive d s).ctl.openProfile = s.ctl.openProfile ∧ (setDrive d s).ctl.attached = s.ctl.attached := by
  refine ⟨?_, ?_, ?_, ?_, ?_, ?_, ?_, ?_, ?_, ?_, ?_, ?_, ?_, ?_, ?_, ?_, ?_⟩ <;> (unfold setDrive; simp)

@[simp] theorem requestOneShot_frame (p : Pattern) (s : State) : (requestOneShot p s).front = s.front ∧
    (requestOneShot p s).media = s.media ∧ (requestOneShot p s).regions = s.regions ∧
    (requestOneShot p s).filter = s.filter ∧ (requestOneShot p s).cipher = s.cipher ∧
    (requestOneShot p s).erase = s.erase ∧ (requestOneShot p s).cred = s.cred ∧ (requestOneShot p s).ctl = s.ctl ∧
    (requestOneShot p s).window = s.window ∧ (requestOneShot p s).store = s.store ∧
    (requestOneShot p s).power = s.power ∧ (requestOneShot p s).flash = s.flash ∧
    (requestOneShot p s).replies = s.replies ∧ (requestOneShot p s).mediaOut = s.mediaOut ∧
    (requestOneShot p s).counters = s.counters ∧ (requestOneShot p s).pending = s.pending := by
  refine ⟨?_, ?_, ?_, ?_, ?_, ?_, ?_, ?_, ?_, ?_, ?_, ?_, ?_, ?_, ?_, ?_⟩ <;> (unfold requestOneShot; (repeat' split) <;> simp_all)

@[simp] theorem standbyCheck_frame (s : State) : (standbyCheck s).front = s.front ∧
    (standbyCheck s).media = s.media ∧ (standbyCheck s).regions = s.regions ∧ (standbyCheck s).filter = s.filter ∧
    (standbyCheck s).cipher = s.cipher ∧ (standbyCheck s).erase = s.erase ∧ (standbyCheck s).cred = s.cred ∧
    (standbyCheck s).ctl = s.ctl ∧ (standbyCheck s).window = s.window ∧ (standbyCheck s).store = s.store ∧
    (standbyCheck s).flash = s.flash ∧ (standbyCheck s).replies = s.replies ∧
    (standbyCheck s).mediaOut = s.mediaOut ∧ (standbyCheck s).counters = s.counters ∧
    (standbyCheck s).pending = s.pending ∧ (standbyCheck s).power.source = s.power.source ∧
    (standbyCheck s).power.on = s.power.on := by
  refine ⟨?_, ?_, ?_, ?_, ?_, ?_, ?_, ?_, ?_, ?_, ?_, ?_, ?_, ?_, ?_, ?_, ?_⟩ <;> (unfold standbyCheck; (repeat' split) <;> simp_all)

@[simp] theorem restartInactivity_frame (s : State) : (restartInactivity s).front = s.front ∧
    (restartInactivity s).media = s.media ∧ (restartInactivity s).regions = s.regions ∧
    (restartInactivity s).filter = s.filter ∧ (restartInactivity s).cipher = s.cipher ∧
    (restartInactivity s).erase = s.erase ∧ (restartInactivity s).keypad = s.keypad ∧
    (restartInactivity s).cred = s.cred ∧ (restartInactivity s).window = s.window ∧
    (restartInactivity s).store = s.store ∧ (restartInactivity s).power = s.power ∧
    (restartInactivity s).flash = s.flash ∧ (restartInactivity s).replies = s.replies ∧
    (restartInactivity s).mediaOut = s.mediaOut ∧ (restartInactivity s).counters = s.counters ∧
    (restartInactivity s).pending = s.pending ∧ (restartInactivity s).ctl.drive = s.ctl.drive ∧
    (restartInactivity s).ctl.openProfile = s.ctl.openProfile ∧ (restartInactivity s).ctl.attached = s.ctl.attached := by
  refine ⟨?_, ?_, ?_, ?_, ?_, ?_, ?_, ?_, ?_, ?_, ?_, ?_, ?_, ?_, ?_, ?_, ?_, ?_, ?_⟩ <;> (unfold restartInactivity; (repeat' split) <;> simp_all)

@[simp] theorem withdrawRaced_frame (s t : State) : (withdrawRaced s t).front = t.front ∧
    (withdrawRaced s t).media = t.media ∧ (withdrawRaced s t).regions = t.regions ∧
    (withdrawRaced s t).filter = t.filter ∧ (withdrawRaced s t).cipher = t.cipher ∧
    (withdrawRaced s t).erase = t.erase ∧ (withdrawRaced s t).cred = t.cred ∧ (withdrawRaced s t).window = t.window ∧
    (withdrawRaced s t).store = t.store ∧ (withdrawRaced s t).power = t.power ∧ (withdrawRaced s t).flash = t.flash ∧
    (withdrawRaced s t).replies = t.replies ∧ (withdrawRaced s t).mediaOut = t.mediaOut ∧
    (withdrawRaced s t).counters = t.counters ∧ (withdrawRaced s t).pending = t.pending ∧
    (withdrawRaced s t).ctl.drive = t.ctl.drive ∧ (withdrawRaced s t).ctl.openProfile = t.ctl.openProfile ∧
    (withdrawRaced s t).ctl.attached = t.ctl.attached ∧ (withdrawRaced s t).ctl.window = t.ctl.window ∧
    (withdrawRaced s t).ctl.inactivity = t.ctl.inactivity ∧ (withdrawRaced s t).keypad.keys = t.keypad.keys ∧
    (withdrawRaced s t).keypad.buffer = t.keypad.buffer ∧ (withdrawRaced s t).keypad.phase = t.keypad.phase ∧
    (withdrawRaced s t).keypad.timer = t.keypad.timer ∧ (withdrawRaced s t).keypad.selection = t.keypad.selection ∧
    (withdrawRaced s t).keypad.oneShot = t.keypad.oneShot := by
  refine ⟨?_, ?_, ?_, ?_, ?_, ?_, ?_, ?_, ?_, ?_, ?_, ?_, ?_, ?_, ?_, ?_, ?_, ?_, ?_, ?_, ?_, ?_, ?_, ?_, ?_,
    ?_⟩ <;> rfl

@[simp] theorem reportArrival_frame (s : State) : (reportArrival s).front = s.front ∧
    (reportArrival s).media = s.media ∧ (reportArrival s).regions = s.regions ∧ (reportArrival s).filter = s.filter ∧
    (reportArrival s).cipher = s.cipher ∧ (reportArrival s).erase = s.erase ∧ (reportArrival s).cred = s.cred ∧
    (reportArrival s).window = s.window ∧ (reportArrival s).store = s.store ∧ (reportArrival s).power = s.power ∧
    (reportArrival s).flash = s.flash ∧ (reportArrival s).replies = s.replies ∧
    (reportArrival s).mediaOut = s.mediaOut ∧ (reportArrival s).counters = s.counters ∧
    (reportArrival s).pending = s.pending ∧ (reportArrival s).ctl.drive = s.ctl.drive ∧
    (reportArrival s).ctl.openProfile = s.ctl.openProfile ∧ (reportArrival s).ctl.attached = s.ctl.attached ∧
    (reportArrival s).ctl.window = s.ctl.window ∧ (reportArrival s).keypad.keys = s.keypad.keys ∧
    (reportArrival s).keypad.buffer = s.keypad.buffer ∧ (reportArrival s).keypad.phase = s.keypad.phase ∧
    (reportArrival s).keypad.timer = s.keypad.timer ∧ (reportArrival s).keypad.selection = s.keypad.selection ∧
    (reportArrival s).keypad.oneShot = s.keypad.oneShot := by
  refine ⟨?_, ?_, ?_, ?_, ?_, ?_, ?_, ?_, ?_, ?_, ?_, ?_, ?_, ?_, ?_, ?_, ?_, ?_, ?_, ?_, ?_, ?_, ?_, ?_,
    ?_⟩ <;>
    first | (unfold reportArrival; simp; done) | (unfold reportArrival restartInactivity startInactivity; simp; split <;> rfl)

@[simp] theorem swapTables_frame (n : Snapshot) (s : State) : (swapTables n s).front = s.front ∧
    (swapTables n s).media = s.media ∧ (swapTables n s).filter = s.filter ∧ (swapTables n s).erase = s.erase ∧
    (swapTables n s).keypad = s.keypad ∧ (swapTables n s).cred = s.cred ∧ (swapTables n s).ctl = s.ctl ∧
    (swapTables n s).window = s.window ∧ (swapTables n s).power = s.power ∧ (swapTables n s).flash = s.flash ∧
    (swapTables n s).replies = s.replies ∧ (swapTables n s).mediaOut = s.mediaOut ∧
    (swapTables n s).pending = s.pending ∧ (swapTables n s).cipher.run = s.cipher.run ∧
    (swapTables n s).store.effective = s.store.effective := by
  refine ⟨?_, ?_, ?_, ?_, ?_, ?_, ?_, ?_, ?_, ?_, ?_, ?_, ?_, ?_, ?_⟩ <;> (unfold swapTables; simp)

@[simp] theorem endApply_frame (s : State) : (endApply s).front = s.front ∧ (endApply s).media = s.media ∧
    (endApply s).cipher = s.cipher ∧ (endApply s).erase = s.erase ∧ (endApply s).keypad = s.keypad ∧
    (endApply s).cred = s.cred ∧ (endApply s).ctl = s.ctl ∧ (endApply s).window = s.window ∧
    (endApply s).store = s.store ∧ (endApply s).power = s.power ∧ (endApply s).flash = s.flash ∧
    (endApply s).replies = s.replies ∧ (endApply s).mediaOut = s.mediaOut ∧ (endApply s).counters = s.counters ∧
    (endApply s).pending = s.pending := by
  refine ⟨?_, ?_, ?_, ?_, ?_, ?_, ?_, ?_, ?_, ?_, ?_, ?_, ?_, ?_, ?_⟩ <;> (unfold endApply; (repeat' split) <;> simp_all)

@[simp] theorem clearRemoved_frame (r : ProfIx) (s : State) : (clearRemoved r s).front = s.front ∧
    (clearRemoved r s).media = s.media ∧ (clearRemoved r s).filter = s.filter ∧ (clearRemoved r s).erase = s.erase ∧
    (clearRemoved r s).keypad = s.keypad ∧ (clearRemoved r s).cred = s.cred ∧ (clearRemoved r s).ctl = s.ctl ∧
    (clearRemoved r s).window = s.window ∧ (clearRemoved r s).power = s.power ∧ (clearRemoved r s).flash = s.flash ∧
    (clearRemoved r s).replies = s.replies ∧ (clearRemoved r s).mediaOut = s.mediaOut ∧
    (clearRemoved r s).counters = s.counters ∧ (clearRemoved r s).pending = s.pending ∧
    (clearRemoved r s).cipher.run = s.cipher.run ∧ (clearRemoved r s).store.effective = s.store.effective := by
  refine ⟨?_, ?_, ?_, ?_, ?_, ?_, ?_, ?_, ?_, ?_, ?_, ?_, ?_, ?_, ?_, ?_⟩ <;> (unfold clearRemoved; simp)

@[simp] theorem clearEmptyMasks_frame (s : State) : (clearEmptyMasks s).front = s.front ∧
    (clearEmptyMasks s).media = s.media ∧ (clearEmptyMasks s).filter = s.filter ∧
    (clearEmptyMasks s).erase = s.erase ∧ (clearEmptyMasks s).keypad = s.keypad ∧
    (clearEmptyMasks s).cred = s.cred ∧ (clearEmptyMasks s).ctl = s.ctl ∧ (clearEmptyMasks s).window = s.window ∧
    (clearEmptyMasks s).power = s.power ∧ (clearEmptyMasks s).flash = s.flash ∧
    (clearEmptyMasks s).replies = s.replies ∧ (clearEmptyMasks s).mediaOut = s.mediaOut ∧
    (clearEmptyMasks s).counters = s.counters ∧ (clearEmptyMasks s).pending = s.pending ∧
    (clearEmptyMasks s).cipher.run = s.cipher.run ∧ (clearEmptyMasks s).store.effective = s.store.effective := by
  refine ⟨?_, ?_, ?_, ?_, ?_, ?_, ?_, ?_, ?_, ?_, ?_, ?_, ?_, ?_, ?_, ?_⟩ <;> (unfold clearEmptyMasks; dsimp only; (repeat' split) <;> (first | rfl | simp | simp_all))

@[simp] theorem installDefault_frame (s : State) : (installDefault s).front = s.front ∧
    (installDefault s).media = s.media ∧ (installDefault s).filter = s.filter ∧ (installDefault s).erase = s.erase ∧
    (installDefault s).keypad = s.keypad ∧ (installDefault s).cred = s.cred ∧ (installDefault s).ctl = s.ctl ∧
    (installDefault s).window = s.window ∧ (installDefault s).power = s.power ∧ (installDefault s).flash = s.flash ∧
    (installDefault s).replies = s.replies ∧ (installDefault s).mediaOut = s.mediaOut ∧
    (installDefault s).pending = s.pending ∧ (installDefault s).cipher.run = s.cipher.run ∧
    (installDefault s).store.effective = s.store.effective := by
  refine ⟨?_, ?_, ?_, ?_, ?_, ?_, ?_, ?_, ?_, ?_, ?_, ?_, ?_, ?_, ?_⟩ <;> (unfold installDefault; simp)

@[simp] theorem setUpSweep_frame (p : Pos) (e : Entry) (s : State) : (setUpSweep p e s).front = s.front ∧
    (setUpSweep p e s).media = s.media ∧ (setUpSweep p e s).regions = s.regions ∧
    (setUpSweep p e s).filter = s.filter ∧ (setUpSweep p e s).cipher = s.cipher ∧
    (setUpSweep p e s).keypad = s.keypad ∧ (setUpSweep p e s).cred = s.cred ∧ (setUpSweep p e s).ctl = s.ctl ∧
    (setUpSweep p e s).window = s.window ∧ (setUpSweep p e s).power = s.power ∧ (setUpSweep p e s).flash = s.flash ∧
    (setUpSweep p e s).replies = s.replies ∧ (setUpSweep p e s).mediaOut = s.mediaOut ∧
    (setUpSweep p e s).counters = s.counters ∧ (setUpSweep p e s).pending = s.pending ∧
    (setUpSweep p e s).store.effective = s.store.effective := by
  refine ⟨?_, ?_, ?_, ?_, ?_, ?_, ?_, ?_, ?_, ?_, ?_, ?_, ?_, ?_, ?_, ?_⟩ <;> (unfold setUpSweep; simp)

@[simp] theorem runHead_frame (j : Job) (s : State) : (runHead j s).front = s.front ∧
    (runHead j s).media = s.media ∧ (runHead j s).regions = s.regions ∧ (runHead j s).filter = s.filter ∧
    (runHead j s).keypad = s.keypad ∧ (runHead j s).cred = s.cred ∧ (runHead j s).ctl = s.ctl ∧
    (runHead j s).window = s.window ∧ (runHead j s).power = s.power ∧ (runHead j s).flash = s.flash ∧
    (runHead j s).replies = s.replies ∧ (runHead j s).mediaOut = s.mediaOut ∧ (runHead j s).pending = s.pending ∧
    (runHead j s).cipher.run = s.cipher.run ∧ (runHead j s).store.effective = s.store.effective := by
  refine ⟨?_, ?_, ?_, ?_, ?_, ?_, ?_, ?_, ?_, ?_, ?_, ?_, ?_, ?_, ?_⟩ <;> (unfold runHead; (repeat' split) <;> simp_all)

@[simp] theorem dropHead_frame (rest : List Job) (s : State) :
    (dropHead rest s).front = s.front ∧ (dropHead rest s).media = s.media ∧ (dropHead rest s).regions = s.regions ∧
    (dropHead rest s).filter = s.filter ∧ (dropHead rest s).cipher = s.cipher ∧ (dropHead rest s).keypad = s.keypad ∧
    (dropHead rest s).cred = s.cred ∧ (dropHead rest s).ctl = s.ctl ∧ (dropHead rest s).window = s.window ∧
    (dropHead rest s).power = s.power ∧ (dropHead rest s).flash = s.flash ∧ (dropHead rest s).replies = s.replies ∧
    (dropHead rest s).mediaOut = s.mediaOut ∧ (dropHead rest s).counters = s.counters ∧
    (dropHead rest s).pending = s.pending ∧ (dropHead rest s).store.effective = s.store.effective := by
  refine ⟨?_, ?_, ?_, ?_, ?_, ?_, ?_, ?_, ?_, ?_, ?_, ?_, ?_, ?_, ?_, ?_⟩ <;> (unfold dropHead; dsimp only; split <;> simp)

@[simp] theorem runJobs_frame (l : List Job) (s : State) :
    (runJobs l s).front = s.front ∧ (runJobs l s).media = s.media ∧ (runJobs l s).regions = s.regions ∧
    (runJobs l s).filter = s.filter ∧ (runJobs l s).keypad = s.keypad ∧ (runJobs l s).cred = s.cred ∧
    (runJobs l s).ctl = s.ctl ∧ (runJobs l s).window = s.window ∧ (runJobs l s).power = s.power ∧
    (runJobs l s).flash = s.flash ∧ (runJobs l s).replies = s.replies ∧ (runJobs l s).mediaOut = s.mediaOut ∧
    (runJobs l s).pending = s.pending ∧ (runJobs l s).cipher.run = s.cipher.run ∧
    (runJobs l s).store.effective = s.store.effective := by
  induction l generalizing s with
  | nil => exact ⟨rfl, rfl, rfl, rfl, rfl, rfl, rfl, rfl, rfl, rfl, rfl, rfl, rfl, rfl, rfl⟩
  | cons j rest ih =>
    unfold runJobs
    split
    · split
      · simp [ih]
      · simp
    · exact ⟨rfl, rfl, rfl, rfl, rfl, rfl, rfl, rfl, rfl, rfl, rfl, rfl, rfl, rfl, rfl⟩

@[simp] theorem headCheck_frame (s : State) : (headCheck s).front = s.front ∧ (headCheck s).media = s.media ∧
    (headCheck s).regions = s.regions ∧ (headCheck s).filter = s.filter ∧ (headCheck s).keypad = s.keypad ∧
    (headCheck s).cred = s.cred ∧ (headCheck s).ctl = s.ctl ∧ (headCheck s).window = s.window ∧
    (headCheck s).power = s.power ∧ (headCheck s).flash = s.flash ∧ (headCheck s).replies = s.replies ∧
    (headCheck s).mediaOut = s.mediaOut ∧ (headCheck s).pending = s.pending ∧
    (headCheck s).cipher.run = s.cipher.run ∧ (headCheck s).store.effective = s.store.effective := by
  refine ⟨?_, ?_, ?_, ?_, ?_, ?_, ?_, ?_, ?_, ?_, ?_, ?_, ?_, ?_, ?_⟩ <;> (unfold headCheck; simp)

@[simp] theorem startHead_frame (s : State) : (startHead s).front = s.front ∧ (startHead s).media = s.media ∧
    (startHead s).regions = s.regions ∧ (startHead s).filter = s.filter ∧ (startHead s).keypad = s.keypad ∧
    (startHead s).cred = s.cred ∧ (startHead s).ctl = s.ctl ∧ (startHead s).window = s.window ∧
    (startHead s).power = s.power ∧ (startHead s).flash = s.flash ∧ (startHead s).replies = s.replies ∧
    (startHead s).mediaOut = s.mediaOut ∧ (startHead s).pending = s.pending ∧
    (startHead s).cipher.run = s.cipher.run ∧ (startHead s).store.effective = s.store.effective := by
  refine ⟨?_, ?_, ?_, ?_, ?_, ?_, ?_, ?_, ?_, ?_, ?_, ?_, ?_, ?_, ?_⟩ <;> (unfold startHead; (repeat' split) <;> simp_all)

@[simp] theorem headLeaves_frame (s : State) : (headLeaves s).front = s.front ∧ (headLeaves s).media = s.media ∧
    (headLeaves s).regions = s.regions ∧ (headLeaves s).filter = s.filter ∧ (headLeaves s).keypad = s.keypad ∧
    (headLeaves s).cred = s.cred ∧ (headLeaves s).ctl = s.ctl ∧ (headLeaves s).window = s.window ∧
    (headLeaves s).power = s.power ∧ (headLeaves s).flash = s.flash ∧ (headLeaves s).replies = s.replies ∧
    (headLeaves s).mediaOut = s.mediaOut ∧ (headLeaves s).pending = s.pending ∧
    (headLeaves s).cipher.run = s.cipher.run ∧ (headLeaves s).store.effective = s.store.effective := by
  refine ⟨?_, ?_, ?_, ?_, ?_, ?_, ?_, ?_, ?_, ?_, ?_, ?_, ?_, ?_, ?_⟩ <;> (unfold headLeaves; simp)

@[simp] theorem drainCheck_frame (s : State) : (drainCheck s).front = s.front ∧ (drainCheck s).media = s.media ∧
    (drainCheck s).erase = s.erase ∧ (drainCheck s).keypad = s.keypad ∧ (drainCheck s).cred = s.cred ∧
    (drainCheck s).ctl = s.ctl ∧ (drainCheck s).window = s.window ∧ (drainCheck s).power = s.power ∧
    (drainCheck s).flash = s.flash ∧ (drainCheck s).replies = s.replies ∧ (drainCheck s).mediaOut = s.mediaOut ∧
    (drainCheck s).pending = s.pending ∧ (drainCheck s).cipher.run = s.cipher.run ∧
    (drainCheck s).store.effective = s.store.effective := by
  refine ⟨?_, ?_, ?_, ?_, ?_, ?_, ?_, ?_, ?_, ?_, ?_, ?_, ?_, ?_⟩ <;> (unfold drainCheck; (repeat' split) <;> simp_all)

@[simp] theorem notifyCounts_frame (s : State) : (notifyCounts s).front = s.front ∧
    (notifyCounts s).media = s.media ∧ (notifyCounts s).keypad = s.keypad ∧ (notifyCounts s).cred = s.cred ∧
    (notifyCounts s).ctl = s.ctl ∧ (notifyCounts s).window = s.window ∧ (notifyCounts s).power = s.power ∧
    (notifyCounts s).flash = s.flash ∧ (notifyCounts s).replies = s.replies ∧
    (notifyCounts s).mediaOut = s.mediaOut ∧ (notifyCounts s).pending = s.pending ∧
    (notifyCounts s).cipher.run = s.cipher.run ∧ (notifyCounts s).store.effective = s.store.effective := by
  refine ⟨?_, ?_, ?_, ?_, ?_, ?_, ?_, ?_, ?_, ?_, ?_, ?_, ?_⟩ <;> (unfold notifyCounts; simp)

@[simp] theorem endFrag_frame (id : Nat) (st : FragState) (s : State) : (endFrag id st s).front = s.front ∧
    (endFrag id st s).media = s.media ∧ (endFrag id st s).keypad = s.keypad ∧ (endFrag id st s).cred = s.cred ∧
    (endFrag id st s).ctl = s.ctl ∧ (endFrag id st s).window = s.window ∧ (endFrag id st s).power = s.power ∧
    (endFrag id st s).flash = s.flash ∧ (endFrag id st s).replies = s.replies ∧
    (endFrag id st s).mediaOut = s.mediaOut ∧ (endFrag id st s).pending = s.pending ∧
    (endFrag id st s).cipher.run = s.cipher.run ∧ (endFrag id st s).store.effective = s.store.effective := by
  refine ⟨?_, ?_, ?_, ?_, ?_, ?_, ?_, ?_, ?_, ?_, ?_, ?_, ?_⟩ <;> (unfold endFrag; (repeat' split) <;> simp_all)

@[simp] theorem completeTxn_frame (id : Nat) (s : State) : (completeTxn id s).media = s.media ∧
    (completeTxn id s).regions = s.regions ∧ (completeTxn id s).cipher = s.cipher ∧
    (completeTxn id s).erase = s.erase ∧ (completeTxn id s).keypad = s.keypad ∧ (completeTxn id s).cred = s.cred ∧
    (completeTxn id s).ctl = s.ctl ∧ (completeTxn id s).window = s.window ∧ (completeTxn id s).store = s.store ∧
    (completeTxn id s).power = s.power ∧ (completeTxn id s).flash = s.flash ∧
    (completeTxn id s).mediaOut = s.mediaOut ∧ (completeTxn id s).counters = s.counters ∧
    (completeTxn id s).pending = s.pending ∧ (completeTxn id s).front.link = s.front.link := by
  refine ⟨?_, ?_, ?_, ?_, ?_, ?_, ?_, ?_, ?_, ?_, ?_, ?_, ?_, ?_, ?_⟩ <;> (unfold completeTxn; (repeat' split) <;> simp_all)

@[simp] theorem readResult_frame (t : Txn) (g : Frag) (ok : Bool) (data : List Content) (s : State) :
    (readResult t g ok data s).front = s.front ∧ (readResult t g ok data s).media = s.media ∧
    (readResult t g ok data s).keypad = s.keypad ∧ (readResult t g ok data s).cred = s.cred ∧
    (readResult t g ok data s).ctl = s.ctl ∧ (readResult t g ok data s).window = s.window ∧
    (readResult t g ok data s).power = s.power ∧ (readResult t g ok data s).flash = s.flash ∧
    (readResult t g ok data s).replies = s.replies ∧ (readResult t g ok data s).mediaOut = s.mediaOut ∧
    (readResult t g ok data s).pending = s.pending ∧ (readResult t g ok data s).cipher.run = s.cipher.run ∧
    (readResult t g ok data s).store.effective = s.store.effective := by
  refine ⟨?_, ?_, ?_, ?_, ?_, ?_, ?_, ?_, ?_, ?_, ?_, ?_, ?_⟩ <;> (unfold readResult; (repeat' split) <;> simp_all)

@[simp] theorem fragResult_frame (id : Nat) (ok : Bool) (data : List Content) (s : State) :
    (fragResult id ok data s).media = s.media ∧ (fragResult id ok data s).keypad = s.keypad ∧
    (fragResult id ok data s).cred = s.cred ∧ (fragResult id ok data s).ctl = s.ctl ∧
    (fragResult id ok data s).window = s.window ∧ (fragResult id ok data s).power = s.power ∧
    (fragResult id ok data s).flash = s.flash ∧ (fragResult id ok data s).mediaOut = s.mediaOut ∧
    (fragResult id ok data s).pending = s.pending ∧ (fragResult id ok data s).front.link = s.front.link ∧
    (fragResult id ok data s).cipher.run = s.cipher.run ∧
    (fragResult id ok data s).store.effective = s.store.effective := by
  refine ⟨?_, ?_, ?_, ?_, ?_, ?_, ?_, ?_, ?_, ?_, ?_, ?_⟩ <;> (unfold fragResult; (repeat' split) <;> simp_all)

@[simp] theorem joinIssue_frame (id : Nat) (s : State) : (joinIssue id s).media = s.media ∧
    (joinIssue id s).keypad = s.keypad ∧ (joinIssue id s).cred = s.cred ∧ (joinIssue id s).ctl = s.ctl ∧
    (joinIssue id s).window = s.window ∧ (joinIssue id s).power = s.power ∧ (joinIssue id s).flash = s.flash ∧
    (joinIssue id s).mediaOut = s.mediaOut ∧ (joinIssue id s).pending = s.pending ∧
    (joinIssue id s).front.link = s.front.link ∧ (joinIssue id s).cipher.run = s.cipher.run ∧
    (joinIssue id s).store.effective = s.store.effective := by
  refine ⟨?_, ?_, ?_, ?_, ?_, ?_, ?_, ?_, ?_, ?_, ?_, ?_⟩ <;> (unfold joinIssue; (repeat' split) <;> simp_all)

@[simp] theorem joinIfPulled_frame (id : Nat) (s : State) : (joinIfPulled id s).media = s.media ∧
    (joinIfPulled id s).keypad = s.keypad ∧ (joinIfPulled id s).cred = s.cred ∧ (joinIfPulled id s).ctl = s.ctl ∧
    (joinIfPulled id s).window = s.window ∧ (joinIfPulled id s).power = s.power ∧
    (joinIfPulled id s).flash = s.flash ∧ (joinIfPulled id s).mediaOut = s.mediaOut ∧
    (joinIfPulled id s).pending = s.pending ∧ (joinIfPulled id s).front.link = s.front.link ∧
    (joinIfPulled id s).cipher.run = s.cipher.run ∧ (joinIfPulled id s).store.effective = s.store.effective := by
  refine ⟨?_, ?_, ?_, ?_, ?_, ?_, ?_, ?_, ?_, ?_, ?_, ?_⟩ <;> (unfold joinIfPulled; (repeat' split) <;> simp_all)

@[simp] theorem failIssueQueue_frame (s : State) : (failIssueQueue s).media = s.media ∧
    (failIssueQueue s).keypad = s.keypad ∧ (failIssueQueue s).cred = s.cred ∧ (failIssueQueue s).ctl = s.ctl ∧
    (failIssueQueue s).window = s.window ∧ (failIssueQueue s).power = s.power ∧ (failIssueQueue s).flash = s.flash ∧
    (failIssueQueue s).mediaOut = s.mediaOut ∧ (failIssueQueue s).pending = s.pending ∧
    (failIssueQueue s).front.link = s.front.link ∧ (failIssueQueue s).cipher.run = s.cipher.run ∧
    (failIssueQueue s).store.effective = s.store.effective :=
  ⟨by unfold failIssueQueue; rw [foldl_keeps (fun s : State => s.media)] <;> simp,
   by unfold failIssueQueue; rw [foldl_keeps (fun s : State => s.keypad)] <;> simp,
   by unfold failIssueQueue; rw [foldl_keeps (fun s : State => s.cred)] <;> simp,
   by unfold failIssueQueue; rw [foldl_keeps (fun s : State => s.ctl)] <;> simp,
   by unfold failIssueQueue; rw [foldl_keeps (fun s : State => s.window)] <;> simp,
   by unfold failIssueQueue; rw [foldl_keeps (fun s : State => s.power)] <;> simp,
   by unfold failIssueQueue; rw [foldl_keeps (fun s : State => s.flash)] <;> simp,
   by unfold failIssueQueue; rw [foldl_keeps (fun s : State => s.mediaOut)] <;> simp,
   by unfold failIssueQueue; rw [foldl_keeps (fun s : State => s.pending)] <;> simp,
   by unfold failIssueQueue; rw [foldl_keeps (fun s : State => s.front.link)] <;> simp,
   by unfold failIssueQueue; rw [foldl_keeps (fun s : State => s.cipher.run)] <;> simp,
   by unfold failIssueQueue; rw [foldl_keeps (fun s : State => s.store.effective)] <;> simp⟩

@[simp] theorem releaseHolds_frame (serial : Nat) (s : State) : (releaseHolds serial s).media = s.media ∧
    (releaseHolds serial s).keypad = s.keypad ∧ (releaseHolds serial s).cred = s.cred ∧
    (releaseHolds serial s).ctl = s.ctl ∧ (releaseHolds serial s).window = s.window ∧
    (releaseHolds serial s).power = s.power ∧ (releaseHolds serial s).flash = s.flash ∧
    (releaseHolds serial s).mediaOut = s.mediaOut ∧ (releaseHolds serial s).pending = s.pending ∧
    (releaseHolds serial s).front.link = s.front.link ∧ (releaseHolds serial s).cipher.run = s.cipher.run ∧
    (releaseHolds serial s).store.effective = s.store.effective :=
  ⟨by unfold releaseHolds; rw [foldl_keeps (fun s : State => s.media)] <;> simp,
   by unfold releaseHolds; rw [foldl_keeps (fun s : State => s.keypad)] <;> simp,
   by unfold releaseHolds; rw [foldl_keeps (fun s : State => s.cred)] <;> simp,
   by unfold releaseHolds; rw [foldl_keeps (fun s : State => s.ctl)] <;> simp,
   by unfold releaseHolds; rw [foldl_keeps (fun s : State => s.window)] <;> simp,
   by unfold releaseHolds; rw [foldl_keeps (fun s : State => s.power)] <;> simp,
   by unfold releaseHolds; rw [foldl_keeps (fun s : State => s.flash)] <;> simp,
   by unfold releaseHolds; rw [foldl_keeps (fun s : State => s.mediaOut)] <;> simp,
   by unfold releaseHolds; rw [foldl_keeps (fun s : State => s.pending)] <;> simp,
   by unfold releaseHolds; rw [foldl_keeps (fun s : State => s.front.link)] <;> simp,
   by unfold releaseHolds; rw [foldl_keeps (fun s : State => s.cipher.run)] <;> simp,
   by unfold releaseHolds; rw [foldl_keeps (fun s : State => s.store.effective)] <;> simp⟩

@[simp] theorem endWaits_frame (picks : Txn → Bool) (s : State) : (endWaits picks s).media = s.media ∧
    (endWaits picks s).regions = s.regions ∧ (endWaits picks s).cipher = s.cipher ∧
    (endWaits picks s).erase = s.erase ∧ (endWaits picks s).keypad = s.keypad ∧ (endWaits picks s).cred = s.cred ∧
    (endWaits picks s).ctl = s.ctl ∧ (endWaits picks s).window = s.window ∧ (endWaits picks s).store = s.store ∧
    (endWaits picks s).power = s.power ∧ (endWaits picks s).flash = s.flash ∧
    (endWaits picks s).mediaOut = s.mediaOut ∧ (endWaits picks s).counters = s.counters ∧
    (endWaits picks s).pending = s.pending ∧ (endWaits picks s).front.link = s.front.link :=
  ⟨by unfold endWaits; rw [foldl_keeps (fun s : State => s.media)] <;> simp,
   by unfold endWaits; rw [foldl_keeps (fun s : State => s.regions)] <;> simp,
   by unfold endWaits; rw [foldl_keeps (fun s : State => s.cipher)] <;> simp,
   by unfold endWaits; rw [foldl_keeps (fun s : State => s.erase)] <;> simp,
   by unfold endWaits; rw [foldl_keeps (fun s : State => s.keypad)] <;> simp,
   by unfold endWaits; rw [foldl_keeps (fun s : State => s.cred)] <;> simp,
   by unfold endWaits; rw [foldl_keeps (fun s : State => s.ctl)] <;> simp,
   by unfold endWaits; rw [foldl_keeps (fun s : State => s.window)] <;> simp,
   by unfold endWaits; rw [foldl_keeps (fun s : State => s.store)] <;> simp,
   by unfold endWaits; rw [foldl_keeps (fun s : State => s.power)] <;> simp,
   by unfold endWaits; rw [foldl_keeps (fun s : State => s.flash)] <;> simp,
   by unfold endWaits; rw [foldl_keeps (fun s : State => s.mediaOut)] <;> simp,
   by unfold endWaits; rw [foldl_keeps (fun s : State => s.counters)] <;> simp,
   by unfold endWaits; rw [foldl_keeps (fun s : State => s.pending)] <;> simp,
   by unfold endWaits; rw [foldl_keeps (fun s : State => s.front.link)] <;> simp⟩

@[simp] theorem faultWaits_frame (s : State) : (faultWaits s).media = s.media ∧ (faultWaits s).regions = s.regions ∧
    (faultWaits s).cipher = s.cipher ∧ (faultWaits s).erase = s.erase ∧ (faultWaits s).keypad = s.keypad ∧
    (faultWaits s).cred = s.cred ∧ (faultWaits s).ctl = s.ctl ∧ (faultWaits s).window = s.window ∧
    (faultWaits s).store = s.store ∧ (faultWaits s).power = s.power ∧ (faultWaits s).flash = s.flash ∧
    (faultWaits s).mediaOut = s.mediaOut ∧ (faultWaits s).counters = s.counters ∧
    (faultWaits s).pending = s.pending ∧ (faultWaits s).front.link = s.front.link :=
  ⟨by unfold faultWaits; rw [foldl_keeps (fun s : State => s.media)] <;> simp,
   by unfold faultWaits; rw [foldl_keeps (fun s : State => s.regions)] <;> simp,
   by unfold faultWaits; rw [foldl_keeps (fun s : State => s.cipher)] <;> simp,
   by unfold faultWaits; rw [foldl_keeps (fun s : State => s.erase)] <;> simp,
   by unfold faultWaits; rw [foldl_keeps (fun s : State => s.keypad)] <;> simp,
   by unfold faultWaits; rw [foldl_keeps (fun s : State => s.cred)] <;> simp,
   by unfold faultWaits; rw [foldl_keeps (fun s : State => s.ctl)] <;> simp,
   by unfold faultWaits; rw [foldl_keeps (fun s : State => s.window)] <;> simp,
   by unfold faultWaits; rw [foldl_keeps (fun s : State => s.store)] <;> simp,
   by unfold faultWaits; rw [foldl_keeps (fun s : State => s.power)] <;> simp,
   by unfold faultWaits; rw [foldl_keeps (fun s : State => s.flash)] <;> simp,
   by unfold faultWaits; rw [foldl_keeps (fun s : State => s.mediaOut)] <;> simp,
   by unfold faultWaits; rw [foldl_keeps (fun s : State => s.counters)] <;> simp,
   by unfold faultWaits; rw [foldl_keeps (fun s : State => s.pending)] <;> simp,
   by unfold faultWaits; rw [foldl_keeps (fun s : State => s.front.link)] <;> simp⟩

@[simp] theorem beginEnding_frame (r : SweepResult) (s : State) : (beginEnding r s).front = s.front ∧
    (beginEnding r s).media = s.media ∧ (beginEnding r s).regions = s.regions ∧
    (beginEnding r s).filter = s.filter ∧ (beginEnding r s).cipher = s.cipher ∧
    (beginEnding r s).keypad = s.keypad ∧ (beginEnding r s).cred = s.cred ∧ (beginEnding r s).ctl = s.ctl ∧
    (beginEnding r s).window = s.window ∧ (beginEnding r s).power = s.power ∧ (beginEnding r s).flash = s.flash ∧
    (beginEnding r s).replies = s.replies ∧ (beginEnding r s).mediaOut = s.mediaOut ∧
    (beginEnding r s).counters = s.counters ∧ (beginEnding r s).pending = s.pending ∧
    (beginEnding r s).store.effective = s.store.effective := by
  refine ⟨?_, ?_, ?_, ?_, ?_, ?_, ?_, ?_, ?_, ?_, ?_, ?_, ?_, ?_, ?_, ?_⟩ <;> (unfold beginEnding; simp)

@[simp] theorem sweepDecide_frame (s : State) : (sweepDecide s).front = s.front ∧ (sweepDecide s).media = s.media ∧
    (sweepDecide s).regions = s.regions ∧ (sweepDecide s).filter = s.filter ∧ (sweepDecide s).cipher = s.cipher ∧
    (sweepDecide s).keypad = s.keypad ∧ (sweepDecide s).cred = s.cred ∧ (sweepDecide s).ctl = s.ctl ∧
    (sweepDecide s).window = s.window ∧ (sweepDecide s).power = s.power ∧ (sweepDecide s).flash = s.flash ∧
    (sweepDecide s).replies = s.replies ∧ (sweepDecide s).mediaOut = s.mediaOut ∧
    (sweepDecide s).counters = s.counters ∧ (sweepDecide s).pending = s.pending ∧
    (sweepDecide s).store.effective = s.store.effective := by
  refine ⟨?_, ?_, ?_, ?_, ?_, ?_, ?_, ?_, ?_, ?_, ?_, ?_, ?_, ?_, ?_, ?_⟩ <;> (unfold sweepDecide; (repeat' split) <;> simp_all)

@[simp] theorem endSweep_frame (x : Sweep) (s : State) : (endSweep x s).front = s.front ∧
    (endSweep x s).media = s.media ∧ (endSweep x s).regions = s.regions ∧ (endSweep x s).filter = s.filter ∧
    (endSweep x s).keypad = s.keypad ∧ (endSweep x s).cred = s.cred ∧ (endSweep x s).ctl = s.ctl ∧
    (endSweep x s).window = s.window ∧ (endSweep x s).power = s.power ∧ (endSweep x s).flash = s.flash ∧
    (endSweep x s).replies = s.replies ∧ (endSweep x s).mediaOut = s.mediaOut ∧ (endSweep x s).pending = s.pending ∧
    (endSweep x s).cipher.run = s.cipher.run ∧ (endSweep x s).store.effective = s.store.effective := by
  refine ⟨?_, ?_, ?_, ?_, ?_, ?_, ?_, ?_, ?_, ?_, ?_, ?_, ?_, ?_, ?_⟩ <;> (unfold endSweep; simp)

@[simp] theorem releaseChunkHolds_frame (s : State) : (releaseChunkHolds s).media = s.media ∧
    (releaseChunkHolds s).keypad = s.keypad ∧ (releaseChunkHolds s).cred = s.cred ∧
    (releaseChunkHolds s).ctl = s.ctl ∧ (releaseChunkHolds s).window = s.window ∧
    (releaseChunkHolds s).power = s.power ∧ (releaseChunkHolds s).flash = s.flash ∧
    (releaseChunkHolds s).mediaOut = s.mediaOut ∧ (releaseChunkHolds s).pending = s.pending ∧
    (releaseChunkHolds s).front.link = s.front.link ∧ (releaseChunkHolds s).cipher.run = s.cipher.run ∧
    (releaseChunkHolds s).store.effective = s.store.effective := by
  refine ⟨?_, ?_, ?_, ?_, ?_, ?_, ?_, ?_, ?_, ?_, ?_, ?_⟩ <;> (unfold releaseChunkHolds; (repeat' split) <;> simp_all)

@[simp] theorem cancelNow_frame (s : State) : (cancelNow s).media = s.media ∧ (cancelNow s).keypad = s.keypad ∧
    (cancelNow s).cred = s.cred ∧ (cancelNow s).ctl = s.ctl ∧ (cancelNow s).window = s.window ∧
    (cancelNow s).power = s.power ∧ (cancelNow s).flash = s.flash ∧ (cancelNow s).mediaOut = s.mediaOut ∧
    (cancelNow s).pending = s.pending ∧ (cancelNow s).front.link = s.front.link ∧
    (cancelNow s).cipher.run = s.cipher.run ∧ (cancelNow s).store.effective = s.store.effective := by
  refine ⟨?_, ?_, ?_, ?_, ?_, ?_, ?_, ?_, ?_, ?_, ?_, ?_⟩ <;> (unfold cancelNow; simp)

@[simp] theorem chunkOk_frame (x : Sweep) (s : State) : (chunkOk x s).media = s.media ∧
    (chunkOk x s).keypad = s.keypad ∧ (chunkOk x s).cred = s.cred ∧ (chunkOk x s).ctl = s.ctl ∧
    (chunkOk x s).window = s.window ∧ (chunkOk x s).power = s.power ∧ (chunkOk x s).flash = s.flash ∧
    (chunkOk x s).mediaOut = s.mediaOut ∧ (chunkOk x s).pending = s.pending ∧
    (chunkOk x s).front.link = s.front.link ∧ (chunkOk x s).cipher.run = s.cipher.run ∧
    (chunkOk x s).store.effective = s.store.effective := by
  refine ⟨?_, ?_, ?_, ?_, ?_, ?_, ?_, ?_, ?_, ?_, ?_, ?_⟩ <;> (unfold chunkOk; (repeat' split) <;> simp_all)

@[simp] theorem chunkFail_frame (x : Sweep) (k : Chunk) (s : State) : (chunkFail x k s).media = s.media ∧
    (chunkFail x k s).keypad = s.keypad ∧ (chunkFail x k s).cred = s.cred ∧ (chunkFail x k s).ctl = s.ctl ∧
    (chunkFail x k s).window = s.window ∧ (chunkFail x k s).power = s.power ∧ (chunkFail x k s).flash = s.flash ∧
    (chunkFail x k s).mediaOut = s.mediaOut ∧ (chunkFail x k s).pending = s.pending ∧
    (chunkFail x k s).front.link = s.front.link ∧ (chunkFail x k s).cipher.run = s.cipher.run ∧
    (chunkFail x k s).store.effective = s.store.effective := by
  refine ⟨?_, ?_, ?_, ?_, ?_, ?_, ?_, ?_, ?_, ?_, ?_, ?_⟩ <;> (unfold chunkFail; (repeat' split) <;> simp_all)

@[simp] theorem chunkResult_frame (serial : Nat) (ok : Bool) (s : State) :
    (chunkResult serial ok s).media = s.media ∧ (chunkResult serial ok s).keypad = s.keypad ∧
    (chunkResult serial ok s).cred = s.cred ∧ (chunkResult serial ok s).ctl = s.ctl ∧
    (chunkResult serial ok s).window = s.window ∧ (chunkResult serial ok s).power = s.power ∧
    (chunkResult serial ok s).flash = s.flash ∧ (chunkResult serial ok s).mediaOut = s.mediaOut ∧
    (chunkResult serial ok s).pending = s.pending ∧ (chunkResult serial ok s).front.link = s.front.link ∧
    (chunkResult serial ok s).cipher.run = s.cipher.run ∧
    (chunkResult serial ok s).store.effective = s.store.effective := by
  refine ⟨?_, ?_, ?_, ?_, ?_, ?_, ?_, ?_, ?_, ?_, ?_, ?_⟩ <;> (unfold chunkResult; (repeat' split) <;> simp_all)

@[simp] theorem addKeep_frame (r : Range) (s : State) : (addKeep r s).front = s.front ∧
    (addKeep r s).media = s.media ∧ (addKeep r s).regions = s.regions ∧ (addKeep r s).filter = s.filter ∧
    (addKeep r s).cipher = s.cipher ∧ (addKeep r s).keypad = s.keypad ∧ (addKeep r s).cred = s.cred ∧
    (addKeep r s).ctl = s.ctl ∧ (addKeep r s).window = s.window ∧ (addKeep r s).power = s.power ∧
    (addKeep r s).flash = s.flash ∧ (addKeep r s).replies = s.replies ∧ (addKeep r s).mediaOut = s.mediaOut ∧
    (addKeep r s).counters = s.counters ∧ (addKeep r s).pending = s.pending ∧
    (addKeep r s).store.effective = s.store.effective := by
  refine ⟨?_, ?_, ?_, ?_, ?_, ?_, ?_, ?_, ?_, ?_, ?_, ?_, ?_, ?_, ?_, ?_⟩ <;> (unfold addKeep; simp)

@[simp] theorem detachSweep_frame (s : State) : (detachSweep s).front = s.front ∧ (detachSweep s).media = s.media ∧
    (detachSweep s).regions = s.regions ∧ (detachSweep s).filter = s.filter ∧ (detachSweep s).cipher = s.cipher ∧
    (detachSweep s).keypad = s.keypad ∧ (detachSweep s).cred = s.cred ∧ (detachSweep s).ctl = s.ctl ∧
    (detachSweep s).window = s.window ∧ (detachSweep s).power = s.power ∧ (detachSweep s).flash = s.flash ∧
    (detachSweep s).replies = s.replies ∧ (detachSweep s).mediaOut = s.mediaOut ∧
    (detachSweep s).counters = s.counters ∧ (detachSweep s).pending = s.pending ∧
    (detachSweep s).store.effective = s.store.effective := by
  refine ⟨?_, ?_, ?_, ?_, ?_, ?_, ?_, ?_, ?_, ?_, ?_, ?_, ?_, ?_, ?_, ?_⟩ <;> (unfold detachSweep; (repeat' split) <;> simp_all)

@[simp] theorem sweepAtReady_frame (s : State) : (sweepAtReady s).media = s.media ∧
    (sweepAtReady s).keypad = s.keypad ∧ (sweepAtReady s).cred = s.cred ∧ (sweepAtReady s).ctl = s.ctl ∧
    (sweepAtReady s).window = s.window ∧ (sweepAtReady s).power = s.power ∧ (sweepAtReady s).flash = s.flash ∧
    (sweepAtReady s).mediaOut = s.mediaOut ∧ (sweepAtReady s).pending = s.pending ∧
    (sweepAtReady s).front.link = s.front.link ∧ (sweepAtReady s).cipher.run = s.cipher.run ∧
    (sweepAtReady s).store.effective = s.store.effective := by
  refine ⟨?_, ?_, ?_, ?_, ?_, ?_, ?_, ?_, ?_, ?_, ?_, ?_⟩ <;> (unfold sweepAtReady; (repeat' split) <;> simp_all)

@[simp] theorem releaseIdleHolds_frame (s : State) : (releaseIdleHolds s).media = s.media ∧
    (releaseIdleHolds s).keypad = s.keypad ∧ (releaseIdleHolds s).cred = s.cred ∧ (releaseIdleHolds s).ctl = s.ctl ∧
    (releaseIdleHolds s).window = s.window ∧ (releaseIdleHolds s).power = s.power ∧
    (releaseIdleHolds s).flash = s.flash ∧ (releaseIdleHolds s).mediaOut = s.mediaOut ∧
    (releaseIdleHolds s).pending = s.pending ∧ (releaseIdleHolds s).front.link = s.front.link ∧
    (releaseIdleHolds s).cipher.run = s.cipher.run ∧ (releaseIdleHolds s).store.effective = s.store.effective := by
  refine ⟨?_, ?_, ?_, ?_, ?_, ?_, ?_, ?_, ?_, ?_, ?_, ?_⟩ <;> (unfold releaseIdleHolds; (repeat' split) <;> simp_all)

@[simp] theorem abortTest_frame (s : State) : (abortTest s).front = s.front ∧ (abortTest s).media = s.media ∧
    (abortTest s).regions = s.regions ∧ (abortTest s).erase = s.erase ∧ (abortTest s).keypad = s.keypad ∧
    (abortTest s).cred = s.cred ∧ (abortTest s).ctl = s.ctl ∧ (abortTest s).window = s.window ∧
    (abortTest s).store = s.store ∧ (abortTest s).power = s.power ∧ (abortTest s).flash = s.flash ∧
    (abortTest s).replies = s.replies ∧ (abortTest s).mediaOut = s.mediaOut ∧ (abortTest s).counters = s.counters ∧
    (abortTest s).pending = s.pending ∧ (abortTest s).cipher.slots = s.cipher.slots ∧
    (abortTest s).cipher.run = s.cipher.run := by
  refine ⟨?_, ?_, ?_, ?_, ?_, ?_, ?_, ?_, ?_, ?_, ?_, ?_, ?_, ?_, ?_, ?_, ?_⟩ <;> (unfold abortTest; (repeat' split) <;> simp_all)

@[simp] theorem endPass_frame (s : State) : (endPass s).front = s.front ∧ (endPass s).media = s.media ∧
    (endPass s).regions = s.regions ∧ (endPass s).filter = s.filter ∧ (endPass s).erase = s.erase ∧
    (endPass s).keypad = s.keypad ∧ (endPass s).cred = s.cred ∧ (endPass s).ctl = s.ctl ∧
    (endPass s).window = s.window ∧ (endPass s).store = s.store ∧ (endPass s).power = s.power ∧
    (endPass s).flash = s.flash ∧ (endPass s).replies = s.replies ∧ (endPass s).mediaOut = s.mediaOut ∧
    (endPass s).counters = s.counters ∧ (endPass s).pending = s.pending ∧
    (endPass s).cipher.slots = s.cipher.slots ∧ (endPass s).cipher.run = s.cipher.run := by
  refine ⟨?_, ?_, ?_, ?_, ?_, ?_, ?_, ?_, ?_, ?_, ?_, ?_, ?_, ?_, ?_, ?_, ?_, ?_⟩ <;> (unfold endPass; dsimp only; (repeat' split) <;> (first | rfl | simp | simp_all))

@[simp] theorem testResult_frame (run : Nat) (kind : Kind) (ok : Bool) (data : List Content) (s : State) :
    (testResult run kind ok data s).front = s.front ∧ (testResult run kind ok data s).media = s.media ∧
    (testResult run kind ok data s).regions = s.regions ∧ (testResult run kind ok data s).filter = s.filter ∧
    (testResult run kind ok data s).erase = s.erase ∧ (testResult run kind ok data s).keypad = s.keypad ∧
    (testResult run kind ok data s).cred = s.cred ∧ (testResult run kind ok data s).ctl = s.ctl ∧
    (testResult run kind ok data s).window = s.window ∧ (testResult run kind ok data s).store = s.store ∧
    (testResult run kind ok data s).power = s.power ∧ (testResult run kind ok data s).flash = s.flash ∧
    (testResult run kind ok data s).replies = s.replies ∧ (testResult run kind ok data s).mediaOut = s.mediaOut ∧
    (testResult run kind ok data s).pending = s.pending ∧
    (testResult run kind ok data s).cipher.slots = s.cipher.slots ∧
    (testResult run kind ok data s).cipher.run = s.cipher.run := by
  refine ⟨?_, ?_, ?_, ?_, ?_, ?_, ?_, ?_, ?_, ?_, ?_, ?_, ?_, ?_, ?_, ?_, ?_⟩ <;> (unfold testResult; dsimp only; (repeat' split) <;> (first | rfl | simp | simp_all))

@[simp] theorem cancelEnrollAtLock_frame (s : State) : (cancelEnrollAtLock s).front = s.front ∧
    (cancelEnrollAtLock s).media = s.media ∧ (cancelEnrollAtLock s).regions = s.regions ∧
    (cancelEnrollAtLock s).filter = s.filter ∧ (cancelEnrollAtLock s).cipher = s.cipher ∧
    (cancelEnrollAtLock s).erase = s.erase ∧ (cancelEnrollAtLock s).ctl = s.ctl ∧
    (cancelEnrollAtLock s).window = s.window ∧ (cancelEnrollAtLock s).store = s.store ∧
    (cancelEnrollAtLock s).power = s.power ∧ (cancelEnrollAtLock s).flash = s.flash ∧
    (cancelEnrollAtLock s).replies = s.replies ∧ (cancelEnrollAtLock s).mediaOut = s.mediaOut ∧
    (cancelEnrollAtLock s).counters = s.counters ∧ (cancelEnrollAtLock s).pending = s.pending ∧
    (cancelEnrollAtLock s).cred.n = s.cred.n ∧ (cancelEnrollAtLock s).cred.profiles = s.cred.profiles := by
  refine ⟨?_, ?_, ?_, ?_, ?_, ?_, ?_, ?_, ?_, ?_, ?_, ?_, ?_, ?_, ?_, ?_, ?_⟩ <;> (unfold cancelEnrollAtLock; (repeat' split) <;> simp_all)

@[simp] theorem lockDrive_frame (s : State) : (lockDrive s).front = s.front ∧ (lockDrive s).media = s.media ∧
    (lockDrive s).regions = s.regions ∧ (lockDrive s).filter = s.filter ∧ (lockDrive s).erase = s.erase ∧
    (lockDrive s).window = s.window ∧ (lockDrive s).store = s.store ∧ (lockDrive s).power = s.power ∧
    (lockDrive s).flash = s.flash ∧ (lockDrive s).replies = s.replies ∧ (lockDrive s).mediaOut = s.mediaOut ∧
    (lockDrive s).counters = s.counters ∧ (lockDrive s).pending = s.pending ∧
    (lockDrive s).cipher.run = s.cipher.run ∧ (lockDrive s).cred.n = s.cred.n ∧
    (lockDrive s).cred.profiles = s.cred.profiles ∧ (lockDrive s).ctl.attached = s.ctl.attached := by
  refine ⟨?_, ?_, ?_, ?_, ?_, ?_, ?_, ?_, ?_, ?_, ?_, ?_, ?_, ?_, ?_, ?_, ?_⟩ <;> (unfold lockDrive; simp)

@[simp] theorem lockTrigger_frame (s : State) : (lockTrigger s).front = s.front ∧ (lockTrigger s).media = s.media ∧
    (lockTrigger s).regions = s.regions ∧ (lockTrigger s).filter = s.filter ∧ (lockTrigger s).erase = s.erase ∧
    (lockTrigger s).window = s.window ∧ (lockTrigger s).store = s.store ∧ (lockTrigger s).power = s.power ∧
    (lockTrigger s).flash = s.flash ∧ (lockTrigger s).replies = s.replies ∧ (lockTrigger s).mediaOut = s.mediaOut ∧
    (lockTrigger s).counters = s.counters ∧ (lockTrigger s).pending = s.pending ∧
    (lockTrigger s).cipher.run = s.cipher.run ∧ (lockTrigger s).cred.n = s.cred.n ∧
    (lockTrigger s).cred.profiles = s.cred.profiles ∧ (lockTrigger s).ctl.attached = s.ctl.attached := by
  refine ⟨?_, ?_, ?_, ?_, ?_, ?_, ?_, ?_, ?_, ?_, ?_, ?_, ?_, ?_, ?_, ?_, ?_⟩ <;> (unfold lockTrigger; (repeat' split) <;> simp_all)

@[simp] theorem openDrive_frame (p : ProfIx) (accept : Bool) (s : State) : (openDrive p accept s).front = s.front ∧
    (openDrive p accept s).media = s.media ∧ (openDrive p accept s).regions = s.regions ∧
    (openDrive p accept s).filter = s.filter ∧ (openDrive p accept s).erase = s.erase ∧
    (openDrive p accept s).cred = s.cred ∧ (openDrive p accept s).window = s.window ∧
    (openDrive p accept s).store = s.store ∧ (openDrive p accept s).power = s.power ∧
    (openDrive p accept s).flash = s.flash ∧ (openDrive p accept s).replies = s.replies ∧
    (openDrive p accept s).mediaOut = s.mediaOut ∧ (openDrive p accept s).counters = s.counters ∧
    (openDrive p accept s).pending = s.pending ∧ (openDrive p accept s).cipher.run = s.cipher.run ∧
    (openDrive p accept s).ctl.attached = s.ctl.attached := by
  refine ⟨?_, ?_, ?_, ?_, ?_, ?_, ?_, ?_, ?_, ?_, ?_, ?_, ?_, ?_, ?_, ?_⟩ <;> (unfold openDrive; dsimp only; (repeat' split) <;> (first | rfl | simp | simp_all))

@[simp] theorem enterFault_frame (c : FaultCause) (s : State) : (enterFault c s).media = s.media ∧
    (enterFault c s).window = s.window ∧ (enterFault c s).power = s.power ∧ (enterFault c s).flash = s.flash ∧
    (enterFault c s).mediaOut = s.mediaOut ∧ (enterFault c s).pending = s.pending ∧
    (enterFault c s).front.link = s.front.link ∧ (enterFault c s).cipher.run = s.cipher.run ∧
    (enterFault c s).cred.n = s.cred.n ∧ (enterFault c s).cred.profiles = s.cred.profiles ∧
    (enterFault c s).ctl.attached = s.ctl.attached ∧ (enterFault c s).store.effective = s.store.effective := by
  refine ⟨?_, ?_, ?_, ?_, ?_, ?_, ?_, ?_, ?_, ?_, ?_, ?_⟩ <;> (unfold enterFault; (repeat' split) <;> simp_all)

@[simp] theorem cancelEnrollAtWipe_frame (s : State) : (cancelEnrollAtWipe s).front = s.front ∧
    (cancelEnrollAtWipe s).media = s.media ∧ (cancelEnrollAtWipe s).regions = s.regions ∧
    (cancelEnrollAtWipe s).filter = s.filter ∧ (cancelEnrollAtWipe s).cipher = s.cipher ∧
    (cancelEnrollAtWipe s).erase = s.erase ∧ (cancelEnrollAtWipe s).keypad = s.keypad ∧
    (cancelEnrollAtWipe s).ctl = s.ctl ∧ (cancelEnrollAtWipe s).window = s.window ∧
    (cancelEnrollAtWipe s).store = s.store ∧ (cancelEnrollAtWipe s).power = s.power ∧
    (cancelEnrollAtWipe s).flash = s.flash ∧ (cancelEnrollAtWipe s).replies = s.replies ∧
    (cancelEnrollAtWipe s).mediaOut = s.mediaOut ∧ (cancelEnrollAtWipe s).counters = s.counters ∧
    (cancelEnrollAtWipe s).pending = s.pending ∧ (cancelEnrollAtWipe s).cred.n = s.cred.n ∧
    (cancelEnrollAtWipe s).cred.profiles = s.cred.profiles := by
  refine ⟨?_, ?_, ?_, ?_, ?_, ?_, ?_, ?_, ?_, ?_, ?_, ?_, ?_, ?_, ?_, ?_, ?_, ?_⟩ <;> (unfold cancelEnrollAtWipe; (repeat' split) <;> simp_all)

@[simp] theorem wipeTable_frame (s : State) : (wipeTable s).front = s.front ∧ (wipeTable s).media = s.media ∧
    (wipeTable s).erase = s.erase ∧ (wipeTable s).keypad = s.keypad ∧ (wipeTable s).cred = s.cred ∧
    (wipeTable s).ctl = s.ctl ∧ (wipeTable s).window = s.window ∧ (wipeTable s).store = s.store ∧
    (wipeTable s).power = s.power ∧ (wipeTable s).flash = s.flash ∧ (wipeTable s).replies = s.replies ∧
    (wipeTable s).mediaOut = s.mediaOut ∧ (wipeTable s).counters = s.counters ∧ (wipeTable s).pending = s.pending ∧
    (wipeTable s).cipher.run = s.cipher.run := by
  refine ⟨?_, ?_, ?_, ?_, ?_, ?_, ?_, ?_, ?_, ?_, ?_, ?_, ?_, ?_, ?_⟩ <;> (unfold wipeTable; simp)

@[simp] theorem startWipe_frame (s : State) : (startWipe s).media = s.media ∧ (startWipe s).window = s.window ∧
    (startWipe s).power = s.power ∧ (startWipe s).flash = s.flash ∧ (startWipe s).mediaOut = s.mediaOut ∧
    (startWipe s).pending = s.pending ∧ (startWipe s).front.link = s.front.link ∧
    (startWipe s).cipher.run = s.cipher.run ∧ (startWipe s).cred.n = s.cred.n ∧
    (startWipe s).cred.profiles = s.cred.profiles ∧ (startWipe s).ctl.attached = s.ctl.attached ∧
    (startWipe s).store.effective = s.store.effective := by
  refine ⟨?_, ?_, ?_, ?_, ?_, ?_, ?_, ?_, ?_, ?_, ?_, ?_⟩ <;> (unfold startWipe; (repeat' split) <;> simp_all)

@[simp] theorem wipeRequest_frame (k : Nat) (s : State) : (wipeRequest k s).front = s.front ∧
    (wipeRequest k s).media = s.media ∧ (wipeRequest k s).regions = s.regions ∧
    (wipeRequest k s).filter = s.filter ∧ (wipeRequest k s).cipher = s.cipher ∧ (wipeRequest k s).erase = s.erase ∧
    (wipeRequest k s).keypad = s.keypad ∧ (wipeRequest k s).window = s.window ∧ (wipeRequest k s).power = s.power ∧
    (wipeRequest k s).flash = s.flash ∧ (wipeRequest k s).replies = s.replies ∧
    (wipeRequest k s).mediaOut = s.mediaOut ∧ (wipeRequest k s).counters = s.counters ∧
    (wipeRequest k s).pending = s.pending ∧ (wipeRequest k s).cred.profiles = s.cred.profiles ∧
    (wipeRequest k s).ctl.drive = s.ctl.drive ∧ (wipeRequest k s).ctl.openProfile = s.ctl.openProfile ∧
    (wipeRequest k s).ctl.attached = s.ctl.attached ∧ (wipeRequest k s).store.effective = s.store.effective := by
  refine ⟨?_, ?_, ?_, ?_, ?_, ?_, ?_, ?_, ?_, ?_, ?_, ?_, ?_, ?_, ?_, ?_, ?_, ?_, ?_⟩ <;> (unfold wipeRequest; (repeat' split) <;> simp_all)

@[simp] theorem wipeStepDone_frame (k : Nat) (s : State) : (wipeStepDone k s).media = s.media ∧
    (wipeStepDone k s).regions = s.regions ∧ (wipeStepDone k s).cipher = s.cipher ∧
    (wipeStepDone k s).erase = s.erase ∧ (wipeStepDone k s).window = s.window ∧ (wipeStepDone k s).power = s.power ∧
    (wipeStepDone k s).flash = s.flash ∧ (wipeStepDone k s).mediaOut = s.mediaOut ∧
    (wipeStepDone k s).counters = s.counters ∧ (wipeStepDone k s).pending = s.pending ∧
    (wipeStepDone k s).front.link = s.front.link ∧ (wipeStepDone k s).ctl.openProfile = s.ctl.openProfile ∧
    (wipeStepDone k s).ctl.attached = s.ctl.attached ∧ (wipeStepDone k s).store.effective = s.store.effective := by
  refine ⟨?_, ?_, ?_, ?_, ?_, ?_, ?_, ?_, ?_, ?_, ?_, ?_, ?_, ?_⟩ <;> (unfold wipeStepDone; (repeat' split) <;> simp_all)

@[simp] theorem startEvaluation_frame (digits : List Digit) (s : State) :
    (startEvaluation digits s).front = s.front ∧ (startEvaluation digits s).media = s.media ∧
    (startEvaluation digits s).regions = s.regions ∧ (startEvaluation digits s).filter = s.filter ∧
    (startEvaluation digits s).cipher = s.cipher ∧ (startEvaluation digits s).erase = s.erase ∧
    (startEvaluation digits s).window = s.window ∧ (startEvaluation digits s).power = s.power ∧
    (startEvaluation digits s).flash = s.flash ∧ (startEvaluation digits s).replies = s.replies ∧
    (startEvaluation digits s).mediaOut = s.mediaOut ∧ (startEvaluation digits s).counters = s.counters ∧
    (startEvaluation digits s).pending = s.pending ∧ (startEvaluation digits s).cred.profiles = s.cred.profiles ∧
    (startEvaluation digits s).ctl.openProfile = s.ctl.openProfile ∧
    (startEvaluation digits s).ctl.attached = s.ctl.attached ∧
    (startEvaluation digits s).store.effective = s.store.effective := by
  refine ⟨?_, ?_, ?_, ?_, ?_, ?_, ?_, ?_, ?_, ?_, ?_, ?_, ?_, ?_, ?_, ?_, ?_⟩ <;> (unfold startEvaluation; simp)

@[simp] theorem countStored_frame (s : State) : (countStored s).front = s.front ∧ (countStored s).media = s.media ∧
    (countStored s).regions = s.regions ∧ (countStored s).filter = s.filter ∧ (countStored s).cipher = s.cipher ∧
    (countStored s).erase = s.erase ∧ (countStored s).keypad = s.keypad ∧ (countStored s).ctl = s.ctl ∧
    (countStored s).window = s.window ∧ (countStored s).store = s.store ∧ (countStored s).power = s.power ∧
    (countStored s).flash = s.flash ∧ (countStored s).replies = s.replies ∧ (countStored s).mediaOut = s.mediaOut ∧
    (countStored s).counters = s.counters ∧ (countStored s).pending = s.pending ∧
    (countStored s).cred.n = s.cred.n ∧ (countStored s).cred.profiles = s.cred.profiles := by
  refine ⟨?_, ?_, ?_, ?_, ?_, ?_, ?_, ?_, ?_, ?_, ?_, ?_, ?_, ?_, ?_, ?_, ?_, ?_⟩ <;> (unfold countStored; (repeat' split) <;> simp_all)

@[simp] theorem enterBackoff_frame (s : State) : (enterBackoff s).front = s.front ∧
    (enterBackoff s).media = s.media ∧ (enterBackoff s).regions = s.regions ∧ (enterBackoff s).filter = s.filter ∧
    (enterBackoff s).cipher = s.cipher ∧ (enterBackoff s).erase = s.erase ∧ (enterBackoff s).window = s.window ∧
    (enterBackoff s).store = s.store ∧ (enterBackoff s).power = s.power ∧ (enterBackoff s).flash = s.flash ∧
    (enterBackoff s).replies = s.replies ∧ (enterBackoff s).mediaOut = s.mediaOut ∧
    (enterBackoff s).counters = s.counters ∧ (enterBackoff s).pending = s.pending ∧
    (enterBackoff s).cred.n = s.cred.n ∧ (enterBackoff s).cred.profiles = s.cred.profiles ∧
    (enterBackoff s).ctl.openProfile = s.ctl.openProfile ∧ (enterBackoff s).ctl.attached = s.ctl.attached := by
  refine ⟨?_, ?_, ?_, ?_, ?_, ?_, ?_, ?_, ?_, ?_, ?_, ?_, ?_, ?_, ?_, ?_, ?_, ?_⟩ <;> (unfold enterBackoff; simp)

@[simp] theorem evaluationResult_frame (digits : List Digit) (s : State) :
    (evaluationResult digits s).media = s.media ∧ (evaluationResult digits s).window = s.window ∧
    (evaluationResult digits s).power = s.power ∧ (evaluationResult digits s).flash = s.flash ∧
    (evaluationResult digits s).mediaOut = s.mediaOut ∧ (evaluationResult digits s).pending = s.pending ∧
    (evaluationResult digits s).front.link = s.front.link ∧ (evaluationResult digits s).cipher.run = s.cipher.run ∧
    (evaluationResult digits s).cred.profiles = s.cred.profiles ∧
    (evaluationResult digits s).ctl.attached = s.ctl.attached ∧
    (evaluationResult digits s).store.effective = s.store.effective := by
  refine ⟨?_, ?_, ?_, ?_, ?_, ?_, ?_, ?_, ?_, ?_, ?_⟩ <;> (unfold evaluationResult; (repeat' split) <;> simp_all)

@[simp] theorem resetStored_frame (s : State) : (resetStored s).front = s.front ∧ (resetStored s).media = s.media ∧
    (resetStored s).regions = s.regions ∧ (resetStored s).filter = s.filter ∧ (resetStored s).erase = s.erase ∧
    (resetStored s).window = s.window ∧ (resetStored s).store = s.store ∧ (resetStored s).power = s.power ∧
    (resetStored s).flash = s.flash ∧ (resetStored s).replies = s.replies ∧ (resetStored s).mediaOut = s.mediaOut ∧
    (resetStored s).counters = s.counters ∧ (resetStored s).pending = s.pending ∧
    (resetStored s).cipher.run = s.cipher.run ∧ (resetStored s).cred.n = s.cred.n ∧
    (resetStored s).cred.profiles = s.cred.profiles ∧ (resetStored s).ctl.attached = s.ctl.attached := by
  refine ⟨?_, ?_, ?_, ?_, ?_, ?_, ?_, ?_, ?_, ?_, ?_, ?_, ?_, ?_, ?_, ?_, ?_⟩ <;> (unfold resetStored; (repeat' split) <;> simp_all)

@[simp] theorem startEnroll_frame (target : ProfIx) (kind : ProfileKind) (o : Origin) (step : EnrollStep) (s : State) :
    (startEnroll target kind o step s).front = s.front ∧ (startEnroll target kind o step s).media = s.media ∧
    (startEnroll target kind o step s).regions = s.regions ∧ (startEnroll target kind o step s).filter = s.filter ∧
    (startEnroll target kind o step s).cipher = s.cipher ∧ (startEnroll target kind o step s).erase = s.erase ∧
    (startEnroll target kind o step s).window = s.window ∧ (startEnroll target kind o step s).store = s.store ∧
    (startEnroll target kind o step s).power = s.power ∧ (startEnroll target kind o step s).flash = s.flash ∧
    (startEnroll target kind o step s).replies = s.replies ∧
    (startEnroll target kind o step s).mediaOut = s.mediaOut ∧
    (startEnroll target kind o step s).counters = s.counters ∧
    (startEnroll target kind o step s).pending = s.pending ∧ (startEnroll target kind o step s).cred.n = s.cred.n ∧
    (startEnroll target kind o step s).cred.profiles = s.cred.profiles ∧
    (startEnroll target kind o step s).ctl.openProfile = s.ctl.openProfile ∧
    (startEnroll target kind o step s).ctl.attached = s.ctl.attached := by
  refine ⟨?_, ?_, ?_, ?_, ?_, ?_, ?_, ?_, ?_, ?_, ?_, ?_, ?_, ?_, ?_, ?_, ?_, ?_⟩ <;> (unfold startEnroll; simp)

@[simp] theorem failEnroll_frame (e : Enroll) (r : EnrollResult) (s : State) : (failEnroll e r s).front = s.front ∧
    (failEnroll e r s).media = s.media ∧ (failEnroll e r s).regions = s.regions ∧
    (failEnroll e r s).filter = s.filter ∧ (failEnroll e r s).cipher = s.cipher ∧
    (failEnroll e r s).erase = s.erase ∧ (failEnroll e r s).window = s.window ∧ (failEnroll e r s).store = s.store ∧
    (failEnroll e r s).power = s.power ∧ (failEnroll e r s).flash = s.flash ∧
    (failEnroll e r s).replies = s.replies ∧ (failEnroll e r s).mediaOut = s.mediaOut ∧
    (failEnroll e r s).counters = s.counters ∧ (failEnroll e r s).pending = s.pending ∧
    (failEnroll e r s).cred.n = s.cred.n ∧ (failEnroll e r s).cred.profiles = s.cred.profiles ∧
    (failEnroll e r s).ctl.openProfile = s.ctl.openProfile ∧ (failEnroll e r s).ctl.attached = s.ctl.attached := by
  refine ⟨?_, ?_, ?_, ?_, ?_, ?_, ?_, ?_, ?_, ?_, ?_, ?_, ?_, ?_, ?_, ?_, ?_, ?_⟩ <;> (unfold failEnroll; simp)

@[simp] theorem firstEntry_frame (e : Enroll) (digits : List Digit) (s : State) :
    (firstEntry e digits s).front = s.front ∧ (firstEntry e digits s).media = s.media ∧
    (firstEntry e digits s).regions = s.regions ∧ (firstEntry e digits s).filter = s.filter ∧
    (firstEntry e digits s).cipher = s.cipher ∧ (firstEntry e digits s).erase = s.erase ∧
    (firstEntry e digits s).window = s.window ∧ (firstEntry e digits s).store = s.store ∧
    (firstEntry e digits s).power = s.power ∧ (firstEntry e digits s).flash = s.flash ∧
    (firstEntry e digits s).replies = s.replies ∧ (firstEntry e digits s).mediaOut = s.mediaOut ∧
    (firstEntry e digits s).counters = s.counters ∧ (firstEntry e digits s).pending = s.pending ∧
    (firstEntry e digits s).cred.n = s.cred.n ∧ (firstEntry e digits s).cred.profiles = s.cred.profiles ∧
    (firstEntry e digits s).ctl.openProfile = s.ctl.openProfile ∧
    (firstEntry e digits s).ctl.attached = s.ctl.attached := by
  refine ⟨?_, ?_, ?_, ?_, ?_, ?_, ?_, ?_, ?_, ?_, ?_, ?_, ?_, ?_, ?_, ?_, ?_, ?_⟩ <;> (unfold firstEntry; (repeat' split) <;> simp_all)

@[simp] theorem secondEntry_frame (e : Enroll) (digits : List Digit) (s : State) :
    (secondEntry e digits s).front = s.front ∧ (secondEntry e digits s).media = s.media ∧
    (secondEntry e digits s).regions = s.regions ∧ (secondEntry e digits s).filter = s.filter ∧
    (secondEntry e digits s).cipher = s.cipher ∧ (secondEntry e digits s).erase = s.erase ∧
    (secondEntry e digits s).window = s.window ∧ (secondEntry e digits s).store = s.store ∧
    (secondEntry e digits s).power = s.power ∧ (secondEntry e digits s).flash = s.flash ∧
    (secondEntry e digits s).replies = s.replies ∧ (secondEntry e digits s).mediaOut = s.mediaOut ∧
    (secondEntry e digits s).counters = s.counters ∧ (secondEntry e digits s).pending = s.pending ∧
    (secondEntry e digits s).cred.n = s.cred.n ∧ (secondEntry e digits s).cred.profiles = s.cred.profiles ∧
    (secondEntry e digits s).ctl.openProfile = s.ctl.openProfile ∧
    (secondEntry e digits s).ctl.attached = s.ctl.attached := by
  refine ⟨?_, ?_, ?_, ?_, ?_, ?_, ?_, ?_, ?_, ?_, ?_, ?_, ?_, ?_, ?_, ?_, ?_, ?_⟩ <;> (unfold secondEntry; (repeat' split) <;> simp_all)

@[simp] theorem succeedEnroll_frame (e : Enroll) (digits : List Digit) (s : State) :
    (succeedEnroll e digits s).front = s.front ∧ (succeedEnroll e digits s).media = s.media ∧
    (succeedEnroll e digits s).filter = s.filter ∧ (succeedEnroll e digits s).erase = s.erase ∧
    (succeedEnroll e digits s).keypad = s.keypad ∧ (succeedEnroll e digits s).ctl = s.ctl ∧
    (succeedEnroll e digits s).window = s.window ∧ (succeedEnroll e digits s).power = s.power ∧
    (succeedEnroll e digits s).flash = s.flash ∧ (succeedEnroll e digits s).replies = s.replies ∧
    (succeedEnroll e digits s).mediaOut = s.mediaOut ∧ (succeedEnroll e digits s).pending = s.pending ∧
    (succeedEnroll e digits s).cipher.run = s.cipher.run ∧ (succeedEnroll e digits s).cred.n = s.cred.n ∧
    (succeedEnroll e digits s).store.effective = s.store.effective := by
  refine ⟨?_, ?_, ?_, ?_, ?_, ?_, ?_, ?_, ?_, ?_, ?_, ?_, ?_, ?_, ?_⟩ <;> (unfold succeedEnroll; (repeat' split) <;> simp_all)

@[simp] theorem duplicateResult_frame (e : Enroll) (digits : List Digit) (s : State) :
    (duplicateResult e digits s).front = s.front ∧ (duplicateResult e digits s).media = s.media ∧
    (duplicateResult e digits s).filter = s.filter ∧ (duplicateResult e digits s).erase = s.erase ∧
    (duplicateResult e digits s).window = s.window ∧ (duplicateResult e digits s).power = s.power ∧
    (duplicateResult e digits s).flash = s.flash ∧ (duplicateResult e digits s).replies = s.replies ∧
    (duplicateResult e digits s).mediaOut = s.mediaOut ∧ (duplicateResult e digits s).pending = s.pending ∧
    (duplicateResult e digits s).cipher.run = s.cipher.run ∧ (duplicateResult e digits s).cred.n = s.cred.n ∧
    (duplicateResult e digits s).ctl.openProfile = s.ctl.openProfile ∧
    (duplicateResult e digits s).ctl.attached = s.ctl.attached ∧
    (duplicateResult e digits s).store.effective = s.store.effective := by
  refine ⟨?_, ?_, ?_, ?_, ?_, ?_, ?_, ?_, ?_, ?_, ?_, ?_, ?_, ?_, ?_⟩ <;> (unfold duplicateResult; (repeat' split) <;> simp_all)

@[simp] theorem finishEnroll_frame (e : Enroll) (s : State) : (finishEnroll e s).front = s.front ∧
    (finishEnroll e s).media = s.media ∧ (finishEnroll e s).regions = s.regions ∧
    (finishEnroll e s).filter = s.filter ∧ (finishEnroll e s).erase = s.erase ∧
    (finishEnroll e s).window = s.window ∧ (finishEnroll e s).store = s.store ∧ (finishEnroll e s).power = s.power ∧
    (finishEnroll e s).flash = s.flash ∧ (finishEnroll e s).replies = s.replies ∧
    (finishEnroll e s).mediaOut = s.mediaOut ∧ (finishEnroll e s).counters = s.counters ∧
    (finishEnroll e s).pending = s.pending ∧ (finishEnroll e s).cipher.run = s.cipher.run ∧
    (finishEnroll e s).cred.n = s.cred.n ∧ (finishEnroll e s).cred.profiles = s.cred.profiles ∧
    (finishEnroll e s).ctl.attached = s.ctl.attached := by
  refine ⟨?_, ?_, ?_, ?_, ?_, ?_, ?_, ?_, ?_, ?_, ?_, ?_, ?_, ?_, ?_, ?_, ?_⟩ <;> (unfold finishEnroll; (repeat' split) <;> simp_all)

@[simp] theorem enrollStored_frame (profile : Bool) (s : State) : (enrollStored profile s).front = s.front ∧
    (enrollStored profile s).media = s.media ∧ (enrollStored profile s).regions = s.regions ∧
    (enrollStored profile s).filter = s.filter ∧ (enrollStored profile s).erase = s.erase ∧
    (enrollStored profile s).window = s.window ∧ (enrollStored profile s).store = s.store ∧
    (enrollStored profile s).power = s.power ∧ (enrollStored profile s).flash = s.flash ∧
    (enrollStored profile s).replies = s.replies ∧ (enrollStored profile s).mediaOut = s.mediaOut ∧
    (enrollStored profile s).counters = s.counters ∧ (enrollStored profile s).pending = s.pending ∧
    (enrollStored profile s).cipher.run = s.cipher.run ∧ (enrollStored profile s).cred.n = s.cred.n ∧
    (enrollStored profile s).cred.profiles = s.cred.profiles ∧
    (enrollStored profile s).ctl.attached = s.ctl.attached := by
  refine ⟨?_, ?_, ?_, ?_, ?_, ?_, ?_, ?_, ?_, ?_, ?_, ?_, ?_, ?_, ?_, ?_, ?_⟩ <;> (unfold enrollStored; dsimp only; (repeat' split) <;> (first | rfl | simp | simp_all))

@[simp] theorem removalStored_frame (r : ProfIx) (s : State) : (removalStored r s).front = s.front ∧
    (removalStored r s).media = s.media ∧ (removalStored r s).filter = s.filter ∧
    (removalStored r s).erase = s.erase ∧ (removalStored r s).keypad = s.keypad ∧ (removalStored r s).ctl = s.ctl ∧
    (removalStored r s).window = s.window ∧ (removalStored r s).power = s.power ∧
    (removalStored r s).flash = s.flash ∧ (removalStored r s).replies = s.replies ∧
    (removalStored r s).mediaOut = s.mediaOut ∧ (removalStored r s).counters = s.counters ∧
    (removalStored r s).pending = s.pending ∧ (removalStored r s).cipher.run = s.cipher.run ∧
    (removalStored r s).cred.n = s.cred.n ∧ (removalStored r s).cred.profiles = s.cred.profiles ∧
    (removalStored r s).store.effective = s.store.effective := by
  refine ⟨?_, ?_, ?_, ?_, ?_, ?_, ?_, ?_, ?_, ?_, ?_, ?_, ?_, ?_, ?_, ?_, ?_⟩ <;> (unfold removalStored; (repeat' split) <;> simp_all)

@[simp] theorem cancelFactoryEnroll_frame (e : Enroll) (s : State) : (cancelFactoryEnroll e s).front = s.front ∧
    (cancelFactoryEnroll e s).media = s.media ∧ (cancelFactoryEnroll e s).regions = s.regions ∧
    (cancelFactoryEnroll e s).filter = s.filter ∧ (cancelFactoryEnroll e s).cipher = s.cipher ∧
    (cancelFactoryEnroll e s).erase = s.erase ∧ (cancelFactoryEnroll e s).window = s.window ∧
    (cancelFactoryEnroll e s).store = s.store ∧ (cancelFactoryEnroll e s).power = s.power ∧
    (cancelFactoryEnroll e s).flash = s.flash ∧ (cancelFactoryEnroll e s).replies = s.replies ∧
    (cancelFactoryEnroll e s).mediaOut = s.mediaOut ∧ (cancelFactoryEnroll e s).counters = s.counters ∧
    (cancelFactoryEnroll e s).pending = s.pending ∧ (cancelFactoryEnroll e s).cred.n = s.cred.n ∧
    (cancelFactoryEnroll e s).cred.profiles = s.cred.profiles ∧
    (cancelFactoryEnroll e s).ctl.openProfile = s.ctl.openProfile ∧
    (cancelFactoryEnroll e s).ctl.attached = s.ctl.attached := by
  refine ⟨?_, ?_, ?_, ?_, ?_, ?_, ?_, ?_, ?_, ?_, ?_, ?_, ?_, ?_, ?_, ?_, ?_, ?_⟩ <;> (unfold cancelFactoryEnroll; (repeat' split) <;> simp_all)

@[simp] theorem takeLock_frame (s : State) : (takeLock s).2.2.front = s.front ∧ (takeLock s).2.2.media = s.media ∧
    (takeLock s).2.2.regions = s.regions ∧ (takeLock s).2.2.filter = s.filter ∧ (takeLock s).2.2.erase = s.erase ∧
    (takeLock s).2.2.window = s.window ∧ (takeLock s).2.2.store = s.store ∧ (takeLock s).2.2.flash = s.flash ∧
    (takeLock s).2.2.replies = s.replies ∧ (takeLock s).2.2.mediaOut = s.mediaOut ∧
    (takeLock s).2.2.counters = s.counters ∧ (takeLock s).2.2.pending = s.pending ∧
    (takeLock s).2.2.cipher.run = s.cipher.run ∧ (takeLock s).2.2.cred.n = s.cred.n ∧
    (takeLock s).2.2.cred.profiles = s.cred.profiles ∧ (takeLock s).2.2.ctl.attached = s.ctl.attached ∧
    (takeLock s).2.2.power.source = s.power.source ∧ (takeLock s).2.2.power.on = s.power.on := by
  refine ⟨?_, ?_, ?_, ?_, ?_, ?_, ?_, ?_, ?_, ?_, ?_, ?_, ?_, ?_, ?_, ?_, ?_, ?_⟩ <;> (unfold takeLock; (repeat' split) <;> simp_all)

@[simp] theorem takeReadTable_frame (s : State) : (takeReadTable s).2.2.front = s.front ∧
    (takeReadTable s).2.2.media = s.media ∧ (takeReadTable s).2.2.regions = s.regions ∧
    (takeReadTable s).2.2.filter = s.filter ∧ (takeReadTable s).2.2.cipher = s.cipher ∧
    (takeReadTable s).2.2.erase = s.erase ∧ (takeReadTable s).2.2.keypad = s.keypad ∧
    (takeReadTable s).2.2.cred = s.cred ∧ (takeReadTable s).2.2.ctl = s.ctl ∧
    (takeReadTable s).2.2.window = s.window ∧ (takeReadTable s).2.2.store = s.store ∧
    (takeReadTable s).2.2.power = s.power ∧ (takeReadTable s).2.2.flash = s.flash ∧
    (takeReadTable s).2.2.replies = s.replies ∧ (takeReadTable s).2.2.mediaOut = s.mediaOut ∧
    (takeReadTable s).2.2.counters = s.counters ∧ (takeReadTable s).2.2.pending = s.pending := by
  refine ⟨?_, ?_, ?_, ?_, ?_, ?_, ?_, ?_, ?_, ?_, ?_, ?_, ?_, ?_, ?_, ?_, ?_⟩ <;> (unfold takeReadTable; (repeat' split) <;> simp_all)

@[simp] theorem takeStageRegion_frame (position : Byte) (present : Byte) (cls : Byte) (writable : Byte) (slot : Byte) (base : BitVec 32) (length : BitVec 32) (s : State) :
    (takeStageRegion position present cls writable slot base length s).2.2.front = s.front ∧
    (takeStageRegion position present cls writable slot base length s).2.2.media = s.media ∧
    (takeStageRegion position present cls writable slot base length s).2.2.filter = s.filter ∧
    (takeStageRegion position present cls writable slot base length s).2.2.cipher = s.cipher ∧
    (takeStageRegion position present cls writable slot base length s).2.2.erase = s.erase ∧
    (takeStageRegion position present cls writable slot base length s).2.2.keypad = s.keypad ∧
    (takeStageRegion position present cls writable slot base length s).2.2.cred = s.cred ∧
    (takeStageRegion position present cls writable slot base length s).2.2.ctl = s.ctl ∧
    (takeStageRegion position present cls writable slot base length s).2.2.window = s.window ∧
    (takeStageRegion position present cls writable slot base length s).2.2.store = s.store ∧
    (takeStageRegion position present cls writable slot base length s).2.2.power = s.power ∧
    (takeStageRegion position present cls writable slot base length s).2.2.flash = s.flash ∧
    (takeStageRegion position present cls writable slot base length s).2.2.replies = s.replies ∧
    (takeStageRegion position present cls writable slot base length s).2.2.mediaOut = s.mediaOut ∧
    (takeStageRegion position present cls writable slot base length s).2.2.counters = s.counters ∧
    (takeStageRegion position present cls writable slot base length s).2.2.pending = s.pending := by
  refine ⟨?_, ?_, ?_, ?_, ?_, ?_, ?_, ?_, ?_, ?_, ?_, ?_, ?_, ?_, ?_, ?_⟩ <;> (unfold takeStageRegion; (repeat' split) <;> simp_all)

@[simp] theorem takeSetSlotMask_frame (slot : Byte) (mask : Byte) (s : State) :
    (takeSetSlotMask slot mask s).2.2.front = s.front ∧ (takeSetSlotMask slot mask s).2.2.media = s.media ∧
    (takeSetSlotMask slot mask s).2.2.filter = s.filter ∧ (takeSetSlotMask slot mask s).2.2.cipher = s.cipher ∧
    (takeSetSlotMask slot mask s).2.2.erase = s.erase ∧ (takeSetSlotMask slot mask s).2.2.keypad = s.keypad ∧
    (takeSetSlotMask slot mask s).2.2.cred = s.cred ∧ (takeSetSlotMask slot mask s).2.2.ctl = s.ctl ∧
    (takeSetSlotMask slot mask s).2.2.window = s.window ∧ (takeSetSlotMask slot mask s).2.2.store = s.store ∧
    (takeSetSlotMask slot mask s).2.2.power = s.power ∧ (takeSetSlotMask slot mask s).2.2.flash = s.flash ∧
    (takeSetSlotMask slot mask s).2.2.replies = s.replies ∧
    (takeSetSlotMask slot mask s).2.2.mediaOut = s.mediaOut ∧
    (takeSetSlotMask slot mask s).2.2.counters = s.counters ∧ (takeSetSlotMask slot mask s).2.2.pending = s.pending := by
  refine ⟨?_, ?_, ?_, ?_, ?_, ?_, ?_, ?_, ?_, ?_, ?_, ?_, ?_, ?_, ?_, ?_⟩ <;> (unfold takeSetSlotMask; (repeat' split) <;> simp_all)

@[simp] theorem takeClearPending_frame (s : State) : (takeClearPending s).2.2.front = s.front ∧
    (takeClearPending s).2.2.media = s.media ∧ (takeClearPending s).2.2.filter = s.filter ∧
    (takeClearPending s).2.2.cipher = s.cipher ∧ (takeClearPending s).2.2.erase = s.erase ∧
    (takeClearPending s).2.2.keypad = s.keypad ∧ (takeClearPending s).2.2.cred = s.cred ∧
    (takeClearPending s).2.2.ctl = s.ctl ∧ (takeClearPending s).2.2.window = s.window ∧
    (takeClearPending s).2.2.store = s.store ∧ (takeClearPending s).2.2.power = s.power ∧
    (takeClearPending s).2.2.flash = s.flash ∧ (takeClearPending s).2.2.replies = s.replies ∧
    (takeClearPending s).2.2.mediaOut = s.mediaOut ∧ (takeClearPending s).2.2.counters = s.counters ∧
    (takeClearPending s).2.2.pending = s.pending := by
  refine ⟨?_, ?_, ?_, ?_, ?_, ?_, ?_, ?_, ?_, ?_, ?_, ?_, ?_, ?_, ?_, ?_⟩ <;> (unfold takeClearPending; (repeat' split) <;> simp_all)

@[simp] theorem takeApplyTable_frame (s : State) : (takeApplyTable s).2.2.front = s.front ∧
    (takeApplyTable s).2.2.media = s.media ∧ (takeApplyTable s).2.2.erase = s.erase ∧
    (takeApplyTable s).2.2.keypad = s.keypad ∧ (takeApplyTable s).2.2.cred = s.cred ∧
    (takeApplyTable s).2.2.ctl = s.ctl ∧ (takeApplyTable s).2.2.window = s.window ∧
    (takeApplyTable s).2.2.power = s.power ∧ (takeApplyTable s).2.2.flash = s.flash ∧
    (takeApplyTable s).2.2.replies = s.replies ∧ (takeApplyTable s).2.2.mediaOut = s.mediaOut ∧
    (takeApplyTable s).2.2.pending = s.pending ∧ (takeApplyTable s).2.2.cipher.run = s.cipher.run ∧
    (takeApplyTable s).2.2.store.effective = s.store.effective := by
  refine ⟨?_, ?_, ?_, ?_, ?_, ?_, ?_, ?_, ?_, ?_, ?_, ?_, ?_, ?_⟩ <;> (unfold takeApplyTable; (repeat' split) <;> simp_all)

@[simp] theorem acceptErase_frame (p : Pos) (e : Entry) (m : EraseMode) (s : State) :
    (acceptErase p e m s).2.2.front = s.front ∧ (acceptErase p e m s).2.2.media = s.media ∧
    (acceptErase p e m s).2.2.regions = s.regions ∧ (acceptErase p e m s).2.2.filter = s.filter ∧
    (acceptErase p e m s).2.2.keypad = s.keypad ∧ (acceptErase p e m s).2.2.cred = s.cred ∧
    (acceptErase p e m s).2.2.ctl = s.ctl ∧ (acceptErase p e m s).2.2.window = s.window ∧
    (acceptErase p e m s).2.2.power = s.power ∧ (acceptErase p e m s).2.2.flash = s.flash ∧
    (acceptErase p e m s).2.2.replies = s.replies ∧ (acceptErase p e m s).2.2.mediaOut = s.mediaOut ∧
    (acceptErase p e m s).2.2.pending = s.pending ∧ (acceptErase p e m s).2.2.cipher.run = s.cipher.run ∧
    (acceptErase p e m s).2.2.store.effective = s.store.effective := by
  refine ⟨?_, ?_, ?_, ?_, ?_, ?_, ?_, ?_, ?_, ?_, ?_, ?_, ?_, ?_, ?_⟩ <;> (unfold acceptErase; (repeat' split) <;> simp_all)

@[simp] theorem takeEraseRegion_frame (position : Byte) (mode : Byte) (s : State) :
    (takeEraseRegion position mode s).2.2.front = s.front ∧ (takeEraseRegion position mode s).2.2.media = s.media ∧
    (takeEraseRegion position mode s).2.2.regions = s.regions ∧
    (takeEraseRegion position mode s).2.2.filter = s.filter ∧
    (takeEraseRegion position mode s).2.2.keypad = s.keypad ∧ (takeEraseRegion position mode s).2.2.cred = s.cred ∧
    (takeEraseRegion position mode s).2.2.ctl = s.ctl ∧ (takeEraseRegion position mode s).2.2.window = s.window ∧
    (takeEraseRegion position mode s).2.2.power = s.power ∧ (takeEraseRegion position mode s).2.2.flash = s.flash ∧
    (takeEraseRegion position mode s).2.2.replies = s.replies ∧
    (takeEraseRegion position mode s).2.2.mediaOut = s.mediaOut ∧
    (takeEraseRegion position mode s).2.2.pending = s.pending ∧
    (takeEraseRegion position mode s).2.2.cipher.run = s.cipher.run ∧
    (takeEraseRegion position mode s).2.2.store.effective = s.store.effective := by
  refine ⟨?_, ?_, ?_, ?_, ?_, ?_, ?_, ?_, ?_, ?_, ?_, ?_, ?_, ?_, ?_⟩ <;> (unfold takeEraseRegion; (repeat' split) <;> simp_all)

@[simp] theorem takeCancelSweep_frame (s : State) : (takeCancelSweep s).2.2.media = s.media ∧
    (takeCancelSweep s).2.2.keypad = s.keypad ∧ (takeCancelSweep s).2.2.cred = s.cred ∧
    (takeCancelSweep s).2.2.ctl = s.ctl ∧ (takeCancelSweep s).2.2.window = s.window ∧
    (takeCancelSweep s).2.2.power = s.power ∧ (takeCancelSweep s).2.2.flash = s.flash ∧
    (takeCancelSweep s).2.2.mediaOut = s.mediaOut ∧ (takeCancelSweep s).2.2.pending = s.pending ∧
    (takeCancelSweep s).2.2.front.link = s.front.link ∧ (takeCancelSweep s).2.2.cipher.run = s.cipher.run ∧
    (takeCancelSweep s).2.2.store.effective = s.store.effective := by
  refine ⟨?_, ?_, ?_, ?_, ?_, ?_, ?_, ?_, ?_, ?_, ?_, ?_⟩ <;> (unfold takeCancelSweep; (repeat' split) <;> simp_all)

@[simp] theorem takeEnroll_frame (slot : Byte) (kind : Byte) (s : State) :
    (takeEnroll slot kind s).2.2.front = s.front ∧ (takeEnroll slot kind s).2.2.media = s.media ∧
    (takeEnroll slot kind s).2.2.regions = s.regions ∧ (takeEnroll slot kind s).2.2.filter = s.filter ∧
    (takeEnroll slot kind s).2.2.cipher = s.cipher ∧ (takeEnroll slot kind s).2.2.erase = s.erase ∧
    (takeEnroll slot kind s).2.2.window = s.window ∧ (takeEnroll slot kind s).2.2.store = s.store ∧
    (takeEnroll slot kind s).2.2.power = s.power ∧ (takeEnroll slot kind s).2.2.flash = s.flash ∧
    (takeEnroll slot kind s).2.2.replies = s.replies ∧ (takeEnroll slot kind s).2.2.mediaOut = s.mediaOut ∧
    (takeEnroll slot kind s).2.2.counters = s.counters ∧ (takeEnroll slot kind s).2.2.pending = s.pending ∧
    (takeEnroll slot kind s).2.2.cred.n = s.cred.n ∧ (takeEnroll slot kind s).2.2.cred.profiles = s.cred.profiles ∧
    (takeEnroll slot kind s).2.2.ctl.openProfile = s.ctl.openProfile ∧
    (takeEnroll slot kind s).2.2.ctl.attached = s.ctl.attached := by
  refine ⟨?_, ?_, ?_, ?_, ?_, ?_, ?_, ?_, ?_, ?_, ?_, ?_, ?_, ?_, ?_, ?_, ?_, ?_⟩ <;> (unfold takeEnroll; (repeat' split) <;> simp_all)

@[simp] theorem takeRemoveProfile_frame (slot : Byte) (s : State) : (takeRemoveProfile slot s).2.2.front = s.front ∧
    (takeRemoveProfile slot s).2.2.media = s.media ∧ (takeRemoveProfile slot s).2.2.regions = s.regions ∧
    (takeRemoveProfile slot s).2.2.filter = s.filter ∧ (takeRemoveProfile slot s).2.2.cipher = s.cipher ∧
    (takeRemoveProfile slot s).2.2.erase = s.erase ∧ (takeRemoveProfile slot s).2.2.keypad = s.keypad ∧
    (takeRemoveProfile slot s).2.2.ctl = s.ctl ∧ (takeRemoveProfile slot s).2.2.window = s.window ∧
    (takeRemoveProfile slot s).2.2.power = s.power ∧ (takeRemoveProfile slot s).2.2.flash = s.flash ∧
    (takeRemoveProfile slot s).2.2.replies = s.replies ∧ (takeRemoveProfile slot s).2.2.mediaOut = s.mediaOut ∧
    (takeRemoveProfile slot s).2.2.counters = s.counters ∧ (takeRemoveProfile slot s).2.2.pending = s.pending ∧
    (takeRemoveProfile slot s).2.2.cred.n = s.cred.n ∧
    (takeRemoveProfile slot s).2.2.store.effective = s.store.effective := by
  refine ⟨?_, ?_, ?_, ?_, ?_, ?_, ?_, ?_, ?_, ?_, ?_, ?_, ?_, ?_, ?_, ?_, ?_⟩ <;> (unfold takeRemoveProfile; (repeat' split) <;> simp_all)

@[simp] theorem takeSetOptions_frame (o : RawOptions) (s : State) : (takeSetOptions o s).2.2.front = s.front ∧
    (takeSetOptions o s).2.2.media = s.media ∧ (takeSetOptions o s).2.2.regions = s.regions ∧
    (takeSetOptions o s).2.2.filter = s.filter ∧ (takeSetOptions o s).2.2.cipher = s.cipher ∧
    (takeSetOptions o s).2.2.erase = s.erase ∧ (takeSetOptions o s).2.2.keypad = s.keypad ∧
    (takeSetOptions o s).2.2.cred = s.cred ∧ (takeSetOptions o s).2.2.ctl = s.ctl ∧
    (takeSetOptions o s).2.2.power = s.power ∧ (takeSetOptions o s).2.2.flash = s.flash ∧
    (takeSetOptions o s).2.2.replies = s.replies ∧ (takeSetOptions o s).2.2.mediaOut = s.mediaOut ∧
    (takeSetOptions o s).2.2.counters = s.counters ∧ (takeSetOptions o s).2.2.pending = s.pending ∧
    (takeSetOptions o s).2.2.store.effective = s.store.effective := by
  refine ⟨?_, ?_, ?_, ?_, ?_, ?_, ?_, ?_, ?_, ?_, ?_, ?_, ?_, ?_, ?_, ?_⟩ <;> (unfold takeSetOptions; (repeat' split) <;> simp_all)

@[simp] theorem takeSelfTestCipher_frame (k : RunKind) (s : State) : (takeSelfTestCipher k s).2.2.front = s.front ∧
    (takeSelfTestCipher k s).2.2.media = s.media ∧ (takeSelfTestCipher k s).2.2.regions = s.regions ∧
    (takeSelfTestCipher k s).2.2.filter = s.filter ∧ (takeSelfTestCipher k s).2.2.erase = s.erase ∧
    (takeSelfTestCipher k s).2.2.keypad = s.keypad ∧ (takeSelfTestCipher k s).2.2.cred = s.cred ∧
    (takeSelfTestCipher k s).2.2.ctl = s.ctl ∧ (takeSelfTestCipher k s).2.2.window = s.window ∧
    (takeSelfTestCipher k s).2.2.store = s.store ∧ (takeSelfTestCipher k s).2.2.power = s.power ∧
    (takeSelfTestCipher k s).2.2.flash = s.flash ∧ (takeSelfTestCipher k s).2.2.replies = s.replies ∧
    (takeSelfTestCipher k s).2.2.mediaOut = s.mediaOut ∧ (takeSelfTestCipher k s).2.2.counters = s.counters ∧
    (takeSelfTestCipher k s).2.2.pending = s.pending ∧ (takeSelfTestCipher k s).2.2.cipher.slots = s.cipher.slots := by
  refine ⟨?_, ?_, ?_, ?_, ?_, ?_, ?_, ?_, ?_, ?_, ?_, ?_, ?_, ?_, ?_, ?_, ?_⟩ <;> (unfold takeSelfTestCipher; (repeat' split) <;> simp_all)

@[simp] theorem takeSelfTestMedia_frame (passes : Byte) (s : State) :
    (takeSelfTestMedia passes s).2.2.front = s.front ∧ (takeSelfTestMedia passes s).2.2.media = s.media ∧
    (takeSelfTestMedia passes s).2.2.erase = s.erase ∧ (takeSelfTestMedia passes s).2.2.keypad = s.keypad ∧
    (takeSelfTestMedia passes s).2.2.cred = s.cred ∧ (takeSelfTestMedia passes s).2.2.ctl = s.ctl ∧
    (takeSelfTestMedia passes s).2.2.window = s.window ∧ (takeSelfTestMedia passes s).2.2.power = s.power ∧
    (takeSelfTestMedia passes s).2.2.flash = s.flash ∧ (takeSelfTestMedia passes s).2.2.replies = s.replies ∧
    (takeSelfTestMedia passes s).2.2.mediaOut = s.mediaOut ∧ (takeSelfTestMedia passes s).2.2.pending = s.pending ∧
    (takeSelfTestMedia passes s).2.2.cipher.run = s.cipher.run ∧
    (takeSelfTestMedia passes s).2.2.store.effective = s.store.effective := by
  refine ⟨?_, ?_, ?_, ?_, ?_, ?_, ?_, ?_, ?_, ?_, ?_, ?_, ?_, ?_⟩ <;> (unfold takeSelfTestMedia; (repeat' split) <;> simp_all)

@[simp] theorem takeWipeAll_frame (s : State) : (takeWipeAll s).2.2.media = s.media ∧
    (takeWipeAll s).2.2.window = s.window ∧ (takeWipeAll s).2.2.power = s.power ∧
    (takeWipeAll s).2.2.flash = s.flash ∧ (takeWipeAll s).2.2.mediaOut = s.mediaOut ∧
    (takeWipeAll s).2.2.pending = s.pending ∧ (takeWipeAll s).2.2.front.link = s.front.link ∧
    (takeWipeAll s).2.2.cipher.run = s.cipher.run ∧ (takeWipeAll s).2.2.cred.n = s.cred.n ∧
    (takeWipeAll s).2.2.cred.profiles = s.cred.profiles ∧ (takeWipeAll s).2.2.ctl.attached = s.ctl.attached ∧
    (takeWipeAll s).2.2.store.effective = s.store.effective := by
  refine ⟨?_, ?_, ?_, ?_, ?_, ?_, ?_, ?_, ?_, ?_, ?_, ?_⟩ <;> (unfold takeWipeAll; (repeat' split) <;> simp_all)

@[simp] theorem admitWith_frame (t : Txn) (frags : List Frag) (recorded : Option Range) (s : State) :
    (admitWith t frags recorded s).media = s.media ∧ (admitWith t frags recorded s).keypad = s.keypad ∧
    (admitWith t frags recorded s).cred = s.cred ∧ (admitWith t frags recorded s).ctl = s.ctl ∧
    (admitWith t frags recorded s).window = s.window ∧ (admitWith t frags recorded s).power = s.power ∧
    (admitWith t frags recorded s).flash = s.flash ∧ (admitWith t frags recorded s).mediaOut = s.mediaOut ∧
    (admitWith t frags recorded s).pending = s.pending ∧ (admitWith t frags recorded s).front.link = s.front.link ∧
    (admitWith t frags recorded s).cipher.run = s.cipher.run ∧
    (admitWith t frags recorded s).store.effective = s.store.effective :=
  ⟨by unfold admitWith; cases recorded <;> dsimp only [Option.map] <;> (repeat' split) <;> simp [foldl_keeps (fun s : State => s.media)],
   by unfold admitWith; cases recorded <;> dsimp only [Option.map] <;> (repeat' split) <;> simp [foldl_keeps (fun s : State => s.keypad)],
   by unfold admitWith; cases recorded <;> dsimp only [Option.map] <;> (repeat' split) <;> simp [foldl_keeps (fun s : State => s.cred)],
   by unfold admitWith; cases recorded <;> dsimp only [Option.map] <;> (repeat' split) <;> simp [foldl_keeps (fun s : State => s.ctl)],
   by unfold admitWith; cases recorded <;> dsimp only [Option.map] <;> (repeat' split) <;> simp [foldl_keeps (fun s : State => s.window)],
   by unfold admitWith; cases recorded <;> dsimp only [Option.map] <;> (repeat' split) <;> simp [foldl_keeps (fun s : State => s.power)],
   by unfold admitWith; cases recorded <;> dsimp only [Option.map] <;> (repeat' split) <;> simp [foldl_keeps (fun s : State => s.flash)],
   by unfold admitWith; cases recorded <;> dsimp only [Option.map] <;> (repeat' split) <;> simp [foldl_keeps (fun s : State => s.mediaOut)],
   by unfold admitWith; cases recorded <;> dsimp only [Option.map] <;> (repeat' split) <;> simp [foldl_keeps (fun s : State => s.pending)],
   by unfold admitWith; cases recorded <;> dsimp only [Option.map] <;> (repeat' split) <;> simp [foldl_keeps (fun s : State => s.front.link)],
   by unfold admitWith; cases recorded <;> dsimp only [Option.map] <;> (repeat' split) <;> simp [foldl_keeps (fun s : State => s.cipher.run)],
   by unfold admitWith; cases recorded <;> dsimp only [Option.map] <;> (repeat' split) <;> simp [foldl_keeps (fun s : State => s.store.effective)]⟩

@[simp] theorem admitTxn_frame (t : Txn) (s : State) : (admitTxn t s).media = s.media ∧
    (admitTxn t s).keypad = s.keypad ∧ (admitTxn t s).cred = s.cred ∧ (admitTxn t s).ctl = s.ctl ∧
    (admitTxn t s).window = s.window ∧ (admitTxn t s).power = s.power ∧ (admitTxn t s).flash = s.flash ∧
    (admitTxn t s).mediaOut = s.mediaOut ∧ (admitTxn t s).pending = s.pending ∧
    (admitTxn t s).front.link = s.front.link ∧ (admitTxn t s).cipher.run = s.cipher.run ∧
    (admitTxn t s).store.effective = s.store.effective := by
  refine ⟨?_, ?_, ?_, ?_, ?_, ?_, ?_, ?_, ?_, ?_, ?_, ?_⟩ <;> (unfold admitTxn; dsimp only; (repeat' split) <;> (first | rfl | simp | simp_all))

@[simp] theorem pullSector_frame (t : Txn) (x : Sector) (s : State) : (pullSector t x s).media = s.media ∧
    (pullSector t x s).keypad = s.keypad ∧ (pullSector t x s).cred = s.cred ∧ (pullSector t x s).ctl = s.ctl ∧
    (pullSector t x s).window = s.window ∧ (pullSector t x s).power = s.power ∧ (pullSector t x s).flash = s.flash ∧
    (pullSector t x s).mediaOut = s.mediaOut ∧ (pullSector t x s).pending = s.pending ∧
    (pullSector t x s).front.link = s.front.link ∧ (pullSector t x s).cipher.run = s.cipher.run ∧
    (pullSector t x s).store.effective = s.store.effective := by
  refine ⟨?_, ?_, ?_, ?_, ?_, ?_, ?_, ?_, ?_, ?_, ?_, ?_⟩ <;> (unfold pullSector; (repeat' split) <;> simp_all)

@[simp] theorem issueSize_frame (s : State) : (issueSize s).front = s.front ∧ (issueSize s).regions = s.regions ∧
    (issueSize s).filter = s.filter ∧ (issueSize s).cipher = s.cipher ∧ (issueSize s).erase = s.erase ∧
    (issueSize s).keypad = s.keypad ∧ (issueSize s).cred = s.cred ∧ (issueSize s).ctl = s.ctl ∧
    (issueSize s).window = s.window ∧ (issueSize s).store = s.store ∧ (issueSize s).power = s.power ∧
    (issueSize s).flash = s.flash ∧ (issueSize s).replies = s.replies ∧ (issueSize s).counters = s.counters ∧
    (issueSize s).pending = s.pending ∧ (issueSize s).media.state = s.media.state ∧
    (issueSize s).media.capacity = s.media.capacity := by
  refine ⟨?_, ?_, ?_, ?_, ?_, ?_, ?_, ?_, ?_, ?_, ?_, ?_, ?_, ?_, ?_, ?_, ?_⟩ <;>
    first | (unfold issueSize; (repeat' split) <;> simp_all; done) | (unfold issueSize; dsimp only; (repeat' split) <;> (first | rfl | simp | simp_all); done)

@[simp] theorem serveSize_frame (s : State) : (serveSize s).front = s.front ∧ (serveSize s).regions = s.regions ∧
    (serveSize s).filter = s.filter ∧ (serveSize s).cipher = s.cipher ∧ (serveSize s).erase = s.erase ∧
    (serveSize s).keypad = s.keypad ∧ (serveSize s).cred = s.cred ∧ (serveSize s).ctl = s.ctl ∧
    (serveSize s).window = s.window ∧ (serveSize s).store = s.store ∧ (serveSize s).power = s.power ∧
    (serveSize s).flash = s.flash ∧ (serveSize s).replies = s.replies ∧ (serveSize s).counters = s.counters ∧
    (serveSize s).pending = s.pending ∧ (serveSize s).media.state = s.media.state ∧
    (serveSize s).media.capacity = s.media.capacity := by
  refine ⟨?_, ?_, ?_, ?_, ?_, ?_, ?_, ?_, ?_, ?_, ?_, ?_, ?_, ?_, ?_, ?_, ?_⟩ <;> (unfold serveSize; (repeat' split) <;> simp_all)

@[simp] theorem imageResult_frame (c : Command) (ok : Bool) (s : State) : (imageResult c ok s).front = s.front ∧
    (imageResult c ok s).media = s.media ∧ (imageResult c ok s).regions = s.regions ∧
    (imageResult c ok s).filter = s.filter ∧ (imageResult c ok s).cipher = s.cipher ∧
    (imageResult c ok s).erase = s.erase ∧ (imageResult c ok s).keypad = s.keypad ∧
    (imageResult c ok s).cred = s.cred ∧ (imageResult c ok s).ctl = s.ctl ∧ (imageResult c ok s).window = s.window ∧
    (imageResult c ok s).store = s.store ∧ (imageResult c ok s).power = s.power ∧
    (imageResult c ok s).replies = s.replies ∧ (imageResult c ok s).mediaOut = s.mediaOut ∧
    (imageResult c ok s).counters = s.counters ∧ (imageResult c ok s).pending = s.pending := by
  refine ⟨?_, ?_, ?_, ?_, ?_, ?_, ?_, ?_, ?_, ?_, ?_, ?_, ?_, ?_, ?_, ?_⟩ <;> (unfold imageResult; (repeat' split) <;> simp_all)

@[simp] theorem sizeResult_frame (ok : Bool) (span : Nat) (s : State) : (sizeResult ok span s).window = s.window ∧
    (sizeResult ok span s).power = s.power ∧ (sizeResult ok span s).flash = s.flash ∧
    (sizeResult ok span s).pending = s.pending ∧ (sizeResult ok span s).front.link = s.front.link ∧
    (sizeResult ok span s).cipher.run = s.cipher.run ∧ (sizeResult ok span s).cred.n = s.cred.n ∧
    (sizeResult ok span s).cred.profiles = s.cred.profiles ∧ (sizeResult ok span s).ctl.attached = s.ctl.attached ∧
    (sizeResult ok span s).store.effective = s.store.effective := by
  refine ⟨?_, ?_, ?_, ?_, ?_, ?_, ?_, ?_, ?_, ?_⟩ <;> (unfold sizeResult; (repeat' split) <;> simp_all)

@[simp] theorem deliverResult_frame (c : Command) (ok : Bool) (span : Nat) (data : List Content) (s : State) :
    (deliverResult c ok span data s).window = s.window ∧ (deliverResult c ok span data s).power = s.power ∧
    (deliverResult c ok span data s).pending = s.pending ∧
    (deliverResult c ok span data s).front.link = s.front.link ∧
    (deliverResult c ok span data s).cipher.run = s.cipher.run ∧
    (deliverResult c ok span data s).cred.n = s.cred.n ∧
    (deliverResult c ok span data s).cred.profiles = s.cred.profiles ∧
    (deliverResult c ok span data s).ctl.attached = s.ctl.attached ∧
    (deliverResult c ok span data s).store.effective = s.store.effective := by
  refine ⟨?_, ?_, ?_, ?_, ?_, ?_, ?_, ?_, ?_⟩ <;> (unfold deliverResult; (repeat' split) <;> simp_all)

@[simp] theorem failAll_frame (l : List Command) (s : State) : (failAll l s).window = s.window ∧
    (failAll l s).power = s.power ∧ (failAll l s).pending = s.pending ∧ (failAll l s).front.link = s.front.link ∧
    (failAll l s).cipher.run = s.cipher.run ∧ (failAll l s).cred.n = s.cred.n ∧
    (failAll l s).cred.profiles = s.cred.profiles ∧ (failAll l s).ctl.attached = s.ctl.attached ∧
    (failAll l s).store.effective = s.store.effective :=
  ⟨by unfold failAll; rw [foldl_keeps (fun s : State => s.window)] <;> simp,
   by unfold failAll; rw [foldl_keeps (fun s : State => s.power)] <;> simp,
   by unfold failAll; rw [foldl_keeps (fun s : State => s.pending)] <;> simp,
   by unfold failAll; rw [foldl_keeps (fun s : State => s.front.link)] <;> simp,
   by unfold failAll; rw [foldl_keeps (fun s : State => s.cipher.run)] <;> simp,
   by unfold failAll; rw [foldl_keeps (fun s : State => s.cred.n)] <;> simp,
   by unfold failAll; rw [foldl_keeps (fun s : State => s.cred.profiles)] <;> simp,
   by unfold failAll; rw [foldl_keeps (fun s : State => s.ctl.attached)] <;> simp,
   by unfold failAll; rw [foldl_keeps (fun s : State => s.store.effective)] <;> simp⟩

@[simp] theorem mediaLinkReset_frame (s : State) : (mediaLinkReset s).window = s.window ∧
    (mediaLinkReset s).power = s.power ∧ (mediaLinkReset s).pending = s.pending ∧
    (mediaLinkReset s).front.link = s.front.link ∧ (mediaLinkReset s).cipher.run = s.cipher.run ∧
    (mediaLinkReset s).cred.n = s.cred.n ∧ (mediaLinkReset s).cred.profiles = s.cred.profiles ∧
    (mediaLinkReset s).ctl.attached = s.ctl.attached ∧ (mediaLinkReset s).store.effective = s.store.effective := by
  refine ⟨?_, ?_, ?_, ?_, ?_, ?_, ?_, ?_, ?_⟩ <;> (unfold mediaLinkReset; simp)

@[simp] theorem startSizing_frame (s : State) : (startSizing s).front = s.front ∧
    (startSizing s).regions = s.regions ∧ (startSizing s).filter = s.filter ∧ (startSizing s).cipher = s.cipher ∧
    (startSizing s).erase = s.erase ∧ (startSizing s).keypad = s.keypad ∧ (startSizing s).cred = s.cred ∧
    (startSizing s).ctl = s.ctl ∧ (startSizing s).window = s.window ∧ (startSizing s).store = s.store ∧
    (startSizing s).power = s.power ∧ (startSizing s).flash = s.flash ∧ (startSizing s).replies = s.replies ∧
    (startSizing s).counters = s.counters ∧ (startSizing s).pending = s.pending := by
  refine ⟨?_, ?_, ?_, ?_, ?_, ?_, ?_, ?_, ?_, ?_, ?_, ?_, ?_, ?_, ?_⟩ <;> (unfold startSizing; simp)

@[simp] theorem grantHead_frame (tag : Tag) (id : Nat) (rest : List Nat) (s : State) :
    (grantHead tag id rest s).front = s.front ∧ (grantHead tag id rest s).regions = s.regions ∧
    (grantHead tag id rest s).cipher = s.cipher ∧ (grantHead tag id rest s).keypad = s.keypad ∧
    (grantHead tag id rest s).cred = s.cred ∧ (grantHead tag id rest s).ctl = s.ctl ∧
    (grantHead tag id rest s).window = s.window ∧ (grantHead tag id rest s).store = s.store ∧
    (grantHead tag id rest s).power = s.power ∧ (grantHead tag id rest s).replies = s.replies ∧
    (grantHead tag id rest s).counters = s.counters ∧ (grantHead tag id rest s).pending = s.pending ∧
    (grantHead tag id rest s).media.state = s.media.state ∧
    (grantHead tag id rest s).media.capacity = s.media.capacity := by
  refine ⟨?_, ?_, ?_, ?_, ?_, ?_, ?_, ?_, ?_, ?_, ?_, ?_, ?_, ?_⟩ <;> (unfold grantHead; (repeat' split) <;> simp_all)

@[simp] theorem grantTag_frame (tag : Tag) (s : State) : (grantTag tag s).front = s.front ∧
    (grantTag tag s).regions = s.regions ∧ (grantTag tag s).keypad = s.keypad ∧ (grantTag tag s).cred = s.cred ∧
    (grantTag tag s).ctl = s.ctl ∧ (grantTag tag s).window = s.window ∧ (grantTag tag s).store = s.store ∧
    (grantTag tag s).power = s.power ∧ (grantTag tag s).replies = s.replies ∧
    (grantTag tag s).counters = s.counters ∧ (grantTag tag s).pending = s.pending ∧
    (grantTag tag s).media.state = s.media.state ∧ (grantTag tag s).media.capacity = s.media.capacity ∧
    (grantTag tag s).cipher.slots = s.cipher.slots ∧ (grantTag tag s).cipher.run = s.cipher.run := by
  refine ⟨?_, ?_, ?_, ?_, ?_, ?_, ?_, ?_, ?_, ?_, ?_, ?_, ?_, ?_, ?_⟩ <;> (unfold grantTag; (repeat' split) <;> simp_all)

@[simp] theorem attachTaken_frame (s : State) : (attachTaken s).media = s.media ∧
    (attachTaken s).regions = s.regions ∧ (attachTaken s).filter = s.filter ∧ (attachTaken s).cipher = s.cipher ∧
    (attachTaken s).erase = s.erase ∧ (attachTaken s).cred = s.cred ∧ (attachTaken s).window = s.window ∧
    (attachTaken s).store = s.store ∧ (attachTaken s).flash = s.flash ∧ (attachTaken s).replies = s.replies ∧
    (attachTaken s).mediaOut = s.mediaOut ∧ (attachTaken s).counters = s.counters ∧
    (attachTaken s).pending = s.pending ∧ (attachTaken s).front.tags = s.front.tags ∧
    (attachTaken s).ctl.drive = s.ctl.drive ∧ (attachTaken s).ctl.openProfile = s.ctl.openProfile ∧
    (attachTaken s).power.on = s.power.on := by
  refine ⟨?_, ?_, ?_, ?_, ?_, ?_, ?_, ?_, ?_, ?_, ?_, ?_, ?_, ?_, ?_, ?_, ?_⟩ <;> (unfold attachTaken; dsimp only; (repeat' split) <;> (first | rfl | simp | simp_all))

@[simp] theorem dropFront_frame (s : State) : (dropFront s).media = s.media ∧ (dropFront s).regions = s.regions ∧
    (dropFront s).cipher = s.cipher ∧ (dropFront s).erase = s.erase ∧ (dropFront s).keypad = s.keypad ∧
    (dropFront s).cred = s.cred ∧ (dropFront s).ctl = s.ctl ∧ (dropFront s).store = s.store ∧
    (dropFront s).power = s.power ∧ (dropFront s).replies = s.replies ∧ (dropFront s).mediaOut = s.mediaOut ∧
    (dropFront s).counters = s.counters ∧ (dropFront s).pending = s.pending ∧
    (dropFront s).front.link = s.front.link :=
  ⟨by unfold dropFront; rw [foldl_keeps (fun s : State => s.media)] <;> simp,
   by unfold dropFront; rw [foldl_keeps (fun s : State => s.regions)] <;> simp,
   by unfold dropFront; rw [foldl_keeps (fun s : State => s.cipher)] <;> simp,
   by unfold dropFront; rw [foldl_keeps (fun s : State => s.erase)] <;> simp,
   by unfold dropFront; rw [foldl_keeps (fun s : State => s.keypad)] <;> simp,
   by unfold dropFront; rw [foldl_keeps (fun s : State => s.cred)] <;> simp,
   by unfold dropFront; rw [foldl_keeps (fun s : State => s.ctl)] <;> simp,
   by unfold dropFront; rw [foldl_keeps (fun s : State => s.store)] <;> simp,
   by unfold dropFront; rw [foldl_keeps (fun s : State => s.power)] <;> simp,
   by unfold dropFront; rw [foldl_keeps (fun s : State => s.replies)] <;> simp,
   by unfold dropFront; rw [foldl_keeps (fun s : State => s.mediaOut)] <;> simp,
   by unfold dropFront; rw [foldl_keeps (fun s : State => s.counters)] <;> simp,
   by unfold dropFront; rw [foldl_keeps (fun s : State => s.pending)] <;> simp,
   by unfold dropFront; rw [foldl_keeps (fun s : State => s.front.link)] <;> simp⟩

@[simp] theorem detachTaken_frame (s : State) : (detachTaken s).replies = s.replies ∧
    (detachTaken s).mediaOut = s.mediaOut ∧ (detachTaken s).pending = s.pending ∧
    (detachTaken s).cipher.run = s.cipher.run ∧ (detachTaken s).cred.n = s.cred.n ∧
    (detachTaken s).cred.profiles = s.cred.profiles ∧ (detachTaken s).power.on = s.power.on ∧
    (detachTaken s).store.effective = s.store.effective := by
  refine ⟨?_, ?_, ?_, ?_, ?_, ?_, ?_, ?_⟩ <;> (unfold detachTaken; simp)

@[simp] theorem sweepStored_frame (r : SweepRecord) (noted : BitVec 32) (s : State) :
    (sweepStored r noted s).media = s.media ∧ (sweepStored r noted s).regions = s.regions ∧
    (sweepStored r noted s).keypad = s.keypad ∧ (sweepStored r noted s).cred = s.cred ∧
    (sweepStored r noted s).ctl = s.ctl ∧ (sweepStored r noted s).window = s.window ∧
    (sweepStored r noted s).power = s.power ∧ (sweepStored r noted s).flash = s.flash ∧
    (sweepStored r noted s).mediaOut = s.mediaOut ∧ (sweepStored r noted s).pending = s.pending ∧
    (sweepStored r noted s).front.link = s.front.link ∧ (sweepStored r noted s).cipher.run = s.cipher.run ∧
    (sweepStored r noted s).store.effective = s.store.effective := by
  refine ⟨?_, ?_, ?_, ?_, ?_, ?_, ?_, ?_, ?_, ?_, ?_, ?_, ?_⟩ <;> (unfold sweepStored; dsimp only; (repeat' split) <;> (first | rfl | simp | simp_all))

@[simp] theorem applyStored_frame (s : State) : (applyStored s).front = s.front ∧ (applyStored s).media = s.media ∧
    (applyStored s).cipher = s.cipher ∧ (applyStored s).erase = s.erase ∧ (applyStored s).keypad = s.keypad ∧
    (applyStored s).cred = s.cred ∧ (applyStored s).ctl = s.ctl ∧ (applyStored s).window = s.window ∧
    (applyStored s).store = s.store ∧ (applyStored s).power = s.power ∧ (applyStored s).flash = s.flash ∧
    (applyStored s).replies = s.replies ∧ (applyStored s).mediaOut = s.mediaOut ∧
    (applyStored s).counters = s.counters ∧ (applyStored s).pending = s.pending := by
  refine ⟨?_, ?_, ?_, ?_, ?_, ?_, ?_, ?_, ?_, ?_, ?_, ?_, ?_, ?_, ?_⟩ <;> (unfold applyStored; (repeat' split) <;> simp_all)

@[simp] theorem eraseMapStored_frame (s : State) : (eraseMapStored s).front = s.front ∧
    (eraseMapStored s).media = s.media ∧ (eraseMapStored s).regions = s.regions ∧
    (eraseMapStored s).filter = s.filter ∧ (eraseMapStored s).keypad = s.keypad ∧ (eraseMapStored s).cred = s.cred ∧
    (eraseMapStored s).ctl = s.ctl ∧ (eraseMapStored s).window = s.window ∧ (eraseMapStored s).power = s.power ∧
    (eraseMapStored s).flash = s.flash ∧ (eraseMapStored s).replies = s.replies ∧
    (eraseMapStored s).mediaOut = s.mediaOut ∧ (eraseMapStored s).pending = s.pending ∧
    (eraseMapStored s).cipher.run = s.cipher.run ∧ (eraseMapStored s).store.effective = s.store.effective := by
  refine ⟨?_, ?_, ?_, ?_, ?_, ?_, ?_, ?_, ?_, ?_, ?_, ?_, ?_, ?_, ?_⟩ <;> (unfold eraseMapStored; (repeat' split) <;> simp_all)

@[simp] theorem eraseSweepStored_frame (s : State) : (eraseSweepStored s).front = s.front ∧
    (eraseSweepStored s).media = s.media ∧ (eraseSweepStored s).regions = s.regions ∧
    (eraseSweepStored s).filter = s.filter ∧ (eraseSweepStored s).cipher = s.cipher ∧
    (eraseSweepStored s).keypad = s.keypad ∧ (eraseSweepStored s).cred = s.cred ∧ (eraseSweepStored s).ctl = s.ctl ∧
    (eraseSweepStored s).window = s.window ∧ (eraseSweepStored s).power = s.power ∧
    (eraseSweepStored s).flash = s.flash ∧ (eraseSweepStored s).replies = s.replies ∧
    (eraseSweepStored s).mediaOut = s.mediaOut ∧ (eraseSweepStored s).counters = s.counters ∧
    (eraseSweepStored s).pending = s.pending ∧ (eraseSweepStored s).store.effective = s.store.effective := by
  refine ⟨?_, ?_, ?_, ?_, ?_, ?_, ?_, ?_, ?_, ?_, ?_, ?_, ?_, ?_, ?_, ?_⟩ <;> (unfold eraseSweepStored; (repeat' split) <;> simp_all)

@[simp] theorem tellWaiter_frame (w : Waiter) (s : State) : (tellWaiter w s).media = s.media ∧
    (tellWaiter w s).window = s.window ∧ (tellWaiter w s).power = s.power ∧ (tellWaiter w s).flash = s.flash ∧
    (tellWaiter w s).mediaOut = s.mediaOut ∧ (tellWaiter w s).pending = s.pending ∧
    (tellWaiter w s).front.link = s.front.link ∧ (tellWaiter w s).cipher.run = s.cipher.run ∧
    (tellWaiter w s).ctl.attached = s.ctl.attached ∧ (tellWaiter w s).store.effective = s.store.effective := by
  refine ⟨?_, ?_, ?_, ?_, ?_, ?_, ?_, ?_, ?_, ?_⟩ <;> (unfold tellWaiter; (repeat' split) <;> simp_all)

@[simp] theorem tellRequesters_frame (c : Commit) (s : State) : (tellRequesters c s).media = s.media ∧
    (tellRequesters c s).window = s.window ∧ (tellRequesters c s).power = s.power ∧
    (tellRequesters c s).flash = s.flash ∧ (tellRequesters c s).mediaOut = s.mediaOut ∧
    (tellRequesters c s).pending = s.pending ∧ (tellRequesters c s).front.link = s.front.link ∧
    (tellRequesters c s).cipher.run = s.cipher.run ∧ (tellRequesters c s).ctl.attached = s.ctl.attached ∧
    (tellRequesters c s).store.effective = s.store.effective :=
  ⟨by unfold tellRequesters; (repeat' split) <;> simp [foldl_keeps (fun s : State => s.media)],
   by unfold tellRequesters; (repeat' split) <;> simp [foldl_keeps (fun s : State => s.window)],
   by unfold tellRequesters; (repeat' split) <;> simp [foldl_keeps (fun s : State => s.power)],
   by unfold tellRequesters; (repeat' split) <;> simp [foldl_keeps (fun s : State => s.flash)],
   by unfold tellRequesters; (repeat' split) <;> simp [foldl_keeps (fun s : State => s.mediaOut)],
   by unfold tellRequesters; (repeat' split) <;> simp [foldl_keeps (fun s : State => s.pending)],
   by unfold tellRequesters; (repeat' split) <;> simp [foldl_keeps (fun s : State => s.front.link)],
   by unfold tellRequesters; (repeat' split) <;> simp [foldl_keeps (fun s : State => s.cipher.run)],
   by unfold tellRequesters; (repeat' split) <;> simp [foldl_keeps (fun s : State => s.ctl.attached)],
   by unfold tellRequesters; (repeat' split) <;> simp [foldl_keeps (fun s : State => s.store.effective)]⟩

@[simp] theorem commitVerified_frame (c : Commit) (s : State) : (commitVerified c s).media = s.media ∧
    (commitVerified c s).window = s.window ∧ (commitVerified c s).power = s.power ∧
    (commitVerified c s).flash = s.flash ∧ (commitVerified c s).mediaOut = s.mediaOut ∧
    (commitVerified c s).pending = s.pending ∧ (commitVerified c s).front.link = s.front.link ∧
    (commitVerified c s).cipher.run = s.cipher.run ∧ (commitVerified c s).ctl.attached = s.ctl.attached := by
  refine ⟨?_, ?_, ?_, ?_, ?_, ?_, ?_, ?_, ?_⟩ <;> (unfold commitVerified; (repeat' split) <;> simp_all)

@[simp] theorem commitFailed_frame (c : Commit) (s : State) : (commitFailed c s).media = s.media ∧
    (commitFailed c s).window = s.window ∧ (commitFailed c s).power = s.power ∧ (commitFailed c s).flash = s.flash ∧
    (commitFailed c s).mediaOut = s.mediaOut ∧ (commitFailed c s).pending = s.pending ∧
    (commitFailed c s).front.link = s.front.link ∧ (commitFailed c s).cipher.run = s.cipher.run ∧
    (commitFailed c s).cred.n = s.cred.n ∧ (commitFailed c s).cred.profiles = s.cred.profiles ∧
    (commitFailed c s).ctl.attached = s.ctl.attached := by
  refine ⟨?_, ?_, ?_, ?_, ?_, ?_, ?_, ?_, ?_, ?_, ?_⟩ <;> (unfold commitFailed; simp)

@[simp] theorem startUp_frame (s : State) : (startUp s).media = s.media ∧ (startUp s).flash = s.flash ∧
    (startUp s).mediaOut = s.mediaOut ∧ (startUp s).pending = s.pending ∧ (startUp s).front.link = s.front.link ∧
    (startUp s).ctl.attached = s.ctl.attached ∧ (startUp s).power.source = s.power.source ∧
    (startUp s).power.mode = s.power.mode ∧ (startUp s).power.on = s.power.on := by
  refine ⟨?_, ?_, ?_, ?_, ?_, ?_, ?_, ?_, ?_⟩ <;> (unfold startUp; (repeat' split) <;> simp_all)

@[simp] theorem chooseState_frame (s : State) : (chooseState s).media = s.media ∧
    (chooseState s).window = s.window ∧ (chooseState s).power = s.power ∧ (chooseState s).flash = s.flash ∧
    (chooseState s).mediaOut = s.mediaOut ∧ (chooseState s).pending = s.pending ∧
    (chooseState s).front.link = s.front.link ∧ (chooseState s).cipher.run = s.cipher.run ∧
    (chooseState s).cred.n = s.cred.n ∧ (chooseState s).cred.profiles = s.cred.profiles ∧
    (chooseState s).ctl.attached = s.ctl.attached ∧ (chooseState s).store.effective = s.store.effective := by
  refine ⟨?_, ?_, ?_, ?_, ?_, ?_, ?_, ?_, ?_, ?_, ?_, ?_⟩ <;> (unfold chooseState; (repeat' split) <;> simp_all)

@[simp] theorem restoreErase_frame (r : SweepRecord) (s : State) : (restoreErase r s).front = s.front ∧
    (restoreErase r s).media = s.media ∧ (restoreErase r s).regions = s.regions ∧
    (restoreErase r s).filter = s.filter ∧ (restoreErase r s).keypad = s.keypad ∧ (restoreErase r s).cred = s.cred ∧
    (restoreErase r s).ctl = s.ctl ∧ (restoreErase r s).window = s.window ∧ (restoreErase r s).power = s.power ∧
    (restoreErase r s).flash = s.flash ∧ (restoreErase r s).replies = s.replies ∧
    (restoreErase r s).mediaOut = s.mediaOut ∧ (restoreErase r s).pending = s.pending ∧
    (restoreErase r s).cipher.run = s.cipher.run ∧ (restoreErase r s).store.effective = s.store.effective := by
  refine ⟨?_, ?_, ?_, ?_, ?_, ?_, ?_, ?_, ?_, ?_, ?_, ?_, ?_, ?_, ?_⟩ <;> (unfold restoreErase; dsimp only; (repeat' split) <;> (first | rfl | simp | simp_all))

@[simp] theorem startUpRest_frame (s : State) : (startUpRest s).media = s.media ∧
    (startUpRest s).window = s.window ∧ (startUpRest s).flash = s.flash ∧ (startUpRest s).mediaOut = s.mediaOut ∧
    (startUpRest s).pending = s.pending ∧ (startUpRest s).front.link = s.front.link ∧
    (startUpRest s).cipher.run = s.cipher.run ∧ (startUpRest s).cred.n = s.cred.n ∧
    (startUpRest s).cred.profiles = s.cred.profiles ∧ (startUpRest s).ctl.attached = s.ctl.attached ∧
    (startUpRest s).power.source = s.power.source ∧ (startUpRest s).power.mode = s.power.mode ∧
    (startUpRest s).power.on = s.power.on ∧ (startUpRest s).store.effective = s.store.effective := by
  refine ⟨?_, ?_, ?_, ?_, ?_, ?_, ?_, ?_, ?_, ?_, ?_, ?_, ?_, ?_⟩ <;> (unfold startUpRest; dsimp only; (repeat' split) <;> (first | rfl | simp | simp_all))

@[simp] theorem cipherEnd_frame (k : RunKind) (mismatches : BitVec 16) (s : State) :
    (cipherEnd k mismatches s).media = s.media ∧ (cipherEnd k mismatches s).window = s.window ∧
    (cipherEnd k mismatches s).flash = s.flash ∧ (cipherEnd k mismatches s).mediaOut = s.mediaOut ∧
    (cipherEnd k mismatches s).pending = s.pending ∧ (cipherEnd k mismatches s).front.link = s.front.link ∧
    (cipherEnd k mismatches s).cipher.run = s.cipher.run ∧ (cipherEnd k mismatches s).cred.n = s.cred.n ∧
    (cipherEnd k mismatches s).cred.profiles = s.cred.profiles ∧
    (cipherEnd k mismatches s).ctl.attached = s.ctl.attached ∧
    (cipherEnd k mismatches s).power.source = s.power.source ∧
    (cipherEnd k mismatches s).power.mode = s.power.mode ∧ (cipherEnd k mismatches s).power.on = s.power.on ∧
    (cipherEnd k mismatches s).store.effective = s.store.effective := by
  refine ⟨?_, ?_, ?_, ?_, ?_, ?_, ?_, ?_, ?_, ?_, ?_, ?_, ?_, ?_⟩ <;> (unfold cipherEnd; (repeat' split) <;> simp_all)

@[simp] theorem appendDigit_frame (d : Digit) (s : State) : (appendDigit d s).front = s.front ∧
    (appendDigit d s).media = s.media ∧ (appendDigit d s).regions = s.regions ∧
    (appendDigit d s).filter = s.filter ∧ (appendDigit d s).cipher = s.cipher ∧ (appendDigit d s).erase = s.erase ∧
    (appendDigit d s).cred = s.cred ∧ (appendDigit d s).ctl = s.ctl ∧ (appendDigit d s).window = s.window ∧
    (appendDigit d s).store = s.store ∧ (appendDigit d s).power = s.power ∧ (appendDigit d s).flash = s.flash ∧
    (appendDigit d s).replies = s.replies ∧ (appendDigit d s).mediaOut = s.mediaOut ∧
    (appendDigit d s).counters = s.counters ∧ (appendDigit d s).pending = s.pending := by
  refine ⟨?_, ?_, ?_, ?_, ?_, ?_, ?_, ?_, ?_, ?_, ?_, ?_, ?_, ?_, ?_, ?_⟩ <;> (unfold appendDigit; simp)

@[simp] theorem keyFactory_frame (k : Key) (s : State) : (keyFactory k s).front = s.front ∧
    (keyFactory k s).media = s.media ∧ (keyFactory k s).regions = s.regions ∧ (keyFactory k s).filter = s.filter ∧
    (keyFactory k s).cipher = s.cipher ∧ (keyFactory k s).erase = s.erase ∧ (keyFactory k s).window = s.window ∧
    (keyFactory k s).store = s.store ∧ (keyFactory k s).power = s.power ∧ (keyFactory k s).flash = s.flash ∧
    (keyFactory k s).replies = s.replies ∧ (keyFactory k s).mediaOut = s.mediaOut ∧
    (keyFactory k s).counters = s.counters ∧ (keyFactory k s).pending = s.pending ∧
    (keyFactory k s).cred.n = s.cred.n ∧ (keyFactory k s).cred.profiles = s.cred.profiles ∧
    (keyFactory k s).ctl.openProfile = s.ctl.openProfile ∧ (keyFactory k s).ctl.attached = s.ctl.attached := by
  refine ⟨?_, ?_, ?_, ?_, ?_, ?_, ?_, ?_, ?_, ?_, ?_, ?_, ?_, ?_, ?_, ?_, ?_, ?_⟩ <;> (unfold keyFactory; (repeat' split) <;> simp_all)

@[simp] theorem keyLocked_frame (k : Key) (s : State) : (keyLocked k s).front = s.front ∧
    (keyLocked k s).media = s.media ∧ (keyLocked k s).regions = s.regions ∧ (keyLocked k s).filter = s.filter ∧
    (keyLocked k s).cipher = s.cipher ∧ (keyLocked k s).erase = s.erase ∧ (keyLocked k s).cred = s.cred ∧
    (keyLocked k s).window = s.window ∧ (keyLocked k s).store = s.store ∧ (keyLocked k s).power = s.power ∧
    (keyLocked k s).flash = s.flash ∧ (keyLocked k s).replies = s.replies ∧ (keyLocked k s).mediaOut = s.mediaOut ∧
    (keyLocked k s).counters = s.counters ∧ (keyLocked k s).pending = s.pending ∧
    (keyLocked k s).ctl.openProfile = s.ctl.openProfile ∧ (keyLocked k s).ctl.attached = s.ctl.attached := by
  refine ⟨?_, ?_, ?_, ?_, ?_, ?_, ?_, ?_, ?_, ?_, ?_, ?_, ?_, ?_, ?_, ?_, ?_⟩ <;> (unfold keyLocked; (repeat' split) <;> simp_all)

@[simp] theorem keyEntry_frame (k : Key) (s : State) : (keyEntry k s).front = s.front ∧
    (keyEntry k s).media = s.media ∧ (keyEntry k s).regions = s.regions ∧ (keyEntry k s).filter = s.filter ∧
    (keyEntry k s).cipher = s.cipher ∧ (keyEntry k s).erase = s.erase ∧ (keyEntry k s).window = s.window ∧
    (keyEntry k s).power = s.power ∧ (keyEntry k s).flash = s.flash ∧ (keyEntry k s).replies = s.replies ∧
    (keyEntry k s).mediaOut = s.mediaOut ∧ (keyEntry k s).counters = s.counters ∧
    (keyEntry k s).pending = s.pending ∧ (keyEntry k s).cred.profiles = s.cred.profiles ∧
    (keyEntry k s).ctl.openProfile = s.ctl.openProfile ∧ (keyEntry k s).ctl.attached = s.ctl.attached ∧
    (keyEntry k s).store.effective = s.store.effective := by
  refine ⟨?_, ?_, ?_, ?_, ?_, ?_, ?_, ?_, ?_, ?_, ?_, ?_, ?_, ?_, ?_, ?_, ?_⟩ <;> (unfold keyEntry; (repeat' split) <;> simp_all)

@[simp] theorem keyOpened_frame (k : Key) (s : State) : (keyOpened k s).front = s.front ∧
    (keyOpened k s).media = s.media ∧ (keyOpened k s).regions = s.regions ∧ (keyOpened k s).filter = s.filter ∧
    (keyOpened k s).erase = s.erase ∧ (keyOpened k s).window = s.window ∧ (keyOpened k s).store = s.store ∧
    (keyOpened k s).power = s.power ∧ (keyOpened k s).flash = s.flash ∧ (keyOpened k s).replies = s.replies ∧
    (keyOpened k s).mediaOut = s.mediaOut ∧ (keyOpened k s).counters = s.counters ∧
    (keyOpened k s).pending = s.pending ∧ (keyOpened k s).cipher.run = s.cipher.run ∧
    (keyOpened k s).cred.n = s.cred.n ∧ (keyOpened k s).cred.profiles = s.cred.profiles ∧
    (keyOpened k s).ctl.attached = s.ctl.attached := by
  refine ⟨?_, ?_, ?_, ?_, ?_, ?_, ?_, ?_, ?_, ?_, ?_, ?_, ?_, ?_, ?_, ?_, ?_⟩ <;> (unfold keyOpened; (repeat' split) <;> simp_all)

@[simp] theorem cancelEnroll_frame (e : Enroll) (s : State) : (cancelEnroll e s).front = s.front ∧
    (cancelEnroll e s).media = s.media ∧ (cancelEnroll e s).regions = s.regions ∧
    (cancelEnroll e s).filter = s.filter ∧ (cancelEnroll e s).erase = s.erase ∧
    (cancelEnroll e s).window = s.window ∧ (cancelEnroll e s).store = s.store ∧ (cancelEnroll e s).power = s.power ∧
    (cancelEnroll e s).flash = s.flash ∧ (cancelEnroll e s).replies = s.replies ∧
    (cancelEnroll e s).mediaOut = s.mediaOut ∧ (cancelEnroll e s).counters = s.counters ∧
    (cancelEnroll e s).pending = s.pending ∧ (cancelEnroll e s).cipher.run = s.cipher.run ∧
    (cancelEnroll e s).cred.n = s.cred.n ∧ (cancelEnroll e s).cred.profiles = s.cred.profiles ∧
    (cancelEnroll e s).ctl.attached = s.ctl.attached := by
  refine ⟨?_, ?_, ?_, ?_, ?_, ?_, ?_, ?_, ?_, ?_, ?_, ?_, ?_, ?_, ?_, ?_, ?_⟩ <;> (unfold cancelEnroll; (repeat' split) <;> simp_all)

@[simp] theorem handOn_frame (e : Enroll) (s : State) : (handOn e s).front = s.front ∧
    (handOn e s).media = s.media ∧ (handOn e s).regions = s.regions ∧ (handOn e s).filter = s.filter ∧
    (handOn e s).cipher = s.cipher ∧ (handOn e s).erase = s.erase ∧ (handOn e s).window = s.window ∧
    (handOn e s).store = s.store ∧ (handOn e s).power = s.power ∧ (handOn e s).flash = s.flash ∧
    (handOn e s).replies = s.replies ∧ (handOn e s).mediaOut = s.mediaOut ∧ (handOn e s).counters = s.counters ∧
    (handOn e s).pending = s.pending ∧ (handOn e s).cred.n = s.cred.n ∧
    (handOn e s).cred.profiles = s.cred.profiles ∧ (handOn e s).ctl.openProfile = s.ctl.openProfile ∧
    (handOn e s).ctl.attached = s.ctl.attached := by
  refine ⟨?_, ?_, ?_, ?_, ?_, ?_, ?_, ?_, ?_, ?_, ?_, ?_, ?_, ?_, ?_, ?_, ?_, ?_⟩ <;> (unfold handOn; (repeat' split) <;> simp_all)

@[simp] theorem enrollOpen_frame (e : Enroll) (s : State) : (enrollOpen e s).front = s.front ∧
    (enrollOpen e s).media = s.media ∧ (enrollOpen e s).regions = s.regions ∧ (enrollOpen e s).filter = s.filter ∧
    (enrollOpen e s).cipher = s.cipher ∧ (enrollOpen e s).erase = s.erase ∧ (enrollOpen e s).window = s.window ∧
    (enrollOpen e s).store = s.store ∧ (enrollOpen e s).power = s.power ∧ (enrollOpen e s).flash = s.flash ∧
    (enrollOpen e s).replies = s.replies ∧ (enrollOpen e s).mediaOut = s.mediaOut ∧
    (enrollOpen e s).counters = s.counters ∧ (enrollOpen e s).pending = s.pending ∧
    (enrollOpen e s).cred.n = s.cred.n ∧ (enrollOpen e s).cred.profiles = s.cred.profiles ∧
    (enrollOpen e s).ctl.openProfile = s.ctl.openProfile ∧ (enrollOpen e s).ctl.attached = s.ctl.attached := by
  refine ⟨?_, ?_, ?_, ?_, ?_, ?_, ?_, ?_, ?_, ?_, ?_, ?_, ?_, ?_, ?_, ?_, ?_, ?_⟩ <;> (unfold enrollOpen; (repeat' split) <;> simp_all)

@[simp] theorem enrollDigit_frame (e : Enroll) (d : Digit) (s : State) : (enrollDigit e d s).front = s.front ∧
    (enrollDigit e d s).media = s.media ∧ (enrollDigit e d s).regions = s.regions ∧
    (enrollDigit e d s).filter = s.filter ∧ (enrollDigit e d s).cipher = s.cipher ∧
    (enrollDigit e d s).erase = s.erase ∧ (enrollDigit e d s).window = s.window ∧
    (enrollDigit e d s).store = s.store ∧ (enrollDigit e d s).power = s.power ∧
    (enrollDigit e d s).flash = s.flash ∧ (enrollDigit e d s).replies = s.replies ∧
    (enrollDigit e d s).mediaOut = s.mediaOut ∧ (enrollDigit e d s).counters = s.counters ∧
    (enrollDigit e d s).pending = s.pending ∧ (enrollDigit e d s).cred.n = s.cred.n ∧
    (enrollDigit e d s).cred.profiles = s.cred.profiles ∧ (enrollDigit e d s).ctl.openProfile = s.ctl.openProfile ∧
    (enrollDigit e d s).ctl.attached = s.ctl.attached := by
  refine ⟨?_, ?_, ?_, ?_, ?_, ?_, ?_, ?_, ?_, ?_, ?_, ?_, ?_, ?_, ?_, ?_, ?_, ?_⟩ <;> (unfold enrollDigit; (repeat' split) <;> simp_all)

@[simp] theorem enrollKey_frame (e : Enroll) (k : Key) (s : State) : (enrollKey e k s).front = s.front ∧
    (enrollKey e k s).media = s.media ∧ (enrollKey e k s).regions = s.regions ∧
    (enrollKey e k s).filter = s.filter ∧ (enrollKey e k s).erase = s.erase ∧ (enrollKey e k s).window = s.window ∧
    (enrollKey e k s).store = s.store ∧ (enrollKey e k s).power = s.power ∧ (enrollKey e k s).flash = s.flash ∧
    (enrollKey e k s).replies = s.replies ∧ (enrollKey e k s).mediaOut = s.mediaOut ∧
    (enrollKey e k s).counters = s.counters ∧ (enrollKey e k s).pending = s.pending ∧
    (enrollKey e k s).cipher.run = s.cipher.run ∧ (enrollKey e k s).cred.n = s.cred.n ∧
    (enrollKey e k s).cred.profiles = s.cred.profiles ∧ (enrollKey e k s).ctl.attached = s.ctl.attached := by
  refine ⟨?_, ?_, ?_, ?_, ?_, ?_, ?_, ?_, ?_, ?_, ?_, ?_, ?_, ?_, ?_, ?_, ?_⟩ <;> (unfold enrollKey; (repeat' split) <;> simp_all)

@[simp] theorem keyEnrolling_frame (k : Key) (s : State) : (keyEnrolling k s).front = s.front ∧
    (keyEnrolling k s).media = s.media ∧ (keyEnrolling k s).regions = s.regions ∧
    (keyEnrolling k s).filter = s.filter ∧ (keyEnrolling k s).erase = s.erase ∧
    (keyEnrolling k s).window = s.window ∧ (keyEnrolling k s).store = s.store ∧ (keyEnrolling k s).power = s.power ∧
    (keyEnrolling k s).flash = s.flash ∧ (keyEnrolling k s).replies = s.replies ∧
    (keyEnrolling k s).mediaOut = s.mediaOut ∧ (keyEnrolling k s).counters = s.counters ∧
    (keyEnrolling k s).pending = s.pending ∧ (keyEnrolling k s).cipher.run = s.cipher.run ∧
    (keyEnrolling k s).cred.n = s.cred.n ∧ (keyEnrolling k s).cred.profiles = s.cred.profiles ∧
    (keyEnrolling k s).ctl.attached = s.ctl.attached := by
  refine ⟨?_, ?_, ?_, ?_, ?_, ?_, ?_, ?_, ?_, ?_, ?_, ?_, ?_, ?_, ?_, ?_, ?_⟩ <;> (unfold keyEnrolling; (repeat' split) <;> simp_all)

@[simp] theorem keyPress_frame (k : Key) (s : State) : (keyPress k s).front = s.front ∧
    (keyPress k s).media = s.media ∧ (keyPress k s).regions = s.regions ∧ (keyPress k s).filter = s.filter ∧
    (keyPress k s).erase = s.erase ∧ (keyPress k s).window = s.window ∧ (keyPress k s).power = s.power ∧
    (keyPress k s).flash = s.flash ∧ (keyPress k s).replies = s.replies ∧ (keyPress k s).mediaOut = s.mediaOut ∧
    (keyPress k s).counters = s.counters ∧ (keyPress k s).pending = s.pending ∧
    (keyPress k s).cipher.run = s.cipher.run ∧ (keyPress k s).cred.profiles = s.cred.profiles ∧
    (keyPress k s).ctl.attached = s.ctl.attached ∧ (keyPress k s).store.effective = s.store.effective := by
  refine ⟨?_, ?_, ?_, ?_, ?_, ?_, ?_, ?_, ?_, ?_, ?_, ?_, ?_, ?_, ?_, ?_⟩ <;> (unfold keyPress; (repeat' split) <;> simp_all)

@[simp] theorem press_frame (i : KeyIx) (s : State) : (press i s).front = s.front ∧ (press i s).media = s.media ∧
    (press i s).regions = s.regions ∧ (press i s).filter = s.filter ∧ (press i s).erase = s.erase ∧
    (press i s).window = s.window ∧ (press i s).flash = s.flash ∧ (press i s).replies = s.replies ∧
    (press i s).mediaOut = s.mediaOut ∧ (press i s).counters = s.counters ∧ (press i s).pending = s.pending ∧
    (press i s).cipher.run = s.cipher.run ∧ (press i s).cred.profiles = s.cred.profiles ∧
    (press i s).ctl.attached = s.ctl.attached ∧ (press i s).power.source = s.power.source ∧
    (press i s).power.on = s.power.on ∧ (press i s).store.effective = s.store.effective := by
  refine ⟨?_, ?_, ?_, ?_, ?_, ?_, ?_, ?_, ?_, ?_, ?_, ?_, ?_, ?_, ?_, ?_, ?_⟩ <;> (unfold press; simp)

@[simp] theorem comparisonEnds_frame (c : Comparison) (s : State) : (comparisonEnds c s).media = s.media ∧
    (comparisonEnds c s).window = s.window ∧ (comparisonEnds c s).power = s.power ∧
    (comparisonEnds c s).flash = s.flash ∧ (comparisonEnds c s).mediaOut = s.mediaOut ∧
    (comparisonEnds c s).pending = s.pending ∧ (comparisonEnds c s).front.link = s.front.link ∧
    (comparisonEnds c s).cipher.run = s.cipher.run ∧ (comparisonEnds c s).ctl.attached = s.ctl.attached ∧
    (comparisonEnds c s).store.effective = s.store.effective := by
  refine ⟨?_, ?_, ?_, ?_, ?_, ?_, ?_, ?_, ?_, ?_⟩ <;> (unfold comparisonEnds; (repeat' split) <;> simp_all)

end Sys2Proof.Machine
end

