-- ==== Sys2Proof/Laws/Image.lean ====
section
/-! SUPPORT. The media image (R73): every operation keeps its canonical form, reset has it, a read after a write to
the same sector gives what was written, and a write leaves every other sector alone. -/

namespace Sys2Proof.Machine

open Sys2Proof

/-! ### The canonical form -/

/-- A lower bound of the form may be lowered. -/
theorem flashWfFrom_mono {lo lo' : Nat} (h : lo ≤ lo') {l : List (Nat × Content)} (hl : flashWfFrom lo' l = true) :
    flashWfFrom lo l = true := by
  cases l with
  | nil => rfl
  | cons p l =>
    obtain ⟨a, c⟩ := p
    simp only [flashWfFrom, Bool.and_eq_true, decide_eq_true_eq] at hl ⊢
    exact ⟨⟨by omega, hl.1.2⟩, hl.2⟩

/-- Sectors below every listed one read as unknown. -/
theorem flashRead_below {lo a : Nat} (h : a < lo) {l : List (Nat × Content)} (hl : flashWfFrom lo l = true) :
    flashRead l a = .unknown := by
  induction l generalizing lo with
  | nil => rfl
  | cons p l ih =>
    obtain ⟨b, c⟩ := p
    simp only [flashWfFrom, Bool.and_eq_true, decide_eq_true_eq] at hl
    have hne : a ≠ b := by omega
    simp only [flashRead, hne, if_false]
    exact ih (by omega : a < b + 1) hl.2

/-- Removing an entry keeps the form. -/
theorem flashErase_wf (a : Nat) {lo : Nat} {l : List (Nat × Content)} (hl : flashWfFrom lo l = true) :
    flashWfFrom lo (flashErase a l) = true := by
  induction l generalizing lo with
  | nil => rfl
  | cons p l ih =>
    obtain ⟨b, c⟩ := p
    simp only [flashWfFrom, Bool.and_eq_true, decide_eq_true_eq] at hl
    unfold flashErase
    split
    · exact flashWfFrom_mono (by omega) hl.2
    · split
      · simp [flashWfFrom, hl]
      · simp [flashWfFrom, hl, ih hl.2]

/-- Putting an entry that is not unknown keeps the form. -/
theorem flashPut_wf {a : Nat} {x : Content} (hx : x ≠ .unknown) {lo : Nat} (ha : lo ≤ a) {l : List (Nat × Content)}
    (hl : flashWfFrom lo l = true) : flashWfFrom lo (flashPut a x l) = true := by
  induction l generalizing lo with
  | nil => simp [flashPut, flashWfFrom, ha, hx]
  | cons p l ih =>
    obtain ⟨b, c⟩ := p
    simp only [flashWfFrom, Bool.and_eq_true, decide_eq_true_eq] at hl
    unfold flashPut
    split
    · next h => subst h; simp [flashWfFrom, ha, hx, hl.2]
    · split
      · next h1 h2 =>
        have : a + 1 ≤ b := h2
        simp [flashWfFrom, ha, hx, hl, this]
      · next h1 h2 =>
        have hab : b + 1 ≤ a := by omega
        simp [flashWfFrom, hl, ih hab hl.2]

/-- A write of one sector keeps the form. -/
theorem flashWrite_wf (a : Nat) (x : Content) {l : List (Nat × Content)} (hl : flashWf l = true) :
    flashWf (flashWrite a x l) = true := by
  unfold flashWf at *
  cases x with
  | unknown => exact flashErase_wf a hl
  | plain p => exact flashPut_wf (by simp) (Nat.zero_le a) hl
  | cipher i p => exact flashPut_wf (by simp) (Nat.zero_le a) hl

/-- A write of sectors in LBA order keeps the form. -/
theorem flashWriteAll_wf (xs : List Content) (a : Nat) {l : List (Nat × Content)} (hl : flashWf l = true) :
    flashWf (flashWriteAll a xs l) = true := by
  induction xs generalizing a l with
  | nil => exact hl
  | cons x xs ih => exact ih (a + 1) (flashWrite_wf a x hl)

/-- Making a range unknown keeps the form. -/
theorem flashForget_wf (r : Range) {l : List (Nat × Content)} (hl : flashWf l = true) :
    flashWf (flashForget r l) = true := by
  unfold flashWf at *
  have key : ∀ (l : List (Nat × Content)) (lo : Nat), flashWfFrom lo l = true →
      flashWfFrom lo (flashForget r l) = true := by
    intro l
    induction l with
    | nil => intro lo _; rfl
    | cons p l ih =>
      obtain ⟨b, c⟩ := p
      intro lo hl
      simp only [flashWfFrom, Bool.and_eq_true, decide_eq_true_eq] at hl
      have ht := ih (b + 1) hl.2
      unfold flashForget at ht ⊢
      cases hb : r.has b
      · rw [List.filter_cons_of_pos (by simp [hb])]
        simp only [flashWfFrom, Bool.and_eq_true, decide_eq_true_eq]
        exact ⟨hl.1, ht⟩
      · rw [List.filter_cons_of_neg (by simp [hb])]
        exact flashWfFrom_mono (by omega) ht
  exact key l 0 hl

/-- The image after reset is canonical. -/
theorem reset_flash_wf : flashWf State.reset.flash = true := rfl

/-! ### Reads after writes -/

/-- What a sector reads after an entry was put: the entry at its place, every other sector as before. -/
theorem flashRead_put (a b : Nat) (x : Content) (l : List (Nat × Content)) :
    flashRead (flashPut a x l) b = if b = a then x else flashRead l b := by
  induction l with
  | nil => rfl
  | cons p l ih =>
    obtain ⟨k, c⟩ := p
    unfold flashPut
    split
    · next h =>
      subst h
      by_cases hb : b = a <;> simp [flashRead, hb]
    · split
      · by_cases hb : b = a <;> simp [flashRead, hb]
      · next h1 _ =>
        by_cases hk : b = k
        · have : b ≠ a := by omega
          simp [flashRead, hk]
          intro h
          omega
        · simp [flashRead, hk, ih]

/-- What a sector reads after an entry was removed from a canonical image. -/
theorem flashRead_erase (a b : Nat) {lo : Nat} {l : List (Nat × Content)} (hl : flashWfFrom lo l = true) :
    flashRead (flashErase a l) b = if b = a then .unknown else flashRead l b := by
  induction l generalizing lo with
  | nil => simp [flashErase, flashRead]
  | cons p l ih =>
    obtain ⟨k, c⟩ := p
    simp only [flashWfFrom, Bool.and_eq_true, decide_eq_true_eq] at hl
    unfold flashErase
    split
    · next h =>
      subst h
      by_cases hb : b = a
      · subst hb
        simp [flashRead_below (Nat.lt_succ_self b) hl.2]
      · simp [flashRead, hb]
    · split
      · next h1 h2 =>
        by_cases hb : b = a
        · subst hb
          have hne : b ≠ k := h1
          simp [flashRead, hne, flashRead_below (by omega : b < k + 1) hl.2]
        · simp [hb]
      · next h1 h2 =>
        by_cases hk : b = k
        · have : b ≠ a := by omega
          subst hk
          simp [flashRead, this]
        · simp [flashRead, hk, ih hl.2]

/-- A read after a write of one sector (R73). -/
theorem flashRead_write (a b : Nat) (x : Content) {l : List (Nat × Content)} (hl : flashWf l = true) :
    flashRead (flashWrite a x l) b = if b = a then x else flashRead l b := by
  cases x with
  | unknown => exact flashRead_erase a b hl
  | plain p => exact flashRead_put a b _ l
  | cipher i p => exact flashRead_put a b _ l

/-- A read after a range was made unknown (R73). -/
theorem flashRead_forget (r : Range) (b : Nat) (l : List (Nat × Content)) :
    flashRead (flashForget r l) b = if r.has b then .unknown else flashRead l b := by
  unfold flashForget
  induction l with
  | nil => simp [flashRead]
  | cons p l ih =>
    obtain ⟨k, c⟩ := p
    cases hk : r.has k
    · rw [List.filter_cons_of_pos (by simp [hk])]
      by_cases hb : b = k
      · subst hb
        simp [flashRead, hk]
      · simp [flashRead, hb, ih]
    · rw [List.filter_cons_of_neg (by simp [hk])]
      by_cases hb : b = k
      · subst hb
        simp [ih, hk]
      · simp [flashRead, hb, ih]

end Sys2Proof.Machine
end

