-- ==== Sys2Proof/Laws/Operations.lean ====
section
/-! SUPPORT. What each branching shared operation can do, said once: it leaves the state as it is, or it makes the
change named here under the conditions named here. -/

namespace Sys2Proof.Machine

open Sys2Proof

/-- The store starts the head entry's commit, or nothing (R193, R195). -/
theorem startNext_cases (s : State) :
    startNext s = s ∨
      ∃ e rest, s.store.queue = e :: rest ∧ s.store.busy = none ∧ s.ctl.drive ≠ .fault ∧
        startNext s = { s with
          store.queue := rest
          store.busy := some ⟨s.capture e.record, e.waiters, s.erase.additions⟩ } := by
  unfold startNext
  split
  · exact .inl rfl
  · next h =>
    rw [not_or, Option.not_isSome_iff_eq_none] at h
    split
    · exact .inl rfl
    · next e rest hq => exact .inr ⟨e, rest, hq, h.2, h.1, rfl⟩

/-- The power unit enters STANDBY where R203's conditions hold, keeping the debounce states for the scan of that
moment (R117), or changes nothing. -/
theorem standbyCheck_cases (s : State) :
    standbyCheck s = s ∨
      (s.standbyDue = true ∧ standbyCheck s = leaveActive { s with
        power := { s.power with mode := .standby, lastScan := some s.keypad.keys } }) := by
  unfold standbyCheck
  split
  · next h => exact .inr ⟨h, rfl⟩
  · exact .inl rfl

/-- The expiry of the standby idle timer enters STANDBY, keeping the debounce states of the scan of that moment, or
only counts as taken (R203). -/
theorem idleExpires_cases (s : State) :
    idleExpires s = { s with power.idle := .expired } ∨
      ({ s with power.idle := .expired }.standbyDue = true ∧
        idleExpires s = leaveActive { s with
          power := { s.power with idle := .expired, mode := .standby, lastScan := some s.keypad.keys } }) :=
  standbyCheck_cases { s with power.idle := .expired }

/-- Counting additions from another number on changes nothing that the numbers say (R102, R112). -/
theorem addedBefore_sub (noted a n : BitVec 32) : addedBefore (noted - n) (a - n) = addedBefore noted a := by
  have h : noted - n - (a - n) = noted - a := by bv_omega
  rw [addedBefore, addedBefore, h]

/-- An addition made before the count became 0 is one made before a commit that notes the 0 (R59, R112). -/
theorem addedBefore_rebased (count a : BitVec 32) (h : addedBefore count a = true) :
    addedBefore 0 (a - count) = true := by
  rw [← h, ← addedBefore_sub count a count, BitVec.sub_self]
  rfl

/-- A scan's PRESS is taken, or there is none (R115). -/
theorem pressAfter_cases (was now : Vector KeyState 12) (s : State) :
    (pressOf was now = none ∧ pressAfter was now s = s) ∨
      ∃ i, pressOf was now = some i ∧ pressAfter was now s = press i s := by
  unfold pressAfter
  cases pressOf was now <;> simp

/-- A lock trigger locks in the states of R162, or changes nothing. -/
theorem lockTrigger_cases (s : State) :
    (s.lockable = true ∧ lockTrigger s = lockDrive s) ∨ (s.lockable = false ∧ lockTrigger s = s) := by
  unfold lockTrigger
  cases s.lockable <;> simp

/-- The first of the queued jobs ends its wait (R87): it acts (R88), or it leaves at once and the next one is looked at
(R89); or nothing happens. -/
theorem runJobs_cases (l : List Job) (s : State) :
    runJobs l s = s ∨
      ∃ j rest, l = j :: rest ∧ s.erase.stage = .waitCount ∧ s.filter.inFlight[j.pos] = 0 ∧ s.ctl.drive ≠ .fault ∧
        ((endsAtOnce s j = false ∧ runJobs l s = runHead j s) ∨
          (endsAtOnce s j = true ∧ runJobs l s = runJobs rest (dropHead rest s))) := by
  cases l with
  | nil => exact .inl rfl
  | cons j rest =>
    by_cases h : s.erase.stage = .waitCount ∧ s.filter.inFlight[j.pos] = 0 ∧ s.ctl.drive ≠ .fault
    · refine .inr ⟨j, rest, rfl, h.1, h.2.1, h.2.2, ?_⟩
      cases he : endsAtOnce s j
      · exact .inl ⟨rfl, (if_pos h).trans (if_neg (by simp [he]))⟩
      · exact .inr ⟨rfl, (if_pos h).trans (if_pos he)⟩
    · exact .inl (if_neg h)

/-- The end of a drain swaps the tables or starts the test's run (R34, R44, R81), or nothing happens. -/
theorem drainCheck_cases (s : State) :
    drainCheck s = s ∨
      (s.filter.total = 0 ∧ s.filter.quiesce = .apply ∧
        ∃ n, s.regions.snapshot = some n ∧ n.swapped = false ∧ drainCheck s = swapTables n s) ∨
      (s.filter.total = 0 ∧ s.filter.quiesce = .test ∧ s.cipher.test.state = .draining ∧
        drainCheck s = startTestRun s) := by
  unfold drainCheck
  split
  · exact .inl rfl
  · next ht =>
    have ht : s.filter.total = 0 := not_not.mp ht
    split
    · exact .inl rfl
    · next hq =>
      split
      · next n hn =>
        by_cases hs : n.swapped = true
        · exact .inl (if_pos hs)
        · exact .inr (.inl ⟨ht, hq, n, hn, Bool.eq_false_iff.mpr hs, if_neg hs⟩)
      · exact .inl rfl
    · next hq =>
      by_cases hs : s.cipher.test.state = .draining
      · exact .inr (.inr ⟨ht, hq, hs, if_pos hs⟩)
      · exact .inl (if_neg hs)

/-- The sweep finishes where no sector is left below L (R98), or nothing happens. -/
theorem sweepDecide_cases (s : State) :
    sweepDecide s = s ∨
      ∃ x l, s.sweeping = some x ∧ s.sweepLimit x.pos = some l ∧ s.ctl.drive ≠ .fault ∧ x.phase = .running ∧
        x.chunk = none ∧ l ≤ stepOver x.keep x.q ∧ sweepDecide s = beginEnding .done s := by
  unfold sweepDecide
  split
  · exact .inl rfl
  · next x hx =>
    split
    · exact .inl rfl
    · next l hl =>
      by_cases h : s.ctl.drive ≠ .fault ∧ x.phase = .running ∧ x.chunk = none ∧ l ≤ stepOver x.keep x.q
      · exact .inr ⟨x, l, hx, hl, h.1, h.2.1, h.2.2.1, h.2.2.2, if_pos h⟩
      · exact .inl (if_neg h)

/-- A profile is opened nowhere in FAULT and in WIPING (R157). -/
theorem openDrive_of_fault {s : State} (h : s.ctl.drive = .fault ∨ s.ctl.drive = .wiping) (p : ProfIx)
    (accept : Bool) : openDrive p accept s = s := if_pos h

/-- A wipe trigger has no effect in FAULT and in WIPING (R165). -/
theorem startWipe_of_fault {s : State} (h : s.ctl.drive = .fault ∨ s.ctl.drive = .wiping) : startWipe s = s :=
  if_pos h

/-- A report taken in FAULT leaves everything as it stands (R170). -/
theorem enterFault_of_fault {s : State} (h : s.ctl.drive = .fault) (c : FaultCause) : enterFault c s = s := if_pos h

end Sys2Proof.Machine
end

