-- ==== Sys2Proof/Laws/PerInstr.lean ====
section
/-! SUPPORT. The family RequestRows, one lemma per command: a privileged row is a request row whose code is one of
03h to 0Eh, and no request row is the loss or the return of power. -/

namespace Sys2Proof.Laws.RequestRows

open Sys2Proof

/-- What the family says of a command, as syntax (section 9.2, R189). -/
def Statement (i : Instr) : Prop :=
  (i.privileged = true → ∃ tag seq code, i.request = some (tag, seq, code) ∧ 3 ≤ code.toNat ∧ code.toNat ≤ 14) ∧
    (i.request.isSome = true → i.isPower = false)

theorem powerOn (d : BitVec 24) : Statement (.powerOn d) :=
  ⟨nofun, nofun⟩

theorem attach : Statement .attach :=
  ⟨nofun, fun _ => rfl⟩

theorem detach : Statement .detach :=
  ⟨nofun, fun _ => rfl⟩

theorem linkReset : Statement .linkReset :=
  ⟨nofun, fun _ => rfl⟩

theorem mediaReady : Statement .mediaReady :=
  ⟨nofun, fun _ => rfl⟩

theorem frontRequestArrival (kind tag : Byte) (start : BitVec 32) (count : BitVec 16) (sector : Sector) : Statement (.frontRequestArrival kind tag start count sector) :=
  ⟨nofun, fun _ => rfl⟩

theorem status (tag : Tag) (seq : Byte) : Statement (.status tag seq) :=
  ⟨nofun, fun _ => rfl⟩

theorem lock (tag : Tag) (seq : Byte) : Statement (.lock tag seq) :=
  ⟨nofun, fun _ => rfl⟩

theorem readTable (tag : Tag) (seq : Byte) : Statement (.readTable tag seq) :=
  ⟨fun _ => ⟨_, _, _, rfl, by decide, by decide⟩, fun _ => rfl⟩

theorem stageRegion (tag : Tag) (seq position present cls writable slot : Byte) (base length : BitVec 32) : Statement (.stageRegion tag seq position present cls writable slot base length) :=
  ⟨fun _ => ⟨_, _, _, rfl, by decide, by decide⟩, fun _ => rfl⟩

theorem setSlotMask (tag : Tag) (seq slot mask : Byte) : Statement (.setSlotMask tag seq slot mask) :=
  ⟨fun _ => ⟨_, _, _, rfl, by decide, by decide⟩, fun _ => rfl⟩

theorem clearPending (tag : Tag) (seq : Byte) : Statement (.clearPending tag seq) :=
  ⟨fun _ => ⟨_, _, _, rfl, by decide, by decide⟩, fun _ => rfl⟩

theorem applyTable (tag : Tag) (seq : Byte) : Statement (.applyTable tag seq) :=
  ⟨fun _ => ⟨_, _, _, rfl, by decide, by decide⟩, fun _ => rfl⟩

theorem eraseRegion (tag : Tag) (seq position mode : Byte) : Statement (.eraseRegion tag seq position mode) :=
  ⟨fun _ => ⟨_, _, _, rfl, by decide, by decide⟩, fun _ => rfl⟩

theorem cancelSweep (tag : Tag) (seq : Byte) : Statement (.cancelSweep tag seq) :=
  ⟨fun _ => ⟨_, _, _, rfl, by decide, by decide⟩, fun _ => rfl⟩

theorem enroll (tag : Tag) (seq slot kind : Byte) : Statement (.enroll tag seq slot kind) :=
  ⟨fun _ => ⟨_, _, _, rfl, by decide, by decide⟩, fun _ => rfl⟩

theorem removeProfile (tag : Tag) (seq slot : Byte) : Statement (.removeProfile tag seq slot) :=
  ⟨fun _ => ⟨_, _, _, rfl, by decide, by decide⟩, fun _ => rfl⟩

theorem setOptions (tag : Tag) (seq minPin free threshold inactivity chunk pace : Byte) : Statement (.setOptions tag seq minPin free threshold inactivity chunk pace) :=
  ⟨fun _ => ⟨_, _, _, rfl, by decide, by decide⟩, fun _ => rfl⟩

theorem selfTestCipher (tag : Tag) (seq : Byte) : Statement (.selfTestCipher tag seq) :=
  ⟨nofun, fun _ => rfl⟩

theorem selfTestCipherInject (tag : Tag) (seq : Byte) : Statement (.selfTestCipherInject tag seq) :=
  ⟨nofun, fun _ => rfl⟩

theorem selfTestMedia (tag : Tag) (seq passes : Byte) : Statement (.selfTestMedia tag seq passes) :=
  ⟨fun _ => ⟨_, _, _, rfl, by decide, by decide⟩, fun _ => rfl⟩

theorem wipeAll (tag : Tag) (seq : Byte) : Statement (.wipeAll tag seq) :=
  ⟨fun _ => ⟨_, _, _, rfl, by decide, by decide⟩, fun _ => rfl⟩

theorem unknownRequest (tag : Tag) (seq code : Byte) : Statement (.unknownRequest tag seq code) :=
  ⟨nofun, fun _ => rfl⟩

theorem admission : Statement .admission :=
  ⟨nofun, fun _ => rfl⟩

theorem writeDataSector (data : Sector) : Statement (.writeDataSector data) :=
  ⟨nofun, fun _ => rfl⟩

theorem slotGrant : Statement .slotGrant :=
  ⟨nofun, fun _ => rfl⟩

theorem mediaCompletion (tag : Tag) (status : Byte) (span : BitVec 32) (data : MediaData) : Statement (.mediaCompletion tag status span data) :=
  ⟨nofun, fun _ => rfl⟩

theorem tagTimeout (tag : Tag) : Statement (.tagTimeout tag) :=
  ⟨nofun, fun _ => rfl⟩

theorem commitCompletion (verified : Bool) : Statement (.commitCompletion verified) :=
  ⟨nofun, fun _ => rfl⟩

theorem cipherTestEnd (mismatches : BitVec 16) : Statement (.cipherTestEnd mismatches) :=
  ⟨nofun, fun _ => rfl⟩

theorem comparisonResult : Statement .comparisonResult :=
  ⟨nofun, fun _ => rfl⟩

theorem keypadScan (pressed : BitVec 12) : Statement (.keypadScan pressed) :=
  ⟨nofun, fun _ => rfl⟩

theorem patternStepExpiry : Statement .patternStepExpiry :=
  ⟨nofun, fun _ => rfl⟩

theorem entryTimerExpiry : Statement .entryTimerExpiry :=
  ⟨nofun, fun _ => rfl⟩

theorem backoffTimerExpiry : Statement .backoffTimerExpiry :=
  ⟨nofun, fun _ => rfl⟩

theorem attachWindowExpiry : Statement .attachWindowExpiry :=
  ⟨nofun, fun _ => rfl⟩

theorem inactivityExpiry : Statement .inactivityExpiry :=
  ⟨nofun, fun _ => rfl⟩

theorem standbyIdleTimerExpiry : Statement .standbyIdleTimerExpiry :=
  ⟨nofun, fun _ => rfl⟩

theorem keypadColumnEdge : Statement .keypadColumnEdge :=
  ⟨nofun, fun _ => rfl⟩

theorem settlingTimerExpiry (pressed : BitVec 12) : Statement (.settlingTimerExpiry pressed) :=
  ⟨nofun, fun _ => rfl⟩

theorem powerLoss : Statement .powerLoss :=
  ⟨nofun, nofun⟩

end Sys2Proof.Laws.RequestRows
end

