-- ==== Sys2Proof/Laws/Window.lean ====
section
/-! SUPPORT. What the arrival of a request and its taking do, said once: the arrival's report, the four ways a request
row can go, and the operations of the store that answer nothing themselves. -/

namespace Sys2Proof.Machine

open Sys2Proof

/-- The header a request is sent with reads back as the request (R188). -/
theorem arrivalOf_requestHeader (tag : Tag) (k : Kind) (r : Range) (x : Sector) :
    arrivalOf (headerOfBytes (requestHeader tag k r)) x =
      .frontRequestArrival k.code (BitVec.ofNat 8 tag.val) (BitVec.ofNat 32 r.lo) (BitVec.ofNat 16 r.len) x := by
  unfold arrivalOf headerOfBytes requestHeader headerWord headerCount headerByte le32 le16
  simp only [Instr.frontRequestArrival.injEq, and_true]
  refine ⟨?_, ?_, ?_, ?_⟩ <;> apply BitVec.eq_of_toNat_eq <;>
    simp [bytesValue, Nat.shiftRight_eq_div_pow] <;> omega

/-- An event that leaves a timer as it is races no expiry of it. -/
@[simp] theorem raced_self (t : Timer) : raced t t = false := by
  rcases t with _ | _ | n <;> rfl

/-- An event that stops a timer races no expiry of it. -/
@[simp] theorem raced_none (t : Timer) : raced t none = false := by simp [raced]

/-- An event after which a timer has time left races the expiry exactly where the timer stood at 0 ms. -/
@[simp] theorem raced_some (t : Timer) (n : Nat) : raced t (some (n + 1)) = (t == some 0) := by simp [raced]

/-- A restart of the inactivity timer races the expiry where the timer stood at 0 ms and the period is not off. -/
theorem raced_inactivity (n v : Nat) :
    raced (some n) (if v = 0 then none else some (60000 * 2 ^ (v - 1))) = (n == 0 && v != 0) := by
  by_cases h : v = 0
  · simp [raced, h]
  · have hp : (60000 * 2 ^ (v - 1) != 0) = true := by simp
    simp [raced, h, hp]

/-- The report of an arrival is `State.arrived` (R160, R161). -/
theorem reportArrival_eq_arrived (s : State) : reportArrival s = s.arrived := by
  obtain ⟨_, _, _, _, _, _, _, _, ⟨_, _, _, _, i, _, _, _, _⟩⟩ := s
  cases i with
  | none => simp [reportArrival, withdrawRaced, restartInactivity, State.arrived]
  | some n =>
    simp [reportArrival, withdrawRaced, restartInactivity, startInactivity, State.arrived, inactivityMs,
      raced_inactivity]

/-- A request that is heard is taken in the state its arrival leaves, and answered (R175). -/
theorem windowRequest_of_hears {s : State} {tag : Tag} (h : s.hears tag) (seq code : Byte) (take : State → Taken) :
    windowRequest tag seq code take s =
      (take s.arrived).2.2.answered tag seq code (take s.arrived).1 (take s.arrived).2.1 := by
  have h2 : s.arrived.front.tags[tag] = .free := h.2
  unfold windowRequest
  rw [if_neg (not_not.mpr h.1), reportArrival_eq_arrived]
  exact if_neg (not_not.mpr h2)

/-- No request arrives while the link is DETACHED (R3). -/
theorem windowRequest_of_detached {s : State} (h : s.front.link = .detached) (tag : Tag) (seq code : Byte)
    (take : State → Taken) : windowRequest tag seq code take s = s := by
  simp [windowRequest, h]

/-- An OUTSTANDING tag gets TAG_IN_USE (R7). -/
theorem windowRequest_of_inUse {s : State} {tag : Tag} (h : s.front.link = .attached)
    (ht : s.front.tags[tag] ≠ .free) (seq code : Byte) (take : State → Taken) :
    windowRequest tag seq code take s = s.arrived.replied tag .tagInUse := by
  have h2 : s.arrived.front.tags[tag] ≠ .free := ht
  unfold windowRequest
  rw [if_neg (not_not.mpr h), reportArrival_eq_arrived]
  exact if_pos h2

/-- Outside FAULT the gate hands a request on (R176). -/
theorem faultGate_open {s : State} (h : s.ctl.drive ≠ .fault) (take : State → Taken) :
    faultGate take s = take s := by
  simp [faultGate, h]

/-- In FAULT the gate answers NOT_NOW (R176). -/
theorem faultGate_fault {s : State} (h : s.ctl.drive = .fault) (take : State → Taken) :
    faultGate take s = (.notNow, [], s) := by
  simp [faultGate, h, answer]

/-- While the part has the link's power, the standby conditions fail (R203). -/
theorem standbyCheck_of_link {s : State} (h : s.power.source = .link) : standbyCheck s = s := by
  simp [standbyCheck, State.standbyDue, h]

/-- A request into an idle store starts its commit at once (R193). -/
theorem requestCommit_idle {s : State} (r : RecordId) (ws : List Waiter) (hb : s.store.busy = none)
    (hq : s.store.queue = []) (hd : s.ctl.drive ≠ .fault) :
    requestCommit r ws s = { s with store.busy := some ⟨s.capture r, ws, s.erase.additions⟩ } := by
  have he : enqueue r ws s.store.queue = [⟨r, ws⟩] := by rw [hq]; rfl
  unfold requestCommit startNext
  rw [he]
  simp only [hd, hb, Option.isSome_none, Bool.false_eq_true, or_self, ↓reduceIte]
  rw [← hq]
  cases r <;> rfl

end Sys2Proof.Machine
end

