-- ==== Sys2Proof/Tests/Slice0.lean ====
section
/-! SUPPORT. Small tests whose expected values come from the spec's own tables and worked cases, the ill-formed terms
that each check of WellFormed refuses, and for every statement with hypotheses a state that meets them. -/

namespace Sys2Proof.Tests

open Sys2Proof Sys2Proof.Machine

set_option maxRecDepth 8000

/-! ### Well-formedness and the decoder -/

theorem test_unknownRequest_with_a_known_code_refused : (Instr.unknownRequest 0 0 1).wf = false := by decide

theorem test_unknownRequest_with_the_last_code_refused : (Instr.unknownRequest 0 0 14).wf = false := by decide

theorem test_unknownRequest_accepted : (Instr.unknownRequest 0 0 15).wf = true := by decide

theorem test_too_much_media_data_refused :
    (Instr.mediaCompletion 0 0 0 (.given (List.replicate 257 .unknown))).wf = false := by decide

theorem test_media_data_of_256_accepted :
    (Instr.mediaCompletion 0 0 0 (.given (List.replicate 256 .unknown))).wf = true := by decide

theorem test_words_spell_no_command : decodeTableWord 32 0x5730344B = none := rfl

/-! ### The spec's tables and worked cases -/

/-- The keypad of section 6.1: rows 1 2 3, 4 5 6, 7 8 9, LOCK 0 OPEN. -/
theorem test_keypad_matrix :
    (List.finRange 12).map keyAt =
      [.digit 1, .digit 2, .digit 3, .digit 4, .digit 5, .digit 6, .digit 7, .digit 8, .digit 9,
       .lockKey, .digit 0, .openKey] := by decide

/-- The delays of the worked case after R149 (F = 5). -/
theorem test_backoff_worked_case :
    [4, 5, 6, 7, 10, 15, 19].map (backoffSeconds 5) = [0, 2, 4, 8, 64, 2048, 2048] := by decide

/-- The delays of R148 with F = 10: n = 20 and n = 255 both give 2,048 s. -/
theorem test_backoff_with_ten_free : [9, 10, 20, 255].map (backoffSeconds 10) = [0, 2, 2048, 2048] := by decide

/-- R196: 0 free attempts are taken as 1, and T from 1 to F as F + 1. -/
theorem test_options_clamp_low : (RawOptions.mk 5 0 1 0 0 0).clamp = ⟨6, 1, 2, 0, 0, 1⟩ := by decide

/-- R196: values above the range take its upper end, and T is clamped against the clamped F. -/
theorem test_options_clamp_high : (RawOptions.mk 13 11 255 9 3 17).clamp = ⟨12, 10, 99, 8, 2, 16⟩ := by decide

/-- Steps 0 to 2 of "Merging and pruning in sequence" in spec/05: the first range merges with its neighbour. -/
theorem test_keep_merge_adjacent :
    keepMerge ⟨1200156, 1200300⟩ [⟨1198000, 1198016⟩, ⟨1199900, 1200156⟩, ⟨1500000, 1500064⟩] =
      [⟨1198000, 1198016⟩, ⟨1199900, 1200300⟩, ⟨1500000, 1500064⟩] := by decide

/-- A READ of W + 1 with sequence and code of the response (R190): the signature 4Bh 34h 30h 52h stands first. -/
theorem test_response_signature :
    (Response.toSector ⟨0x21, 0x01, .ok, []⟩).extractLsb' 0 64 = 0x0001012152_30344B#64 := by decide

/-- The header of a WRITE of 128 sectors at LBA 1,196,032 on media tag 3 (R188). -/
theorem test_request_header :
    requestHeader 3 .write ⟨1196032, 1196160⟩ = [2, 3, 0, 0, 0x00, 0x40, 0x12, 0x00, 0x80, 0, 0, 0, 0, 0, 0, 0] := by
  decide

/-- Scratch sector 2 of pass 3: byte j is (37 * 3 + 5 * 2 + j) mod 256, so byte 0 is 121 and byte 511 is 120 (R82). -/
theorem test_media_test_pattern :
    sectorByte (testPattern 3 2) 0 = 121 ∧ sectorByte (testPattern 3 2) 511 = 120 := by decide

/-- Scans 3 to 5 of "Keys pressed in sequence" in spec/06: the third scan in a row takes key 5 DOWN. -/
theorem test_debounce_third_scan :
    debounceKey true (debounceKey true (debounceKey true ⟨false, 0⟩)) = ⟨true, 0⟩ ∧
      debounceKey false (debounceKey true ⟨false, 0⟩) = ⟨false, 0⟩ := by decide

/-! ### States for the witnesses -/

/-- The administrator of the witnesses, with the PIN 1 2 3 4 5 6 7. -/
def admin : Profile := ⟨.admin, 7, 0, ⟨0, [1, 2, 3, 4, 5, 6, 7]⟩⟩

/-- A drive OPEN attached with profile 0 open: E0 PUBLIC [0, 65,536), E1 PRIVATE writable [65,536, 131,072) under
slot 1, U = 1,000,000. -/
def opened : State :=
  { State.reset with
    front.link := .attached
    media := ⟨.ready, some 1000064, Vector.replicate 16 .free, 0, false⟩
    power.source := .link
    regions.table := [⟨0, 65536, .pub, false, none⟩, ⟨65536, 65536, .priv, true, some 1⟩]
    regions.epoch := 12
    cipher.slots := State.reset.cipher.slots.set 1 ⟨.opened, some 0, 1, 1⟩
    cred.profiles := State.reset.cred.profiles.set 0 (some admin)
    ctl := ⟨.opened, some 0, true, none, some 960000, none, none, false, false⟩
    counters := ⟨0, 1, 1, 0⟩ }

/-- The same part LOCKED. -/
def locked : State :=
  { opened with
    ctl := ⟨.locked, none, true, none, none, none, none, false, false⟩
    cipher.slots := State.reset.cipher.slots.set 1 ⟨.closed, some 0, 1, 1⟩ }

/-- What a command leaves. -/
def after (c : Instr) (s : State) : State :=
  match exec c s with
  | .next t => t
  | _ => s

theorem opened_hears : opened.hears 0 := ⟨rfl, rfl⟩

theorem locked_hears : locked.hears 0 := ⟨rfl, rfl⟩

/-- The three premises of a privileged request. -/
theorem opened_admin : opened.hears 0 ∧ opened.ctl.drive ≠ .fault ∧ opened.ctl.openProfile = some 0 :=
  ⟨opened_hears, by decide, rfl⟩

/-! ### Witnesses: the step and the control window -/

theorem witness_StepRunsFrontCommand : exec .attach State.reset = .next (after .attach State.reset) := rfl

theorem witness_IdleStep : State.reset.pending = [] := rfl

/-- A sweep of E1 in progress, with no chunk in flight. -/
def sweep1 : Sweep :=
  { pos := 1, gen := some 2, c := 65536, w := 65536, q := 65536, chunk := none, keep := [], retry := 0,
    phase := .running, outcome := .none }

/-- E1 SWEEPING. -/
def sweeping : State :=
  { opened with
    erase := ⟨[⟨1, .full⟩], .sweeping, some sweep1, 0, .none, 0, 0⟩
    cipher.slots := State.reset.cipher.slots.set 1 ⟨.opened, some 0, 2, 1⟩ }

theorem witness_Status : opened.hears 0 ∧ opened.sweeping = none ∧ sweeping.sweeping = some sweep1 :=
  ⟨opened_hears, rfl, rfl⟩

theorem witness_LockOpen :
    opened.hears 0 ∧ opened.ctl.drive = .opened ∧ opened.power.source = .link ∧ opened.cred.enroll = none :=
  ⟨opened_hears, rfl, rfl, rfl⟩

/-- The locked part in another drive state, with an enrollment from FACTORY at work. -/
def inDrive (d : DriveState) : State :=
  { locked with
    ctl := { locked.ctl with drive := d }
    cred.enroll := some ⟨0, .admin, .factory, .first, [], false, false, false⟩ }

theorem witness_LockElsewhere (d : DriveState) :
    (inDrive d).hears 0 ∧ (inDrive d).power.source = .link ∧ (inDrive d).ctl.drive = d ∧
      ∃ e, (inDrive d).cred.enroll = some e ∧ e.origin = .factory :=
  ⟨⟨rfl, rfl⟩, rfl, rfl, _, rfl, rfl⟩

theorem witness_ReadTable : opened.hears 0 ∧ opened.ctl.drive ≠ .fault ∧ opened.ctl.openProfile = some 0 :=
  opened_admin

/-- Operands of STAGE_REGION and SET_SLOT_MASK at the boundaries of each clause. -/
theorem witness_Staging :
    (opened.hears 0 ∧ opened.ctl.drive ≠ .fault ∧ opened.ctl.openProfile = some 0) ∧
      15 < (16 : Byte).toNat ∧ (15 : Byte).toNat = (15 : Pos).val ∧ (1 : Byte) ≠ 0 ∧
      ((3 : Byte) ≠ 1 ∧ (3 : Byte) ≠ 2) ∧ ((8 : Byte) ≠ 0xFF ∧ 7 < (8 : Byte).toNat) ∧
      (7 : Byte).toNat = (7 : SlotIx).val :=
  ⟨opened_admin, by decide⟩

theorem witness_ClearPending : opened.hears 0 ∧ opened.ctl.drive ≠ .fault ∧ opened.ctl.openProfile = some 0 :=
  opened_admin

/-- The pending table is a copy of the active one. -/
def staged : State := copyPending opened

/-- A pending table that adds a PRIVATE region under slot 2 whose mask names profile 0. -/
def adding : State :=
  { staged with
    regions.pending := staged.regions.pending.set 2 (some ⟨131072, 2048, .priv, true, some 2⟩)
    regions.masks := staged.regions.masks.set 2 1 }

theorem witness_ApplyRefusals :
    (staged.hears 0 ∧ staged.ctl.drive ≠ .fault ∧ staged.ctl.openProfile = some 0) ∧
      { staged with erase.queue := [⟨1, .quick⟩] }.erase.queue ≠ [] ∧
      (staged.regions.apply = .idle ∧ staged.erase.queue = [] ∧ staged.cipher.test.state = .none) ∧
      validate { staged with regions.masks := staged.regions.masks.set 1 0 } = some (.badMask, 1) ∧
      validate { adding with cipher.slots := adding.cipher.slots.set 2 ⟨.empty, none, 4294967295, 0⟩ } = none ∧
      (positionsName adding.regions.pending 2 ≠ tableNames adding.regions.table 2) :=
  ⟨⟨⟨rfl, rfl⟩, by decide +kernel, rfl⟩, by decide +kernel, ⟨rfl, rfl, rfl⟩, by decide +kernel, by decide +kernel, by decide +kernel⟩

theorem witness_ApplyStarts :
    (adding.hears 0 ∧ adding.ctl.drive ≠ .fault ∧ adding.ctl.openProfile = some 0) ∧
      (adding.regions.apply = .idle ∧ adding.erase.queue = [] ∧ adding.cipher.test.state ≠ .draining ∧
        adding.cipher.test.state ≠ .running) ∧
      validate adding = none ∧
      (∀ k : SlotIx, positionsName adding.regions.pending k ≠ tableNames adding.regions.table k →
        adding.cipher.slots[k].gen < 4294967295) ∧
      { adding with filter.total := 1 }.filter.total ≠ 0 :=
  ⟨⟨⟨rfl, rfl⟩, by decide +kernel, rfl⟩, by decide +kernel, by decide +kernel, by decide +kernel, by decide +kernel⟩

theorem witness_ApplySwaps :
    adding.filter.total = 0 ∧ adding.store.busy = none ∧ adding.store.queue = [] ∧
      (∀ k : SlotIx, tableNames adding.regions.table k = true → adding.cipher.slots[k].key.isSome = true) ∧
      (tableNames adding.regions.table 2 = false ∧ positionsName adding.regions.pending 2 = true) ∧
      (tableNames adding.regions.table 1 = true ∧ positionsName adding.regions.pending 1 = true) ∧
      (tableNames adding.regions.table 3 = false ∧ positionsName adding.regions.pending 3 = false) ∧
      (let t := { adding with regions.pending := adding.regions.pending.set 1 none };
        tableNames t.regions.table 1 = true ∧ positionsName t.regions.pending 1 = false) := by decide +kernel

theorem witness_Validation :
    validate adding = none ∧ adding.regions.pending[(2 : Pos)] = some ⟨131072, 2048, .priv, true, some 2⟩ ∧
      adding.regions.pending[(0 : Pos)] ≠ none ∧ (adding.regions.masks[(2 : SlotIx)]).getLsbD 0 = true := by decide +kernel

/-- A signed request sector: sequence 7, then the bytes given from offset 5 on. -/
def requestSector (l : List Byte) : Sector := sectorOfBytes ([0x4B, 0x34, 0x30, 0x57, 7] ++ l)

theorem witness_RequestSector :
    requestSigned (requestSector [2]) = true ∧ requestRow 3 (requestSector [2]) = some (.lock 3 7) ∧
      requestSigned (requestSector [13, 0, 0, 4]) = true ∧ requestRow 3 (requestSector [13, 0, 0, 4]) = none ∧
      opened.hears 3 :=
  ⟨by decide, by decide, by decide, by decide, rfl, rfl⟩

theorem witness_RequestGates :
    (Instr.clearPending 0 7).request = some (0, 7, 6) ∧ (Instr.clearPending 0 7).wf = true ∧
      State.reset.front.link = .detached ∧
      (opened.front.link = .attached ∧
        { opened with front.tags := opened.front.tags.set 0 (.outstanding 5) }.front.tags[(0 : Tag)] ≠ .free) ∧
      ((inDrive .fault).hears 0 ∧ (inDrive .fault).ctl.drive = .fault) ∧
      (2 ≤ (2 : Byte).toNat ∧ (14 : Byte).toNat ≤ 14) ∧
      (locked.hears 0 ∧ locked.ctl.drive ≠ .fault ∧ (Instr.clearPending 0 7).privileged = true ∧
        locked.ctl.openProfile ≠ some 0) ∧
      15 ≤ (15 : Byte).toNat :=
  ⟨rfl, rfl, rfl, ⟨rfl, by decide⟩, ⟨⟨rfl, rfl⟩, rfl⟩, by decide, ⟨locked_hears, by decide, rfl, by decide⟩,
    by decide⟩

theorem witness_CommitRequest :
    (opened.store.queue.map QueueEntry.record).Nodup ∧ opened.store.busy = none ∧ opened.store.queue = [] ∧
      opened.ctl.drive ≠ .fault ∧
      (let t := { opened with store.busy := some ⟨.attempts 0, [], 0⟩, store.queue := [⟨.map, []⟩, ⟨.sweep, []⟩] }
       (t.store.queue.map QueueEntry.record).Nodup ∧ t.store.busy ≠ none ∧
         (∀ e ∈ t.store.queue, e.record ≠ .options) ∧ t.store.queue = [⟨.map, []⟩] ++ ⟨.sweep, []⟩ :: []) := by decide

/-- Two PRIVATE regions that name one slot. -/
def sharing : State :=
  { opened with regions.table := [⟨0, 65536, .priv, true, some 1⟩, ⟨65536, 65536, .priv, true, some 1⟩] }

/-- The active table of `opened` with E1's slot named by no other entry. -/
theorem opened_shares_nothing (q : Pos) (f : Entry) (hq : q ≠ 1) (hf : opened.regions.table[q.val]? = some f) :
    f.slot ≠ some 1 := by
  obtain rfl | hq0 := eq_or_ne q 0
  · obtain rfl := Option.some.inj hf
    decide
  · have h : ∀ q : Pos, q ≠ 1 → q ≠ 0 → opened.regions.table[q.val]? = none := by decide
    rw [h q hq hq0] at hf
    cases hf

theorem witness_EraseRefusals :
    (opened.hears 0 ∧ opened.ctl.drive ≠ .fault ∧ opened.ctl.openProfile = some 0) ∧
      ((3 : Byte) ≠ 1 ∧ (3 : Byte) ≠ 2) ∧ 15 < (16 : Byte).toNat ∧
      opened.regions.table[(2 : Byte).toNat]? = none ∧
      opened.regions.table[(0 : Byte).toNat]? = some ⟨0, 65536, .pub, false, none⟩ ∧
      (sharing.hears 0 ∧ sharing.regions.table[(0 : Pos).val]? = some ⟨0, 65536, .priv, true, some 1⟩ ∧
        sharing.regions.table[(1 : Pos).val]? = some ⟨65536, 65536, .priv, true, some 1⟩) ∧
      (∃ j ∈ sweeping.erase.queue, j.pos = 1) ∧
      opened.regions.table[(1 : Pos).val]? = some ⟨65536, 65536, .priv, true, some 1⟩ ∧
      { opened with regions.apply := .draining }.regions.apply = .draining ∧
      { opened with cipher.slots := opened.cipher.slots.set 1 ⟨.opened, some 0, 4294967295, 1⟩ }.cipher.slots[
        (1 : SlotIx)].gen = 4294967295 :=
  ⟨opened_admin, by decide, by decide, rfl, rfl, ⟨⟨rfl, rfl⟩, rfl, rfl⟩, by decide, rfl, rfl, rfl⟩

/-- E1's erase is asked for behind a job for E0. -/
theorem witness_EraseQueues :
    let t := { opened with erase.queue := [⟨0, .full⟩] }
    (t.hears 0 ∧ t.ctl.drive ≠ .fault ∧ t.ctl.openProfile = some 0) ∧ (1 : Byte).toNat = (1 : Pos).val ∧
      t.regions.table[(1 : Pos).val]? = some ⟨65536, 65536, .priv, true, some 1⟩ ∧
      (∀ j ∈ t.erase.queue, j.pos ≠ 1) ∧ t.erase.queue.length < 4 ∧ t.regions.apply = .idle ∧
      t.cipher.slots[(1 : SlotIx)].gen ≠ 4294967295 ∧ t.erase.queue ≠ [] :=
  ⟨⟨⟨rfl, rfl⟩, by decide, rfl⟩, by decide⟩

theorem witness_EraseReplacesKey :
    (opened.hears 0 ∧ opened.ctl.drive ≠ .fault ∧ opened.ctl.openProfile = some 0) ∧
      opened.regions.table[(1 : Pos).val]? = some ⟨65536, 65536, .priv, true, some 1⟩ ∧
      (∀ (q : Pos) (f : Entry), q ≠ 1 → opened.regions.table[q.val]? = some f → f.slot ≠ some 1) ∧
      opened.erase.queue = [] ∧ opened.regions.apply = .idle ∧ opened.cipher.slots[(1 : SlotIx)].gen < 4294967295 ∧
      opened.filter.inFlight[(1 : Pos)] = 0 ∧
      { opened with filter.inFlight := opened.filter.inFlight.set 1 1 }.filter.inFlight[(1 : Pos)] ≠ 0 :=
  ⟨opened_admin, rfl, opened_shares_nothing, by decide⟩

theorem witness_CancelSweep :
    (sweeping.hears 0 ∧ sweeping.ctl.drive ≠ .fault ∧ sweeping.ctl.openProfile = some 0) ∧
      opened.erase.stage ≠ .sweeping ∧ sweeping.erase.stage = .sweeping ∧ sweeping.erase.sweep = some sweep1 ∧
      sweep1.phase = .running ∧ sweep1.chunk = none ∧ { sweep1 with phase := .ending }.phase ≠ .running ∧
      { sweep1 with chunk := some ⟨0, true⟩ }.chunk = some ⟨0, true⟩ :=
  ⟨⟨⟨rfl, rfl⟩, by decide, rfl⟩, by decide⟩

/-- A USER in slot 3 and a WIPE profile in slot 7. -/
def withUser : State :=
  { opened with
    cred.profiles := (opened.cred.profiles.set 3 (some ⟨.user, 6, 1, ⟨1, [0, 0, 0, 0, 0, 0]⟩⟩)).set 7
      (some ⟨.wipe, 6, 2, ⟨2, [9, 9, 9, 9, 9, 9]⟩⟩) }

theorem witness_Enroll :
    (withUser.hears 0 ∧ withUser.ctl.drive ≠ .fault ∧ withUser.ctl.openProfile = some 0) ∧
      { opened with ctl.drive := .enrolling }.ctl.drive = .enrolling ∧ withUser.ctl.drive ≠ .enrolling ∧
      (7 < (8 : Byte).toNat ∧ 4 < (5 : Byte).toNat) ∧
      ((3 : Byte).toNat = (3 : ProfIx).val ∧ withUser.cred.profiles[(3 : ProfIx)] ≠ none) ∧
      (withUser.cred.profiles[(7 : ProfIx)].map Profile.kind = some .wipe ∧
        withUser.cred.profiles[(1 : ProfIx)] = none ∧ withUser.cred.removal[(1 : ProfIx)] = false) ∧
      { withUser with cred.removal := withUser.cred.removal.set 1 true }.cred.removal[(1 : ProfIx)] = true :=
  ⟨⟨⟨rfl, rfl⟩, by decide, rfl⟩, by decide⟩

/-- No other WIPE profile stands against an enrollment into slot 7 of `withUser` with its slot 7 EMPTY. -/
theorem witness_Enroll_wipe (r : ProfIx) (x : Profile) (hr : opened.cred.profiles[r] = some x) : x.kind ≠ .wipe := by
  have h : ∀ r : ProfIx, ∀ k ∈ opened.cred.profiles[r].map Profile.kind, k ≠ .wipe := by decide
  exact h r x.kind (by rw [hr]; rfl)

theorem witness_Remove :
    (withUser.hears 0 ∧ withUser.ctl.drive ≠ .fault ∧ withUser.ctl.openProfile = some 0 ∧
      withUser.ctl.drive ≠ .enrolling) ∧
      ((3 : Byte).toNat = (3 : ProfIx).val ∧ withUser.cred.profiles[(3 : ProfIx)] ≠ none ∧
        withUser.cred.profiles[(4 : ProfIx)] = none) ∧
      withUser.regions.apply = .idle ∧
      (∀ k : SlotIx, tableNames withUser.regions.table k = true →
        withUser.cipher.slots[k].mask &&& ~~~(BitVec.ofNat 8 (2 ^ (3 : ProfIx).val)) ≠ 0) ∧
      (let t := { withUser with cipher.slots := withUser.cipher.slots.set 1 ⟨.closed, some 0, 1, 8⟩ }
       tableNames t.regions.table 1 = true ∧
         t.cipher.slots[(1 : SlotIx)].mask &&& ~~~(BitVec.ofNat 8 (2 ^ (3 : ProfIx).val)) = 0) :=
  ⟨⟨⟨rfl, rfl⟩, by decide, rfl, by decide⟩, by decide⟩

theorem witness_StartOptions :
    (opened.hears 0 ∧ opened.ctl.drive ≠ .fault ∧ opened.ctl.openProfile = some 0) ∧
      (6 ≤ (RawOptions.mk 6 10 99 8 2 16).minPin.toNat ∧ 1 ≤ (RawOptions.mk 6 10 99 8 2 16).free.toNat ∧
        (RawOptions.mk 6 10 99 8 2 16).clamp.free < 99 ∧
        (RawOptions.mk 6 10 10 8 2 16).threshold.toNat ≤ (RawOptions.mk 6 10 10 8 2 16).clamp.free) :=
  ⟨opened_admin, by decide⟩

theorem witness_SelfTests :
    (locked.hears 0 ∧ locked.ctl.drive ≠ .fault ∧ locked.ctl.drive ≠ .wiping ∧ locked.cipher.run = none) ∧
      ((inDrive .wiping).hears 0 ∧ (inDrive .wiping).ctl.drive = .wiping) ∧
      { locked with cipher.run := some ⟨.plain, 5⟩ }.cipher.run ≠ none ∧
      (opened.hears 0 ∧ opened.ctl.openProfile = some 0 ∧ opened.cipher.test.state = .none ∧
        opened.regions.apply = .idle ∧ opened.media.state = .ready ∧ opened.filter.total = 0) ∧
      { opened with filter.total := 1 }.filter.total ≠ 0 ∧ { opened with media.state := .sizing }.media.state ≠ .ready ∧
      { opened with regions.apply := .draining }.regions.apply = .draining :=
  ⟨⟨locked_hears, by decide, by decide, rfl⟩, ⟨⟨rfl, rfl⟩, rfl⟩, by decide, ⟨opened_hears, rfl, rfl, rfl, rfl, rfl⟩,
    by decide⟩

theorem witness_WipeAll :
    opened.hears 0 ∧ opened.ctl.drive ≠ .fault ∧ opened.ctl.drive ≠ .wiping ∧ opened.ctl.openProfile = some 0 ∧
      opened.erase.sweep = none ∧ opened.store.busy = none ∧ opened.store.queue = [] ∧
      opened.cipher.slots[(1 : SlotIx)].key ≠ none ∧ opened.cipher.slots[(2 : SlotIx)].key = none :=
  ⟨opened_hears, by decide⟩

/-! ### Witnesses: the links -/

theorem witness_Arrival :
    State.reset.front.link = .detached ∧
      (opened.front.link = .attached ∧
        { opened with front.tags := opened.front.tags.set 15 (.outstanding 5) }.front.tags[(15 : Tag)] ≠ .free) ∧
      opened.hears 15 ∧ 5 < (6 : Byte).toNat ∧ 256 < (257 : BitVec 16).toNat ∧
      4294967296 < (4294967295 : BitVec 32).toNat + (2 : BitVec 16).toNat ∧
      ((4294967231 : BitVec 32).toNat < 4294967232 ∧
        4294967232 < (4294967231 : BitVec 32).toNat + (2 : BitVec 16).toNat) ∧
      (4294967232 ≤ (4294967233 : BitVec 32).toNat ∧
        (4294967233 : BitVec 32).toNat + (1 : BitVec 16).toNat ≤ 4294967296) ∧
      requestSigned (0 : Sector) = false :=
  ⟨rfl, ⟨rfl, by decide⟩, ⟨rfl, rfl⟩, by decide⟩

theorem witness_ArrivalQueues :
    opened.hears 0 ∧ (256 : BitVec 16) ≠ 0 ∧ (256 : BitVec 16).toNat ≤ 256 ∧
      (4294966976 : BitVec 32).toNat + (256 : BitVec 16).toNat ≤ 4294967232 :=
  ⟨opened_hears, by decide⟩

theorem witness_Attach :
    State.reset.started = true ∧ State.reset.front.link = .detached ∧ opened.started = true ∧
      opened.front.link = .attached ∧
      { State.reset with ctl := { opened.ctl with attached := false } }.ctl.drive = .opened := by decide

/-- A READ of E1 on media tag 4 and a WRITE of E1 on tag 5, both under key instance (slot 1, generation 1). -/
def readFrag : Frag :=
  { id := 21, range := ⟨65536, 65538⟩, kind := .pass, recorded := false, pos := some 1, key := some ⟨1, 1, some 0⟩,
    zeros := [], state := .issued, workKey := none, stored := [], plain := [], counted := true }

/-- The READ behind `readFrag`. -/
def readTxn : Txn :=
  { id := 20, kind := .read, tag := 2, range := ⟨65536, 65538⟩, state := .admitted, frags := [readFrag], held := 2,
    waiting := false, recorded := none, addition := none, status := .good, pulled := 0, dropped := false }

/-- A WRITE piece whose one sector has been pulled. -/
def writeFrag : Frag :=
  { id := 23, range := ⟨70000, 70001⟩, kind := .pass, recorded := false, pos := some 1, key := some ⟨1, 1, some 0⟩,
    zeros := [], state := .issued, workKey := none, stored := [.cipher ⟨1, 1, some 0⟩ 9], plain := [], counted := true }

/-- The WRITE behind `writeFrag`. -/
def writeTxn : Txn :=
  { id := 22, kind := .write, tag := 3, range := ⟨70000, 70001⟩, state := .admitted, frags := [writeFrag], held := 1,
    waiting := false, recorded := none, addition := none, status := .good, pulled := 1, dropped := false }

/-- The command of `readFrag`: the image held a sector under the open key and one under an older one. -/
def readCommand : Command :=
  ⟨.fragment 21, .read, ⟨65536, 65538⟩, [.cipher ⟨1, 1, some 0⟩ 7, .cipher ⟨1, 0, some 0⟩ 8], 2000⟩

/-- The command of `writeFrag`. -/
def writeCommand : Command := ⟨.fragment 23, .write, ⟨70000, 70001⟩, [.cipher ⟨1, 1, some 0⟩ 9], 2000⟩

/-- Both transactions at work. -/
def busy : State :=
  { opened with
    front.tags := (opened.front.tags.set 2 (.outstanding 20)).set 3 (.outstanding 22)
    media.tags := (opened.media.tags.set 4 (.busy readCommand)).set 5 (.busy writeCommand)
    filter := ⟨[], [readTxn, writeTxn], [], 2, opened.filter.inFlight.set 1 2, .none⟩
    flash := [(65536, .cipher ⟨1, 1, some 0⟩ 7), (65537, .cipher ⟨1, 0, some 0⟩ 8), (70000, .plain 0)]
    counters := ⟨24, 1, 1, 0⟩ }

theorem busy_names : busy.namesInv := by
  unfold State.namesInv
  decide

theorem witness_Detach :
    State.reset.front.link = .detached ∧ busy.front.link = .attached ∧ busy.filter.quiesce = .none ∧
      busy.erase.stage ≠ .waitCount ∧ busy.media.tags[(5 : Tag)] = .busy writeCommand ∧ writeCommand.kind = .write ∧
      writeCommand.range.has 70000 = true ∧ busy.ctl.drive = .opened := by decide

theorem witness_LinkReset :
    State.reset.front.link = .detached ∧ busy.front.link = .attached ∧ writeTxn ∈ busy.filter.txns ∧
      writeFrag ∈ writeTxn.frags ∧ writeTxn.kind = .write ∧ writeTxn.dropped = false ∧ writeFrag.state = .issued ∧
      writeFrag.range.has 70000 = true := by decide

theorem witness_MediaReady :
    let t := { opened with media := ⟨.notReady, none, (Vector.replicate 16 MediaTag.free).set 0 .retired, 1, false⟩ }
    t.front.link = .attached ∧ t.media.state = .notReady ∧ t.lowestIs 1 ∧
      (opened.media.state ≠ .notReady ∧ opened.cipher.test.state = .none ∧
        ∀ (u : Tag) (c : Command), opened.media.tags[u] ≠ .busy c) := by
  refine ⟨rfl, rfl, ⟨rfl, by decide⟩, by decide, rfl, ?_⟩
  intro u c
  have h : ∀ u : Tag, opened.media.tags[u] = MediaTag.free := by decide
  rw [h u]
  exact nofun

theorem opened_lowest : opened.lowestIs 0 := ⟨rfl, by decide⟩

theorem busy_lowest : busy.lowestIs 0 := ⟨rfl, by decide⟩

/-- `busy` with a WRITE piece of E1 at the head of the issue queue. -/
def granting : State := { busy with filter.issueQ := [23] }

theorem witness_SlotGrant :
    opened.front.link = .attached ∧ opened.media.state = .ready ∧ opened.lowestIs 0 ∧
      (opened.cipher.test.waiting = none ∧ opened.chunkReady = false ∧ opened.filter.issueQ = []) ∧
      (sweeping.lowestIs 0 ∧ sweeping.cipher.test.waiting = none ∧ sweeping.chunkReady = true ∧
        sweeping.filter.issueQ = [] ∧ sweeping.erase.sweep = some sweep1 ∧ sweep1.chunk = none) ∧
      (granting.lowestIs 0 ∧ granting.chunkReady = false ∧ granting.filter.issueQ = 23 :: [] ∧
        granting.findFrag 23 = some (writeTxn, writeFrag)) ∧
      { opened with cipher.test := ⟨.running, 1, 0, 0, 0, some .read, 1⟩ }.cipher.test.waiting = some .read :=
  ⟨rfl, rfl, opened_lowest, by decide, ⟨⟨rfl, by decide⟩, by decide⟩, ⟨⟨rfl, by decide⟩, by decide⟩, rfl⟩

theorem witness_ReadDelivery :
    busy.media.tags[(4 : Tag)] = .busy readCommand ∧ readCommand.requester = .fragment readFrag.id ∧
      readCommand.kind = .read ∧ readCommand.range = readFrag.range ∧
      readCommand.data.length = readFrag.range.len ∧ busy.namesInv ∧ readTxn ∈ busy.filter.txns ∧
      readTxn.frags = [readFrag] ∧ readFrag.kind ≠ .zero ∧ readTxn.kind = .read ∧ readTxn.status = .good ∧
      readTxn.dropped = false ∧ busy.media.sizeWaiting = false ∧ busy.power.source = .link ∧
      busy.filter.quiesce = .none ∧ busy.erase.stage ≠ .waitCount ∧
      (busy.cipher.slots[(1 : SlotIx)].state = .opened ∧ busy.cipher.slots[(1 : SlotIx)].gen = 1) ∧
      { busy with cipher.slots := busy.cipher.slots.set 1 ⟨.closed, some 0, 1, 1⟩ }.cipher.slots[
        (1 : SlotIx)].state ≠ .opened ∧
      readCommand.data[0]? = some (.cipher ⟨1, 1, some 0⟩ 7) ∧
      readCommand.data[1]? = some (.cipher ⟨1, 0, some 0⟩ 8) :=
  ⟨rfl, rfl, rfl, rfl, rfl, busy_names, by decide⟩

theorem witness_WriteOutcome :
    busy.imageInv ∧ busy.media.tags[(5 : Tag)] = .busy writeCommand ∧ writeCommand.kind = .write ∧
      writeCommand.data.length = writeCommand.range.len ∧ busy.commandKept writeCommand = true ∧
      busy.media.retired < 7 := by
  unfold State.imageInv
  decide

theorem witness_SizeCompletion :
    let c : Command := ⟨.size, .size, ⟨0, 0⟩, [], 2000⟩
    let t := { opened with media := ⟨.sizing, none, opened.media.tags.set 0 (.busy c), 0, false⟩ }
    t.media.tags[(0 : Tag)] = .busy c ∧ c.requester = .size ∧ c.kind = .size ∧ t.media.sizeWaiting = false ∧
      t.erase.sweep = none ∧ t.filter.issueQ = [] ∧ t.power.source = .link ∧ 4096 ≤ (4096 : BitVec 32).toNat ∧
      (4095 : BitVec 32).toNat < 4096 ∧ t.ctl.drive ≠ .fault ∧
      { t with media.tags := t.media.tags.set 0 .free }.lowestIs 0 :=
  ⟨rfl, rfl, rfl, rfl, rfl, rfl, rfl, by decide, by decide, by decide, rfl, by decide⟩

theorem witness_TagsRetire :
    (∀ c, busy.media.tags[(0 : Tag)] ≠ .busy c) ∧ busy.media.tags[(4 : Tag)] = .busy readCommand ∧
      (∀ (t : Tag) (d : Command), busy.media.tags[t] = .busy d → d.requester ≠ .size) ∧
      busy.media.sizeWaiting = false ∧ busy.media.retired < 7 ∧
      7 ≤ { busy with media.retired := 7 }.media.retired ∧ busy.media.tags[(0 : Tag)] = .free ∧
      { busy with media.tags := busy.media.tags.set 0 .retired }.media.tags[(0 : Tag)] = .retired := by
  refine ⟨nofun, rfl, ?_, by decide⟩
  intro t d h
  have hb : ∀ t : Tag, (match busy.media.tags[t] with | .busy c => c.requester != .size | _ => true) = true := by
    decide
  have h2 := hb t
  rw [h] at h2
  exact bne_iff_ne.mp h2

/-! ### Witnesses: admission -/

/-- A queued request on front tag 6. -/
def queued (k : Kind) (r : Range) : Txn :=
  { id := 3, kind := k, tag := 6, range := r, state := .queued, frags := [], held := 0, waiting := false,
    recorded := none, addition := none, status := .good, pulled := 0, dropped := false }

/-- A state with one request in the admission queue. -/
def asking (s : State) (k : Kind) (r : Range) : State :=
  { s with
    filter.queue := [queued k r]
    front.tags := s.front.tags.set 6 (.outstanding 3)
    counters.ids := 4 }

theorem witness_AdmissionHolds :
    opened.filter.queue = [] ∧
      (let t := asking opened .read ⟨65536, 65792⟩
       t.filter.queue = queued .read ⟨65536, 65792⟩ :: [] ∧
         { t with filter.quiesce := .apply }.filter.quiesce ≠ .none ∧
         { t with cipher.run := some ⟨.plain, 5⟩ }.cipher.run ≠ none ∧
         2048 < (queued .read ⟨65536, 65792⟩).need +
           { t with filter.txns := [{ readTxn with held := 1793 }] }.bufferHeld ∧
         t.filter.quiesce = .none ∧ t.cipher.run = none ∧
         (queued .read ⟨65536, 65792⟩).need + { t with filter.txns := [{ readTxn with held := 1792 }] }.bufferHeld
           ≤ 2048) := by decide

theorem witness_AdmissionSegment :
    let t := asking opened .write ⟨130816, 131072⟩
    let l := asking locked .read ⟨65536, 65537⟩
    let b := { asking opened .write ⟨65536, 65537⟩ with erase.queue := [⟨1, .quick⟩], erase.stage := .waitCount }
    (t.filter.queue = queued .write ⟨130816, 131072⟩ :: [] ∧ t.filter.quiesce = .none ∧ t.cipher.run = none ∧
        (queued .write ⟨130816, 131072⟩).need + t.bufferHeld ≤ 2048 ∧ t.ctl.drive ≠ .wiping ∧ t.ctl.drive ≠ .fault ∧
        t.media.state = .ready ∧ t.cipher.test.state ≠ .running ∧ t.uSpan = some 1000000) ∧
      (tableLaw 0 t.regions.table = true ∧ t.regions.table.length ≤ 16 ∧
        t.regions.table[(1 : Pos).val]? = some ⟨65536, 65536, .priv, true, some 1⟩ ∧ 131072 ≤ 65536 + 65536) ∧
      (t.cipher.slots[(1 : SlotIx)].state = .opened ∧ t.readerOpen = false ∧ t.eraseState 1 = .idle) ∧
      (l.cipher.slots[(1 : SlotIx)].state ≠ .opened ∧ l.ctl.openProfile = none) ∧
      b.eraseState 1 = .erasePending := by decide

theorem witness_AdmissionPasses :
    let t := asking opened .write ⟨130816, 131072⟩
    t.namesInv ∧ t.filter.queue = queued .write ⟨130816, 131072⟩ :: [] ∧ t.filter.quiesce = .none ∧
      t.cipher.run = none ∧ (queued .write ⟨130816, 131072⟩).need + t.bufferHeld ≤ 2048 ∧ t.ctl.drive ≠ .wiping ∧
      t.ctl.drive ≠ .fault ∧ t.media.state = .ready ∧ t.cipher.test.state ≠ .running ∧ t.uSpan = some 1000000 ∧
      tableLaw 0 t.regions.table = true ∧ t.regions.table.length ≤ 16 ∧
      t.regions.table[(1 : Pos).val]? = some ⟨65536, 65536, .priv, true, some 1⟩ ∧ 131072 ≤ 65536 + 65536 ∧
      t.eraseState 1 = .idle ∧ t.cipher.slots[(1 : SlotIx)].state = .opened ∧ t.readerOpen = false := by
  refine ⟨?_, by decide⟩
  unfold State.namesInv
  decide

theorem witness_Split :
    tableLaw 0 opened.regions.table = true ∧ opened.regions.table.length ≤ 16 ∧
      (Range.mk 65535 65537).has 65535 = true ∧ 65535 < 1000000 ∧
      opened.regions.table[(0 : Pos).val]? = some ⟨0, 65536, .pub, false, none⟩ ∧
      ((Range.mk 131071 131073).has 131072 = true ∧
        ∀ e ∈ opened.regions.table, ¬ (e.base ≤ 131072 ∧ 131072 < e.base + e.length)) ∧
      ((Range.mk 999999 1000001).has 1000000 = true ∧ 1000000 ≤ 1000000) := by decide

theorem witness_SweepReadCut :
    (Range.mk 65536 65600).lo < (Range.mk 65536 65600).hi ∧
      keepSorted { sweep1 with keep := [⟨65536, 65544⟩, ⟨65552, 65560⟩] }.keep = true := by decide

theorem witness_KeepMerge :
    (Range.mk 8 16).lo < (Range.mk 8 16).hi ∧ keepSorted [⟨0, 8⟩, ⟨16, 17⟩, ⟨20, 30⟩] = true := by decide

/-- `writeTxn` before its one sector has been pulled. -/
def pullingTxn : Txn :=
  { writeTxn with
    frags := [{ writeFrag with state := .waiting, workKey := some 0, stored := [] }], pulled := 0 }

/-- A state in which that sector is pulled next. -/
def pullingState : State :=
  { opened with
    filter := ⟨[], [pullingTxn], [], 1, opened.filter.inFlight.set 1 1, .none⟩, counters := ⟨24, 1, 1, 0⟩ }

theorem witness_WriteData :
    opened.pulling = none ∧ pullingState.pulling = some pullingTxn ∧ pullingState.namesInv ∧
      pullingTxn.frags = [{ writeFrag with state := .waiting, workKey := some 0, stored := [] }] ∧
      pullingState.media.state = .ready := by
  refine ⟨by decide, by decide, ?_, rfl, rfl⟩
  unfold State.namesInv
  decide

/-! ### Witnesses: the store, start-up and evaluation -/

theorem witness_RecordOldOrNew :
    (Copies.delivered 3).load attemptsLaw = some 3 ∧ attemptsLaw 255 = true := by decide

/-- A part with an OPTIONS commit in progress. -/
def committing : State := { opened with store.busy := some ⟨.options .defaults, [], 0⟩ }

theorem witness_CommitCompletes :
    opened.staysAwake ∧ opened.store.busy = none ∧ committing.staysAwake ∧
      committing.store.busy = some ⟨.options .defaults, [], 0⟩ ∧ committing.ctl.drive ≠ .fault ∧
      committing.store.queue = [] ∧
      { committing with store.queue := [⟨.map, []⟩] }.store.queue = ⟨.map, []⟩ :: [] ∧
      { committing with ctl.drive := .fault }.ctl.drive = .fault := by
  refine ⟨.inl rfl, rfl, .inl rfl, rfl, by decide, rfl, rfl, rfl⟩

/-- An evaluation whose count is being stored. -/
def counting : State :=
  { locked with
    ctl := { locked.ctl with drive := .evaluating }
    cred := { locked.cred with eval := some ⟨[1, 2, 3, 4, 5, 6, 7], .counting⟩, n := 1 }
    store.busy := some ⟨.attempts 1, [.countAttempts], 0⟩ }

/-- An evaluation whose reset of n is being stored. -/
def resetting : State :=
  { counting with
    cred := { counting.cred with eval := some ⟨[], .resetting 0⟩, n := 0 }
    store.busy := some ⟨.attempts 0, [.resetAttempts], 0⟩ }

theorem witness_EvaluationCommits :
    (counting.staysAwake ∧ counting.power.mode = .active ∧ counting.store.queue = []) ∧
      (counting.ctl.drive = .evaluating ∧ counting.cred.eval = some ⟨[1, 2, 3, 4, 5, 6, 7], .counting⟩ ∧
        counting.store.busy = some ⟨.attempts 1, [.countAttempts], 0⟩) ∧
      (resetting.staysAwake ∧ resetting.ctl.drive = .evaluating ∧ resetting.cred.eval = some ⟨[], .resetting 0⟩ ∧
        resetting.store.busy = some ⟨.attempts 0, [.resetAttempts], 0⟩) :=
  ⟨⟨.inl rfl, rfl, rfl⟩, ⟨rfl, rfl, rfl⟩, .inl rfl, rfl, rfl, rfl⟩

theorem witness_CipherTestEnds :
    opened.staysAwake ∧ opened.cipher.run = none ∧
      { opened with cipher.run := some ⟨.plain, 0⟩ }.cipher.run = some ⟨.plain, 0⟩ ∧
      { opened with cipher.run := some ⟨.inject, 0⟩ }.cipher.run = some ⟨.inject, 0⟩ ∧ opened.ctl.drive ≠ .fault :=
  ⟨.inl rfl, rfl, rfl, rfl, by decide⟩

/-- Start-up's cipher test at its end, with profile 0 ACTIVE and n as given. -/
def starting (n : Nat) : State :=
  { State.blank with
    power.on := true, cipher.run := some ⟨.startUp, 0⟩, cred.n := n
    cred.profiles := State.blank.cred.profiles.set 0 (some admin) }

theorem witness_StartUp :
    (∀ n, (starting n).cipher.run = some ⟨.startUp, 0⟩ ∧ (starting n).ctl.drive = .starting ∧
      (starting n).ctl.wipeFlag = false ∧ (starting n).cred.profiles[(0 : ProfIx)] ≠ none) ∧
      ((starting 20).store.effective.threshold ≤ 20 ∧ 4 < (starting 4).store.effective.free ∧
        (starting 5).store.effective.free ≤ 5 ∧ 19 < (starting 19).store.effective.threshold) :=
  ⟨fun _ => ⟨rfl, rfl, rfl, nofun⟩, by decide⟩

theorem witness_PowerOn :
    State.reset.store.busy = none ∧ State.reset.store.options.load optionsLaw = some .defaults ∧
      State.reset.store.map.load mapLaw = some .delivered ∧ State.reset.store.attempts.load attemptsLaw = some 0 ∧
      State.reset.store.sweep.load sweepLaw ≠ none ∧
      ∀ p : ProfIx, State.reset.store.profiles[p].load (profileLaw p) ≠ none := by decide

theorem witness_PowerLoss :
    busy.media.tags[(5 : Tag)] = .busy writeCommand ∧ writeCommand.range.has 70000 = true ∧
      writeTxn ∈ busy.filter.queue ++ busy.filter.txns ∧ writeTxn.kind = .write ∧ writeTxn.dropped = false := by decide

/-- A comparison at its end. -/
def comparing (d : List Digit) (n : Nat) (x : Profile) : State :=
  { counting with
    store.busy := none
    cred := { counting.cred with
      profiles := counting.cred.profiles.set 0 (some x), n := n
      eval := some ⟨d, .comparing⟩, comparison := some ⟨.evaluation, d, 0⟩ } }

theorem witness_Comparison :
    let m := comparing [1, 2, 3, 4, 5, 6, 7] 1 admin
    let w := comparing [1, 2, 3, 4, 5, 6, 7] 1 { admin with kind := .wipe }
    let f := comparing [1, 2, 3, 4, 5, 6, 8] 5 admin
    (m.staysAwake ∧ m.power.mode = .active ∧ opened.cred.comparison = none ∧
      m.cred.comparison = some ⟨.evaluation, [1, 2, 3, 4, 5, 6, 7], 0⟩ ∧
      m.cred.eval = some ⟨[1, 2, 3, 4, 5, 6, 7], .comparing⟩ ∧ m.ctl.drive = .evaluating) ∧
      (matchProfile m.cred.profiles none [1, 2, 3, 4, 5, 6, 7] = some 0 ∧ admin.kind ≠ .wipe ∧
        matchProfile w.cred.profiles none [1, 2, 3, 4, 5, 6, 7] = some 0 ∧
        matchProfile f.cred.profiles none [1, 2, 3, 4, 5, 6, 8] = none ∧ f.store.effective.free ≤ f.cred.n ∧
        f.cred.n < f.store.effective.threshold) :=
  ⟨⟨.inl rfl, rfl, rfl, rfl, rfl, rfl⟩, by decide⟩

theorem witness_Match (p : ProfIx) (x : Profile) (h : opened.cred.profiles[p] = some x) :
    x.verifier.salt = x.salt ∧ x.pinLen = x.verifier.digits.length := by
  have hp : ∀ p : ProfIx, ∀ x ∈ opened.cred.profiles[p],
      x.verifier.salt = x.salt ∧ x.pinLen = x.verifier.digits.length := by decide
  exact hp p x (by rw [h]; rfl)

theorem witness_Backoff :
    let f := comparing [1, 2, 3, 4, 5, 6, 8] 4 admin
    (1 ≤ 5 ∧ 5 ≤ 10 ∧ 255 ≤ 255) ∧ f.cred.comparison = some ⟨.evaluation, [1, 2, 3, 4, 5, 6, 8], 0⟩ ∧
      f.cred.eval = some ⟨[1, 2, 3, 4, 5, 6, 8], .comparing⟩ ∧ f.ctl.drive = .evaluating ∧ f.cred.backoff = none ∧
      matchProfile f.cred.profiles none [1, 2, 3, 4, 5, 6, 8] = none ∧ f.cred.n < f.store.effective.free ∧
      exec .comparisonResult f = .next (after .comparisonResult f) :=
  ⟨by decide, rfl, rfl, rfl, rfl, by decide, by decide, rfl⟩

/-! ### Witnesses: the keypad and the timers -/

/-- A part in ACTIVE whose key `i` has been seen pressed at two scans. -/
def pressing (i : KeyIx) (s : State) : State :=
  { s with keypad.keys := s.keypad.keys.set i ⟨false, 2⟩ }

theorem witness_Scan :
    State.blank.started = false ∧ (pressing 4 locked).started = true ∧ (pressing 4 locked).power.mode = .active ∧
      (∀ i : KeyIx, (debounceAll 0 (pressing 4 locked).keypad.keys)[i] =
        if (0 : BitVec 12).getLsbD i.val = (pressing 4 locked).keypad.keys[i].down then
          ⟨(pressing 4 locked).keypad.keys[i].down, 0⟩
        else if 2 ≤ (pressing 4 locked).keypad.keys[i].run then ⟨!(pressing 4 locked).keypad.keys[i].down, 0⟩
        else ⟨(pressing 4 locked).keypad.keys[i].down, (pressing 4 locked).keypad.keys[i].run + 1⟩) ∧
      ∀ i : KeyIx, (debounceAll 0 (pressing 4 locked).keypad.keys)[i].down = false := by decide

/-- An entry in ENTRY with the digits given. -/
def entering (d : List Digit) : State :=
  { locked with
    ctl := { locked.ctl with drive := .entry }
    keypad := { locked.keypad with
      buffer := d, phase := some .unlock, timer := some 5000, selection := .entry } }

theorem witness_Press :
    (∀ i : KeyIx, let t := pressing i locked
      t.started = true ∧ t.power.mode = .active ∧ t.keypad.keys[i].down = false ∧
        (debounceAll (BitVec.ofNat 12 (2 ^ i.val)) t.keypad.keys)[i].down = true ∧
        ∀ j : KeyIx, j ≠ i → (debounceAll (BitVec.ofNat 12 (2 ^ i.val)) t.keypad.keys)[j].down = false) ∧
      (locked.ctl.drive = .locked ∧ (entering []).ctl.drive = .entry ∧
        (entering (List.replicate 14 1)).keypad.buffer.length < 15 ∧
        15 ≤ (entering (List.replicate 15 1)).keypad.buffer.length ∧
        (entering (List.replicate 6 1)).keypad.buffer.length < (entering []).store.effective.minPin ∧
        (entering []).store.effective.minPin ≤ (entering (List.replicate 7 1)).keypad.buffer.length) := by
  decide +kernel

theorem witness_Pattern :
    opened.keypad.oneShot = none ∧ { opened with keypad.player := none }.keypad.player = none ∧
      0 + 1 < Pattern.reject.steps.length ∧ Pattern.keyAck.steps.length ≤ 0 + 1 ∧ Pattern.reject.repeats ≠ 1 ∧
      Pattern.keyAck.repeats = 1 ∧ opened.keypad.player = some ⟨.factory, 0, 500, 0⟩ := by decide

theorem witness_Timers :
    let e : Enroll := ⟨3, .user, .opened, .first, [], false, false, false⟩
    let n := { opened with
      ctl.drive := .enrolling, keypad.timer := some 0, keypad.phase := some .enroll, cred.enroll := some e }
    let b := { locked with ctl.drive := .backoff, cred.backoff := some 0 }
    (opened.staysAwake ∧ opened.keypad.timer = none ∧ opened.cred.backoff = none) ∧
      ((entering []).staysAwake ∧ (entering []).keypad.timer ≠ none ∧ (entering []).keypad.withdrawn = false ∧
        (entering []).ctl.drive = .entry) ∧
      ({ entering [] with keypad.withdrawn := true }.keypad.timer ≠ none ∧
        { opened with ctl.withdrawn := true }.ctl.inactivity ≠ none ∧ opened.ctl.withdrawn = false) ∧
      (n.staysAwake ∧ n.keypad.timer ≠ none ∧ n.keypad.withdrawn = false ∧ n.ctl.drive = .enrolling ∧ n.cred.enroll = some e ∧
        n.power.mode = .active) ∧
      (b.staysAwake ∧ b.cred.backoff ≠ none ∧ b.ctl.drive = .backoff) ∧
      (opened.ctl.window = none ∧ opened.ctl.inactivity ≠ none ∧ locked.ctl.inactivity = none ∧
        { opened with ctl.window := some 0 }.ctl.window ≠ none ∧ opened.ctl.drive = .opened ∧
        opened.cred.enroll = none) :=
  ⟨⟨.inl rfl, rfl, rfl⟩, ⟨.inl rfl, nofun, rfl, rfl⟩, ⟨nofun, nofun, rfl⟩, ⟨.inl rfl, nofun, rfl, rfl, rfl, rfl⟩,
    ⟨.inl rfl, nofun, rfl⟩, by decide⟩

theorem witness_Standby :
    let t := { locked with front.link := .detached, power.source := .battery }
    (State.blank.power.idle = .stopped ∧ t.power.idle = .running 20000 ∧ t.power.on = true ∧ t.power.mode = .active ∧
      t.power.source = .battery ∧ t.ctl.drive = .locked ∧ t.store.busy = none ∧ t.store.queue = []) ∧
      (opened.power.idle = .running 20000 ∧ opened.power.source = .link) ∧
      t.power.mode ≠ .standby ∧ t.power.mode ≠ .settling ∧
      { t with power.mode := .standby }.power.mode = .standby ∧
      { t with power.mode := .settling }.power.mode = .settling := by decide

/-! ### Witnesses: the invariants, on a state with work in progress -/

theorem witness_Links : busy.linksInv ∧ step busy = .next (tick busy) := by
  refine ⟨⟨by decide, by decide, nofun, by decide, ?_⟩, rfl⟩
  intro c hc
  obtain rfl := Option.some.inj hc
  decide

theorem witness_Keys : locked.keysInv ∧ locked.ctl.openProfile = none :=
  ⟨fun _ => by decide, rfl⟩

theorem witness_Image : busy.imageInv := by
  unfold State.imageInv
  decide

/-- E1's MAP commit in progress. -/
def mapping : State := { opened with store.busy := some ⟨.map opened.mapRecord, [], 0⟩ }

/-- What `mapSlots` asks of the record's copies and of the one commit in progress. -/
theorem mapping_slots (ok : StoredSlot → Prop)
    (h : ∀ k : SlotIx, ok mapping.store.map.a.content.slots[k] ∧ ok mapping.store.map.b.content.slots[k])
    (hb : ∀ k : SlotIx, ok opened.mapRecord.slots[k]) : mapping.store.mapSlots ok := by
  refine ⟨h, ?_⟩
  rintro c m ⟨⟩ ⟨⟩
  exact hb

theorem witness_Counters :
    mapping.storeInv ∧ mapping.gensInv ∧ ∀ c ∈ (mapping.withCommand .attach).pending.head?, c.isPower = false :=
  ⟨⟨by decide, by decide⟩, ⟨by decide, mapping_slots _ (by decide) (by decide +kernel)⟩, by decide⟩

/-! ### Witnesses: an enrollment -/

/-- An enrollment of a USER into slot 3, of an origin, at a step. -/
def enrollment (o : Origin) (x : EnrollStep) : Enroll :=
  ⟨3, .user, o, x, [1, 2, 3, 4, 5, 6, 7], false, false, false⟩

/-- The part in that enrollment; one from FACTORY has no profile open. -/
def enrolling (o : Origin) (x : EnrollStep) : State :=
  { (if o = .opened then opened else locked) with
    ctl := { (if o = .opened then opened else locked).ctl with drive := .enrolling }
    cred.enroll := some (enrollment o x) }

/-- LOCK, DETACH and the two timers in an enrollment from OPEN, in COMMITTING and before it. -/
theorem witness_LockEnrolling (x : EnrollStep) :
    let s := enrolling .opened x
    (s.hears 0 ∧ s.power.source = .link ∧ s.staysAwake ∧ s.ctl.drive = .enrolling ∧
      s.cred.enroll = some (enrollment .opened x) ∧ (enrollment .opened x).origin = .opened) ∧
      (s.front.link = .attached ∧ s.filter.quiesce = .none ∧ s.erase.stage ≠ .waitCount) ∧
      s.ctl.inactivity ≠ none ∧ s.ctl.withdrawn = false ∧ { s with ctl.window := some 0 }.ctl.window ≠ none :=
  ⟨⟨⟨rfl, rfl⟩, rfl, .inl rfl, rfl, rfl, rfl⟩, ⟨rfl, rfl, nofun⟩, nofun, rfl, nofun⟩

/-! ### Witnesses: validation -/

/-- Position 0 has no previous entry. -/
theorem nothing_previous (s : State) (f : Entry) : ¬ s.previous 0 f :=
  fun ⟨_, h, _⟩ => absurd h (Fin.not_lt_zero _)

/-- A pending table of one entry at position 0, with a mask for slot 1. -/
def single (e : Entry) (mask : Byte) (s : State) : State :=
  { s with
    regions.pending := (Vector.replicate 16 none).set 0 (some e), regions.masks := s.regions.masks.set 1 mask }

theorem single_entry (e f : Entry) (mask : Byte) (s : State) (p : Pos)
    (h : (single e mask s).regions.pending[p] = some f) : p = 0 ∧ f = e := by
  by_cases hp : p = 0
  · subst hp
    exact ⟨rfl, (Option.some.inj h).symm⟩
  · have h2 : ((Vector.replicate 16 (none : Option Entry)).set 0 (some e))[p] = some f := h
    have hp' : (0 : Nat) ≠ p.val := fun h0 => hp (Fin.ext h0.symm)
    simp [hp'] at h2

/-- A length of 2,040 is SHORT, and no reason before it fails (R30). -/
theorem witness_ValidationPosition :
    let e : Entry := ⟨0, 2040, .priv, true, some 1⟩
    let s := single e 1 opened
    s.regions.pending[(0 : Pos)] = some e ∧ s.positionFails 0 e .short ∧
      (∀ x : Reason, x.code < Reason.short.code → ¬ s.positionFails 0 e x) ∧
      ∀ (q : Pos) (f : Entry) (x : Reason), q < 0 → s.regions.pending[q] = some f → ¬ s.positionFails q f x := by
  refine ⟨rfl, by simp [State.positionFails], ?_, fun q _ _ h => absurd h (Fin.not_lt_zero _)⟩
  rintro (_ | _ | _ | _ | _ | _ | _ | _ | _ | _) hx <;> first | exact absurd hx (by decide) | skip
  · exact fun ⟨f, h, _⟩ => nothing_previous _ f h
  · exact fun ⟨q, h, _⟩ => absurd h (Fin.not_lt_zero _)
  · exact fun ⟨f, h, _⟩ => nothing_previous _ f h
  · simp [State.positionFails]

/-- Every position passes, E1 alone at position 0. -/
theorem single_passes (mask : Byte) : (single ⟨0, 2048, .priv, true, some 1⟩ mask opened).positionsPass := by
  intro p e r h
  obtain ⟨rfl, rfl⟩ := single_entry _ _ _ _ _ h
  rcases r with _ | _ | _ | _ | _ | _ | _ | _ | _ | _
  · exact fun ⟨f, h, _⟩ => nothing_previous _ f h
  · exact fun ⟨q, h, _⟩ => absurd h (Fin.not_lt_zero _)
  · exact fun ⟨f, h, _⟩ => nothing_previous _ f h
  · simp [State.positionFails]
  · simp [State.positionFails]
  · intro h
    exact absurd (h 1000000 rfl) (by decide)
  · simp [State.positionFails]
  · simp [State.positionFails]
  · exact id
  · exact id

/-- A mask of 0 is BAD_MASK; nothing comes before it (R31). -/
theorem witness_ValidationSlot :
    let e : Entry := ⟨0, 2048, .priv, true, some 1⟩
    let s := single e 0 opened
    s.positionsPass ∧ s.regions.pending[(0 : Pos)] = some e ∧ e.slot = some 1 ∧
      (∀ (q : Pos) (f : Entry), q < 0 → s.regions.pending[q] = some f → f.slot ≠ some 1) ∧
      s.slotFails 1 .badMask ∧ (∀ x : Reason, x.code < Reason.badMask.code → ¬ s.slotFails 1 x) ∧
      ∀ (j : SlotIx) (q : Pos) (f : Entry) (x : Reason), j < 1 → s.regions.pending[q] = some f →
        f.slot = some j → ¬ s.slotFails j x := by
  refine ⟨single_passes 0, rfl, rfl, fun q _ h => absurd h (Fin.not_lt_zero _), .inl rfl, ?_, ?_⟩
  · rintro (_ | _ | _ | _ | _ | _ | _ | _ | _ | _) hx <;> first | exact id | exact absurd hx (by decide)
  · intro j q f x hj h hs
    obtain ⟨rfl, rfl⟩ := single_entry _ _ _ _ _ h
    obtain rfl := Option.some.inj hs
    exact absurd hj (by decide)

/-- No reason fails, the mask being the stored one. -/
theorem witness_ValidationPasses :
    let s := single ⟨0, 2048, .priv, true, some 1⟩ 1 opened
    s.positionsPass ∧ ∀ (k : SlotIx) (q : Pos) (f : Entry) (x : Reason), s.regions.pending[q] = some f →
      f.slot = some k → ¬ s.slotFails k x := by
  refine ⟨single_passes 1, ?_⟩
  intro k q f x h hs
  obtain ⟨rfl, rfl⟩ := single_entry _ _ _ _ _ h
  obtain rfl := Option.some.inj hs
  rcases x with _ | _ | _ | _ | _ | _ | _ | _ | _ | _ <;> try exact id
  · rintro (h | ⟨r, h, h2⟩)
    · exact absurd h (by decide)
    · have hr : ∀ r : ProfIx, ((1 : Byte).getLsbD r.val) = true → opened.cred.profiles[r] ≠ none := by decide
      exact hr r h h2
  · exact fun ⟨_, h, _⟩ => h rfl

/-! ### Witnesses: the erase engine at work -/

/-- E1's job at the head, its key replaced, its MAP commit in progress. -/
def replaced (m : EraseMode) : State :=
  { opened with
    erase := ⟨[⟨1, m⟩], .waitMap, none, 0, .none, 0, 0⟩
    store.busy := some ⟨.map opened.mapRecord, [.eraseMap], 0⟩ }

/-- E1's sweep set up, its SWEEP commit in progress. -/
def settingUp : State :=
  { sweeping with
    erase := { sweeping.erase with stage := .waitSweep }
    store.busy := some ⟨.sweep ⟨some ⟨1, some 2, 65536, []⟩, []⟩, [.eraseSweep], 0⟩ }

theorem witness_ErasePublic :
    (opened.hears 0 ∧ opened.ctl.drive ≠ .fault ∧ opened.ctl.openProfile = some 0) ∧
      opened.regions.table[(0 : Pos).val]? = some ⟨0, 65536, .pub, false, none⟩ ∧ opened.erase.queue = [] ∧
      opened.regions.apply = .idle ∧ opened.filter.inFlight[(0 : Pos)] = 0 :=
  ⟨opened_admin, rfl, rfl, rfl, rfl⟩

theorem witness_EraseCommits (m : EraseMode) :
    ((replaced m).staysAwake ∧ (replaced m).ctl.drive ≠ .fault ∧
      (replaced m).store.busy = some ⟨.map opened.mapRecord, [.eraseMap], 0⟩ ∧ (replaced m).store.queue = [] ∧
      (replaced m).erase.stage = .waitMap ∧
      (replaced m).regions.table[(1 : Pos).val]? = some ⟨65536, 65536, .priv, true, some 1⟩ ∧
      (replaced m).erase.queue = ⟨1, m⟩ :: []) ∧
      (settingUp.staysAwake ∧ settingUp.ctl.drive ≠ .fault ∧
        settingUp.store.busy = some ⟨.sweep ⟨some ⟨sweep1.pos, sweep1.gen, sweep1.c, []⟩, []⟩, [.eraseSweep], 0⟩ ∧
        settingUp.store.queue = [] ∧ settingUp.erase.stage = .waitSweep ∧ settingUp.erase.sweep = some sweep1 ∧
        sweep1.keep = [] ∧ settingUp.filter.txns = [] ∧ settingUp.sweepLimit sweep1.pos = some 131072 ∧
        sweep1.q < 131072) :=
  ⟨⟨.inl rfl, nofun, rfl, rfl, rfl, rfl, rfl⟩, .inl rfl, nofun, rfl, rfl, rfl, rfl, rfl, rfl, rfl, by decide⟩

/-- E1 SWEEPING with the chunk [65536, q) on media tag 4. -/
def chunkOf (q retry : Nat) (ph : SweepPhase) : Sweep :=
  { sweep1 with q := q, chunk := some ⟨0, true⟩, retry := retry, phase := ph }

/-- The command of that chunk. -/
def chunkCommand (q : Nat) : Command :=
  ⟨.chunk 0, .write, ⟨65536, q⟩, List.replicate (q - 65536) (.cipher ⟨1, 2, some 0⟩ 0), 2000⟩

/-- The part with that chunk in flight. -/
def chunking (q retry : Nat) (ph : SweepPhase) : State :=
  { sweeping with
    erase.sweep := some (chunkOf q retry ph)
    media.tags := sweeping.media.tags.set 4 (.busy (chunkCommand q)) }

/-- Every result of a chunk: in both phases, at any retry count, below and at the limit. -/
theorem witness_ChunkResult (retry : Nat) (ph : SweepPhase) :
    (∀ q, let s := chunking q retry ph
      s.media.tags[(4 : Tag)] = .busy (chunkCommand q) ∧ (chunkCommand q).requester = .chunk 0 ∧
        (chunkCommand q).kind = .write ∧ s.erase.sweep = some (chunkOf q retry ph) ∧
        (chunkOf q retry ph).chunk = some ⟨0, true⟩ ∧ s.ctl.drive ≠ .fault ∧ s.power.source = .link ∧
        s.media.sizeWaiting = false ∧ s.filter.txns = [] ∧ s.erase.stage = .sweeping ∧
        s.sweepLimit (chunkOf q retry ph).pos = some 131072 ∧ stepOver (chunkOf q retry ph).keep q = q) ∧
      (131071 : Nat) < 131072 ∧ (131072 : Nat) ≤ 131072 :=
  ⟨fun _ => ⟨rfl, rfl, rfl, rfl, rfl, nofun, rfl, rfl, rfl, rfl, rfl, rfl⟩, by decide⟩

/-- A WRITE piece of [65536, 65538) held until the chunk completes, with one of its two sectors pulled. -/
def holdFrag : Frag :=
  { writeFrag with
    range := ⟨65536, 65538⟩, kind := .hold 0, recorded := true, key := some ⟨1, 2, some 0⟩, state := .waiting
    workKey := some 0, stored := [.cipher ⟨1, 2, some 0⟩ 5] }

/-- The WRITE behind `holdFrag`. -/
def holdTxn : Txn := { writeTxn with range := ⟨65536, 65538⟩, frags := [holdFrag], held := 2 }

/-- That WRITE beside the chunk. -/
def holding : State :=
  { chunking 65600 0 .running with
    filter := ⟨[], [holdTxn], [], 1, opened.filter.inFlight.set 1 1, .none⟩, counters := ⟨24, 1, 1, 0⟩ }

theorem holding_names : holding.namesInv := by
  unfold State.namesInv
  decide

theorem witness_ChunkReleasesHold :
    holding.media.tags[(4 : Tag)] = .busy (chunkCommand 65600) ∧ (chunkCommand 65600).requester = .chunk 0 ∧
      holding.erase.sweep = some (chunkOf 65600 0 .running) ∧ holding.power.source = .link ∧
      holding.media.sizeWaiting = false ∧ holding.media.state = .ready ∧ holding.filter.txns = [holdTxn] ∧
      holdTxn.frags = [holdFrag] ∧ holdFrag.kind = .hold 0 ∧ holdFrag.state = .waiting :=
  ⟨rfl, rfl, rfl, rfl, rfl, rfl, rfl, rfl, rfl, rfl⟩

/-- A retry that waits is ready. -/
theorem witness_RetryGrant :
    let x : Sweep := { chunkOf 65600 1 .running with chunk := some ⟨0, false⟩ }
    let s := { sweeping with erase.sweep := some x }
    s.front.link = .attached ∧ s.media.state = .ready ∧ s.lowestIs 0 ∧ s.cipher.test.waiting = none ∧
      s.chunkReady = true ∧ s.filter.issueQ = [] ∧ s.erase.sweep = some x ∧ x.chunk = some ⟨0, false⟩ :=
  ⟨rfl, rfl, ⟨rfl, by decide⟩, rfl, by decide, rfl, rfl, rfl⟩

/-! ### Witnesses: the media link -/

/-- One READ on media tag 4, and nothing else there. -/
def reading : State :=
  { busy with
    media.tags := opened.media.tags.set 4 (.busy readCommand)
    filter := ⟨[], [readTxn], [], 1, opened.filter.inFlight.set 1 1, .none⟩ }

/-- No other tag than 4 is BUSY. -/
theorem only_tag_4 (s : State) (h : ∀ i : Tag, i ≠ 4 → s.media.tags[i] = .free) (i : Tag) (d : Command) (hi : i ≠ 4) :
    s.media.tags[i] ≠ .busy d := by
  rw [h i hi]
  exact nofun

theorem reading_names : reading.namesInv := by
  unfold State.namesInv
  decide

theorem witness_MediaReadyFails :
    (reading.front.link = .attached ∧ reading.media.state ≠ .notReady ∧
      reading.media.tags[(4 : Tag)] = .busy readCommand ∧
      (∀ (i : Tag) (d : Command), i ≠ 4 → reading.media.tags[i] ≠ .busy d) ∧
      reading.cipher.test.state ≠ .draining ∧ reading.cipher.test.state ≠ .running ∧
      reading.filter.quiesce = .none ∧ reading.erase.stage ≠ .waitCount) ∧
      (readCommand.requester = .fragment readFrag.id ∧ reading.namesInv ∧ readTxn ∈ reading.filter.txns ∧
        readTxn.frags = [readFrag] ∧ readTxn.status = .good ∧ readTxn.dropped = false) ∧
      (let s := chunking 65600 2 .running
       s.front.link = .attached ∧ s.media.state ≠ .notReady ∧ s.media.tags[(4 : Tag)] = .busy (chunkCommand 65600) ∧
         (∀ (i : Tag) (d : Command), i ≠ 4 → s.media.tags[i] ≠ .busy d) ∧ s.cipher.test.state = .none ∧
         s.filter.quiesce = .none ∧ s.erase.stage ≠ .waitCount ∧ (chunkCommand 65600).requester = .chunk 0 ∧
         s.erase.sweep = some (chunkOf 65600 2 .running) ∧ (chunkOf 65600 2 .running).retry < 3 ∧
         s.ctl.drive ≠ .fault) :=
  ⟨⟨rfl, nofun, rfl, only_tag_4 _ (by decide), nofun, nofun, rfl, nofun⟩,
    ⟨rfl, reading_names, by decide, rfl, rfl, rfl⟩,
    rfl, nofun, rfl, only_tag_4 _ (by decide), rfl, rfl, nofun, rfl, rfl, by decide, nofun⟩

theorem witness_TimeoutResets :
    let s := { busy with media.retired := 7 }
    s.media.tags[(4 : Tag)] = .busy readCommand ∧ s.media.tags[(5 : Tag)] = .busy writeCommand ∧
      (∀ (i : Tag) (b : Command), i ≠ 4 → i ≠ 5 → s.media.tags[i] ≠ .busy b) ∧ s.media.sizeWaiting = false ∧
      7 ≤ s.media.retired ∧ s.filter.quiesce = .none ∧ s.erase.stage ≠ .waitCount ∧
      readCommand.requester = .fragment readFrag.id ∧ writeCommand.requester = .fragment writeFrag.id ∧ s.namesInv ∧
      readTxn ∈ s.filter.txns ∧ writeTxn ∈ s.filter.txns ∧ readTxn.frags = [readFrag] ∧
      writeTxn.frags = [writeFrag] ∧ readTxn.status = .good ∧ writeTxn.status = .good ∧ readTxn.dropped = false ∧
      writeTxn.dropped = false ∧ readTxn.id ≠ writeTxn.id := by
  refine ⟨rfl, rfl, ?_, rfl, by decide, rfl, nofun, rfl, rfl, busy_names, by decide⟩
  intro i b h4 h5
  have h : ∀ i : Tag, i ≠ 4 → i ≠ 5 → busy.media.tags[i] = .free := by decide
  exact fun hb => absurd ((h i h4 h5).symm.trans hb) nofun

/-- A RUNNING media test of two passes, with a command on tag 4. -/
def testing (k : Kind) (data : List Content) : State :=
  { opened with
    cipher.test := ⟨.running, 2, 1, 65535, 0, none, 1⟩
    media.tags := opened.media.tags.set 4 (.busy ⟨.test 1, k, opened.scratch, data, 2000⟩) }

theorem witness_TestResults (k : Kind) (data : List Content) :
    (testing k data).media.tags[(4 : Tag)] = .busy ⟨.test 1, k, opened.scratch, data, 2000⟩ ∧
      (testing k data).cipher.test.run = 1 ∧ (testing k data).cipher.test.state = .running ∧
      (testing k data).media.sizeWaiting = false ∧ (testing k data).power.source = .link ∧
      [Content.plain 0] = [(0 : Sector)].map .plain :=
  ⟨rfl, rfl, rfl, rfl, rfl, rfl⟩

/-! ### Witnesses: admission -/

/-- What every admission of a READ, WRITE or DISCARD asks of the state. -/
theorem asking_ready (k : Kind) (r : Range) :
    (asking opened k r).filter.queue = queued k r :: [] ∧ (asking opened k r).filter.quiesce = .none ∧
      (asking opened k r).cipher.run = none ∧ (asking opened k r).ctl.drive ≠ .wiping ∧
      (asking opened k r).ctl.drive ≠ .fault ∧ (asking opened k r).media.state = .ready ∧
      (asking opened k r).cipher.test.state ≠ .running ∧ (asking opened k r).uSpan = some 1000000 :=
  ⟨rfl, rfl, rfl, nofun, nofun, rfl, nofun, rfl⟩

/-- A state with one transaction, queued or admitted, keeps the law of names. -/
theorem one_names (s : State) (t : Txn)
    (h : s.filter.queue = [t] ∧ s.filter.txns = [] ∨ s.filter.queue = [] ∧ s.filter.txns = [t])
    (hf : (t.frags.map Frag.id).Nodup) (hi : t.id < s.counters.ids) (hg : ∀ g ∈ t.frags, g.id < s.counters.ids) :
    s.namesInv := by
  unfold State.namesInv
  obtain ⟨hq, ht⟩ | ⟨hq, ht⟩ := h <;> rw [hq, ht]
  · simp [hi]
  · simpa [hi, hf] using hg

theorem asking_names (k : Kind) (r : Range) : (asking opened k r).namesInv :=
  one_names _ (queued k r) (.inl ⟨rfl, rfl⟩) List.nodup_nil (by decide : 3 < 4) nofun

/-- A WRITE across E1's end: a segment that passes, then a gap; and one across U. -/
theorem witness_Verdict :
    splitRequest 1000000 opened.regions.table ⟨131071, 131073⟩ =
        [.segment 1 ⟨65536, 65536, .priv, true, some 1⟩ ⟨131071, 131072⟩] ++ .gap ⟨131072, 131073⟩ :: [] ∧
      (∃ g, cutPart (asking opened .write ⟨131071, 131073⟩) .write
        (.segment 1 ⟨65536, 65536, .priv, true, some 1⟩ ⟨131071, 131072⟩) = .ok g) ∧
      cutPart (asking opened .write ⟨131071, 131073⟩) .write (.gap ⟨131072, 131073⟩) = .error .noAccess ∧
      splitRequest 1000000 opened.regions.table ⟨1000000, 1000001⟩ = [] ++ .beyond ⟨1000000, 1000001⟩ :: [] ∧
      ((inDrive .enrolling).ctl.drive = .enrolling ∧ (inDrive .factory).ctl.drive = .factory ∧
        opened.ctl.drive ≠ .factory ∧ opened.cred.enroll = none) :=
  ⟨by decide, ⟨_, rfl⟩, rfl, by decide, rfl, rfl, nofun, rfl⟩

theorem witness_SyncPasses :
    (asking opened .sync ⟨0, 0⟩).filter.queue = queued .sync ⟨0, 0⟩ :: [] ∧ (queued .sync ⟨0, 0⟩).kind = .sync ∧
      (asking opened .sync ⟨0, 0⟩).media.state = .ready ∧ (asking opened .sync ⟨0, 0⟩).namesInv :=
  ⟨rfl, rfl, rfl, asking_names _ _⟩

/-- A READ over the end of E0 and the start of E1. -/
theorem witness_TwoRegions :
    let t := asking opened .read ⟨65535, 65537⟩
    (queued .read ⟨65535, 65537⟩).need + t.bufferHeld ≤ 2048 ∧ tableLaw 0 t.regions.table = true ∧
      t.regions.table.length ≤ 16 ∧ (1 : Pos).val = (0 : Pos).val + 1 ∧
      t.regions.table[(0 : Pos).val]? = some ⟨0, 65536, .pub, false, none⟩ ∧
      t.regions.table[(1 : Pos).val]? = some ⟨65536, 65536, .priv, true, some 1⟩ ∧ 0 ≤ 65535 ∧ 65535 < 65536 ∧
      0 + 65536 = 65536 ∧ 65536 < 65537 ∧ 65537 ≤ 65536 + 65536 ∧ t.namesInv ∧ t.eraseState 0 = .idle ∧
      t.eraseState 1 = .idle ∧ t.cipher.slots[(1 : SlotIx)].state = .opened ∧
      (queued .read ⟨65535, 65537⟩).kind = .read := by
  refine ⟨by decide, by decide, by decide, rfl, rfl, rfl, by decide, by decide, rfl, by decide, by decide,
    asking_names _ _, rfl, rfl, rfl, rfl⟩

/-- A sweep of E1 at c = 65,600, w = 65,664 with the chunk [65664, 65728) in flight. -/
def sweep2 : Sweep := { sweep1 with c := 65600, w := 65664, q := 65728, chunk := some ⟨0, true⟩ }

/-- Sixteen keep ranges of one sector, from 66,000 on. -/
def fullKeep : List Range := (List.range 16).map (fun i => ⟨66000 + 2 * i, 66001 + 2 * i⟩)

/-- A WRITE at the boundaries of R49: up to c, from c on, and onto a full keep list. -/
theorem witness_SweepWriteCut :
    sweep2.c ≤ sweep2.w ∧ sweep2.w ≤ sweep2.q ∧ sweep2.chunk = some ⟨0, true⟩ ∧
      (Range.mk 65599 65600).hi ≤ sweep2.c ∧ sweep2.c < (Range.mk 65600 65601).hi ∧
      (keepMerge ⟨max 65600 sweep2.c, 65601⟩ sweep2.keep).length ≤ 16 ∧ fullKeep.length = 16 ∧
      keepSorted fullKeep = true ∧ 16 < (keepMerge ⟨max 65600 sweep2.c, 65601⟩ fullKeep).length ∧
      (keepMerge ⟨66001, 66002⟩ fullKeep).length ≤ 16 := by decide

/-- A WRITE of E1's first sector, E1 SWEEPING with the context given. -/
def sweepAsking (x : Sweep) : State :=
  asking { sweeping with erase.sweep := some x } .write ⟨65536, 65537⟩

theorem witness_SweepAdmission :
    (∀ x, let s := sweepAsking x
      s.filter.queue = queued .write ⟨65536, 65537⟩ :: [] ∧ s.filter.quiesce = .none ∧ s.cipher.run = none ∧
        s.ctl.drive ≠ .wiping ∧ s.ctl.drive ≠ .fault ∧ s.media.state = .ready ∧ s.cipher.test.state ≠ .running ∧
        s.uSpan = some 1000000 ∧ s.regions.table[(1 : Pos).val]? = some ⟨65536, 65536, .priv, true, some 1⟩ ∧
        s.cipher.slots[(1 : SlotIx)].state = .opened ∧ s.readerOpen = false ∧ s.eraseState 1 = .sweeping ∧
        s.erase.sweep = some x) ∧
      (let s := sweepAsking sweep1
       (queued .write ⟨65536, 65537⟩).need + s.bufferHeld ≤ 2048 ∧ tableLaw 0 s.regions.table = true ∧
         (∃ gs, cutWrite s 1 ⟨65536, 65536, .priv, true, some 1⟩ sweep1 ⟨65536, 65537⟩ =
           some ⟨gs, some ⟨65536, 65537⟩⟩) ∧
         (∃ gs, cutWrite s 1 ⟨65536, 65536, .priv, true, some 1⟩ sweep2 ⟨65536, 65537⟩ = some ⟨gs, none⟩) ∧
         cutWrite s 1 ⟨65536, 65536, .priv, true, some 1⟩ { sweep1 with keep := fullKeep } ⟨65536, 65537⟩ = none) ∧
      ∀ x, (sweepAsking x).namesInv := by
  refine ⟨fun _ => ⟨rfl, rfl, rfl, nofun, nofun, rfl, nofun, rfl, rfl, rfl, rfl, rfl, rfl⟩,
    ⟨by decide, by decide, ⟨_, rfl⟩, ⟨_, rfl⟩, by decide⟩, fun _ => ?_⟩
  exact asking_names .write ⟨65536, 65537⟩

/-! ### Witnesses: pulling -/

/-- `holdTxn` with a PASS piece of one sector behind its HOLD piece. -/
def holdTwo : Txn :=
  { holdTxn with
    range := ⟨65536, 65539⟩, held := 3, pulled := 1
    frags := [holdFrag, { holdFrag with id := 24, range := ⟨65538, 65539⟩, kind := .pass, stored := [] }] }

/-- The last sector of a HOLD piece, and the one sector of the PASS piece behind it. -/
theorem witness_PullsPieces :
    let s := { holding with filter.txns := [holdTwo], counters := ⟨25, 1, 1, 0⟩ }
    let u := { s with filter.txns := [{ holdTwo with pulled := 2 }] }
    (s.pulling = some holdTwo ∧ s.namesInv ∧ holdTwo.frags = [] ++ holdFrag :: holdTwo.frags.tail ∧
      holdFrag.range.has (65536 + 1) = true ∧ holdFrag.state = .waiting ∧ s.media.state = .ready) ∧
      (u.pulling = some { holdTwo with pulled := 2 } ∧ u.namesInv ∧ holdFrag.range.has (65536 + 2) = false ∧
        (Range.mk 65538 65539).has (65536 + 2) = true) := by
  have h : ∀ g ∈ holdTwo.frags, g.id < 25 := by decide
  exact ⟨⟨by decide, one_names _ holdTwo (.inr ⟨rfl, rfl⟩) (by decide) (by decide) h, rfl, by decide, rfl, rfl⟩,
    by decide, one_names _ { holdTwo with pulled := 2 } (.inr ⟨rfl, rfl⟩) (by decide) (by decide) h, by decide,
    by decide⟩

/-! ### Witnesses: the SWEEP commit -/

/-- E1 SWEEPING with a commit of the SWEEP record given in progress, the media state as it is. -/
def storing (r : SweepRecord) (x : Sweep) : State :=
  { sweeping with erase.sweep := some x, store.busy := some ⟨.sweep r, [], 1⟩ }

/-- The sweep of E1 at its checkpoint 65,664. -/
def stored1 : StoredSweep := ⟨1, some 2, 65664, [⟨65700, 65701⟩]⟩

theorem witness_SweepCommit (r : SweepRecord) (x : Sweep) :
    ((storing r x).staysAwake ∧ (storing r x).ctl.drive ≠ .fault ∧
      (storing r x).store.busy = some ⟨.sweep r, [], 1⟩ ∧ (storing r x).store.queue = [] ∧
      (storing r x).filter.txns = [] ∧ (storing r x).erase.sweep = some x ∧
      (storing r x).erase.queue = ⟨1, .full⟩ :: []) ∧
      (sweep2.pos = stored1.pos ∧ sweep2.gen = stored1.gen) ∧ { stored1 with gen := some 1 }.gen ≠ sweep2.gen ∧
      sweep1.phase ≠ .ending ∧ { sweep1 with phase := .ending }.phase = .ending :=
  ⟨⟨.inl rfl, nofun, rfl, rfl, rfl, rfl, rfl⟩, ⟨rfl, rfl⟩, by decide, by decide, rfl⟩

theorem witness_Prune : keepSorted [⟨65600, 65664⟩, ⟨65665, 65666⟩] = true := by decide

/-- A WRITE of E1 whose durability is waited for, as addition `b`. -/
def waitTxn (b : BitVec 32) (st : FragState) : Txn :=
  { writeTxn with
    range := ⟨65700, 65701⟩, waiting := true, recorded := some ⟨65700, 65701⟩, addition := some b
    frags := [{ writeFrag with range := ⟨65700, 65701⟩, recorded := true, key := some ⟨1, 2, some 0⟩, state := st }] }

/-- The SWEEP commit that noted one addition, and the WRITE that waits. -/
def awaited (b : BitVec 32) (st : FragState) : State :=
  { storing ⟨some stored1, []⟩ sweep2 with
    filter := ⟨[], [waitTxn b st], [], 0, Vector.replicate 16 0, .none⟩, counters := ⟨24, 1, 1, 0⟩ }

theorem witness_DurabilityWait :
    (∀ b st, let s := awaited b st
      s.staysAwake ∧ s.ctl.drive ≠ .fault ∧ s.store.busy = some ⟨.sweep ⟨some stored1, []⟩, [], 1⟩ ∧
        s.store.queue = [] ∧ s.erase.sweep = some sweep2 ∧ sweep2.pos = stored1.pos ∧ sweep2.gen = stored1.gen ∧
        s.filter.txns = [] ++ waitTxn b st :: [] ∧ (waitTxn b st).waiting = true ∧ (waitTxn b st).kind = .write ∧
        (waitTxn b st).status = .good ∧ (waitTxn b st).dropped = false ∧
        { s with erase.sweep := none }.erase.sweep = none) ∧
      (∀ b st, (awaited b st).namesInv) ∧
      ((1 : BitVec 32) - 1).toNat < 2147483648 ∧ 2147483648 ≤ ((1 : BitVec 32) - 2).toNat ∧
      stored1.checkpoint < (Range.mk 65700 65701).hi ∧ (Range.mk 65663 65664).hi ≤ stored1.checkpoint := by
  refine ⟨fun _ _ => ⟨.inl rfl, nofun, rfl, rfl, rfl, rfl, rfl, rfl, rfl, rfl, rfl, rfl, rfl⟩, fun b st => ?_,
    by decide⟩
  refine one_names _ (waitTxn b st) (.inr ⟨rfl, rfl⟩) (List.nodup_singleton _) (by decide : 22 < 24) fun g hg => ?_
  obtain rfl := List.mem_singleton.mp hg
  exact (by decide : 23 < 24)

/-! ### Witnesses: commits -/

/-- The snapshot of an apply that has swapped. -/
def swappedSnapshot : Snapshot := ⟨staged.regions.pending, staged.regions.masks, Vector.replicate 8 none, true⟩

/-- An apply whose MAP commit is in progress. -/
def applying : State :=
  { opened with
    regions := { opened.regions with apply := .draining, snapshot := some swappedSnapshot }
    filter.quiesce := .apply, store.busy := some ⟨.map opened.mapRecord, [.applyEnd], 0⟩ }

/-- A removal of profile 3 whose PROFILE commit is in progress. -/
def removing : State :=
  { opened with
    cred.removal := opened.cred.removal.set 3 true, store.busy := some ⟨.profile 3 none, [.removal 3], 0⟩ }

/-- The wipe waiting for the commit of a step. -/
def wiping (k : Nat) (x : RecordContent) : State :=
  { locked with
    ctl := { locked.ctl with drive := .wiping, wipeStep := some k }
    store.busy := some ⟨x, [.wipe k], 0⟩ }

theorem witness_CommitEffects :
    (applying.staysAwake ∧ applying.ctl.drive ≠ .fault ∧
      applying.store.busy = some ⟨.map opened.mapRecord, [.applyEnd], 0⟩ ∧ applying.store.queue = [] ∧
      applying.regions.snapshot = some swappedSnapshot ∧ swappedSnapshot.swapped = true ∧
      applying.regions.apply = .draining ∧ applying.filter.quiesce = .apply) ∧
      (removing.staysAwake ∧ removing.ctl.drive ≠ .fault ∧
        removing.store.busy = some ⟨.profile 3 none, [.removal 3], 0⟩ ∧ removing.store.queue = [] ∧
        removing.cred.removal[(3 : ProfIx)] = true) ∧
      (∀ k x, (wiping k x).staysAwake ∧ (wiping k x).ctl.drive = .wiping ∧ (wiping k x).ctl.wipeStep = some k ∧
        (wiping k x).store.busy = some ⟨x, [.wipe k], 0⟩ ∧ (wiping k x).store.queue = [] ∧
        (wiping k x).erase.sweep = none ∧ (wiping k x).filter.txns = []) ∧
      (∀ m : MapRecord, ∀ r, RecordContent.map m ≠ .sweep r) ∧ (9 = (6 : ProfIx).val + 3 ∧ (6 : ProfIx) < 7) :=
  ⟨⟨.inl rfl, nofun, rfl, rfl, rfl, rfl, rfl, rfl⟩, ⟨.inl rfl, nofun, rfl, rfl, by decide⟩,
    fun _ _ => ⟨.inl rfl, rfl, rfl, rfl, rfl, rfl, rfl⟩, nofun, rfl, by decide⟩

/-- The failed commit, in a state with no quiesce and in one whose apply drains. -/
theorem witness_CommitFails :
    (committing.store.busy = some ⟨.options .defaults, [], 0⟩ ∧ committing.ctl.drive ≠ .fault ∧
      (committing.filter.quiesce = .apply → committing.regions.apply = .draining)) ∧
      (applying.filter.quiesce = .apply → applying.regions.apply = .draining) :=
  ⟨⟨rfl, nofun, nofun⟩, fun _ => rfl⟩

/-- An enrollment in COMMITTING with a commit of it in progress. -/
def finishing (o : Origin) (w : Waiter) (profileDone mapDone cancelled : Bool) : State :=
  { enrolling o .committing with
    cred.enroll := some ⟨3, .user, o, .committing, [], profileDone, mapDone, cancelled⟩
    store.busy := some ⟨.profile 3 none, [w], 0⟩ }

theorem witness_EnrollCommits (o : Origin) (w : Waiter) (p m c : Bool) :
    let s := finishing o w p m c
    s.staysAwake ∧ s.ctl.drive ≠ .fault ∧ s.store.queue = [] ∧ s.store.busy = some ⟨.profile 3 none, [w], 0⟩ ∧
      s.cred.enroll = some ⟨3, .user, o, .committing, [], p, m, c⟩ ∧ (∀ r, RecordContent.profile 3 none ≠ .sweep r) ∧
      s.ctl.drive = .enrolling := by
  cases o <;> exact ⟨.inl rfl, nofun, rfl, rfl, rfl, nofun, rfl⟩

theorem witness_CipherTestFails :
    { opened with cipher.run := some ⟨.plain, 0⟩ }.cipher.run = some ⟨.plain, 0⟩ ∧ opened.ctl.drive ≠ .fault ∧
      (opened.filter.quiesce = .apply → opened.regions.apply = .draining) :=
  ⟨rfl, nofun, nofun⟩

/-! ### Witnesses: start-up -/

/-- Start-up at its end with E0 and E1 in the table, E1's slot at generation 2, its mask naming the EMPTY profile 1,
and a SWEEP record. -/
def restoring (w : SweepRecord) : State :=
  { starting 0 with
    regions.table := opened.regions.table
    cipher.slots := (starting 0).cipher.slots.set 1 ⟨.closed, some 0, 2, 3⟩
    store.sweep := Copies.delivered w }

/-- What the end of start-up asks of a state beside the record. -/
theorem witness_Restore (w : SweepRecord) :
    let s := restoring w
    s.cipher.run = some ⟨.startUp, 0⟩ ∧ s.ctl.drive = .starting ∧
      ((s.cipher.slots[(1 : SlotIx)].mask).getLsbD 1 = true ∧ s.cred.profiles[(1 : ProfIx)] = none) ∧
      s.store.busy = none ∧ s.store.queue = [] ∧ s.erase = ⟨[], .idle, none, 0, .none, 0, 0⟩ ∧
      s.filter.inFlight[(1 : Pos)] = 0 ∧ s.filter.inFlight[(0 : Pos)] = 0 ∧
      s.regions.table[(1 : Pos).val]? = some ⟨65536, 65536, .priv, true, some 1⟩ ∧
      s.regions.table[(0 : Pos).val]? = some ⟨0, 65536, .pub, false, none⟩ ∧
      s.cipher.slots[(1 : SlotIx)].gen = 2 ∧ s.cipher.slots[(1 : SlotIx)].key ≠ none :=
  ⟨rfl, rfl, ⟨(by decide : (3 : Byte).getLsbD 1 = true), rfl⟩, rfl, rfl, rfl, rfl, rfl, rfl, rfl, rfl, nofun⟩

/-- The records: a sweep at the slot's generation and one at an older one, with jobs that are kept and one that is
not, its position being absent. -/
theorem witness_RestoreRecords :
    (restoring ⟨some stored1, [⟨0, .full⟩]⟩).store.sweep.load sweepLaw = some ⟨some stored1, [⟨0, .full⟩]⟩ ∧
      stored1.gen = some 2 ∧
      (let w : SweepRecord := ⟨some { stored1 with gen := some 1 }, [⟨2, .quick⟩, ⟨1, .quick⟩]⟩
       (restoring w).store.sweep.load sweepLaw = some w ∧ [⟨1, .quick⟩] = w.jobs.filter (restoring w).keepsJob ∧
         { stored1 with gen := some 1 }.gen ≠ some 2) ∧
      [⟨0, .full⟩] = [⟨0, .full⟩].filter (restoring ⟨none, []⟩).keepsJob ∧
      (2 : Nat) < 4294967295 ∧ (after (.cipherTestEnd 0) (restoring ⟨none, []⟩)).ctl.drive = .locked := by
  decide +kernel

/-- A store whose OPTIONS do not load once both copies have decayed, and whose MAP then does not either. -/
theorem witness_PowerOnDecayed :
    (State.reset.store.decay 3).options.load optionsLaw = none ∧
      (State.reset.store.decay 3).map.load mapLaw ≠ none ∧
      ∃ d, (State.reset.store.decay d).map.load mapLaw = none := by
  refine ⟨by decide +kernel, by decide +kernel, BitVec.allOnes 24, by decide +kernel⟩

/-! ### Witnesses: the duplicate comparison -/

/-- The comparison of an enrollment's digits at its end. -/
def checking (o : Origin) (d : List Digit) (media : MediaState) : State :=
  { enrolling o .testing with
    cred := { (enrolling o .testing).cred with comparison := some ⟨.duplicate, d, 0⟩ }
    media := { opened.media with state := media } }

theorem witness_Duplicate (o : Origin) (d : List Digit) (m : MediaState) :
    let s := checking o d m
    s.staysAwake ∧ s.power.mode = .active ∧ s.ctl.drive ≠ .fault ∧ s.cred.comparison = some ⟨.duplicate, d, 0⟩ ∧
      s.cred.enroll = some (enrollment o .testing) ∧ (enrollment o .testing).step = .testing ∧
      s.media.state = m ∧ (m = .ready → s.uSpan = some 1000000) ∧ (o = .factory → s.ctl.openProfile = none) := by
  refine ⟨?_, ?_, ?_, rfl, rfl, rfl, rfl, fun h => by subst h; rfl, fun h => by subst h; rfl⟩ <;> cases o
  · exact .inl rfl
  · exact .inl rfl
  · rfl
  · rfl
  · nofun
  · nofun

theorem witness_DuplicateDigits :
    matchProfile (checking .opened [1, 2, 3, 4, 5, 6, 7] .ready).cred.profiles (some 3) [1, 2, 3, 4, 5, 6, 7] = some 0 ∧
      matchProfile (checking .opened [1, 2, 3, 4, 5, 6, 8] .ready).cred.profiles (some 3) [1, 2, 3, 4, 5, 6, 8] = none ∧
      (opened.cred.enroll = none ∧ (enrollment .opened .first).step ≠ .testing) := by decide

/-! ### Witnesses: keys -/

/-- Whatever the rest of a started part in ACTIVE, a third scan that sees key `i` alone is a PRESS of it. -/
theorem witness_PressAnywhere (s : State) (hs : s.started = true) (hm : s.power.mode = .active)
    (hk : s.keypad.keys = Vector.replicate 12 ⟨false, 0⟩) (i : KeyIx) :
    (pressing i s).started = true ∧ (pressing i s).power.mode = .active ∧
      (pressing i s).keypad.keys[i].down = false ∧
      (debounceAll (BitVec.ofNat 12 (2 ^ i.val)) (pressing i s).keypad.keys)[i].down = true ∧
      ∀ j : KeyIx, j ≠ i → (debounceAll (BitVec.ofNat 12 (2 ^ i.val)) (pressing i s).keypad.keys)[j].down = false := by
  refine ⟨hs, hm, ?_⟩
  have h : ∀ i : KeyIx, ((Vector.replicate 12 (⟨false, 0⟩ : KeyState)).set i ⟨false, 2⟩)[i].down = false ∧
      (debounceAll (BitVec.ofNat 12 (2 ^ i.val)) ((Vector.replicate 12 ⟨false, 0⟩).set i ⟨false, 2⟩))[i].down = true ∧
      ∀ j : KeyIx, j ≠ i →
        (debounceAll (BitVec.ofNat 12 (2 ^ i.val))
          ((Vector.replicate 12 ⟨false, 0⟩).set i ⟨false, 2⟩))[j].down = false := by
    decide +kernel
  simpa [pressing, hk] using h i

/-- An enrollment at a step, collecting the digits given. -/
def collecting (o : Origin) (x : EnrollStep) (d : List Digit) : State :=
  { enrolling o x with
    keypad := { opened.keypad with buffer := d, phase := some .enroll, timer := some 5000 } }

/-- The drive states, keys, media states and collections of the clauses of PressInEntry beyond LOCKED and ENTRY. -/
theorem witness_PressElsewhere :
    (∀ o x d, (collecting o x d).started = true ∧ (collecting o x d).power.mode = .active ∧
      (collecting o x d).ctl.drive = .enrolling ∧ (collecting o x d).cred.enroll = some (enrollment o x) ∧
      (collecting o x d).keypad.phase = some .enroll ∧ (collecting o x d).keypad.buffer = d ∧
      (enrolling o x).keypad.phase = none ∧ (collecting o x d).media.state = .ready) ∧
      (∀ d, (inDrive d).started = true ∨ d = .starting) ∧
      (opened.ctl.drive = .opened ∧ opened.cred.enroll = none ∧ (inDrive .factory).media.state = .ready ∧
        State.reset.ctl.drive = .factory ∧ State.reset.media.state ≠ .ready ∧ State.reset.started = true) ∧
      ((inDrive .factory).cipher.slots[(0 : SlotIx)].state = .empty ∧
        (inDrive .factory).cipher.slots[(0 : SlotIx)].gen ≠ 4294967295) ∧
      ((List.replicate 14 (1 : Digit)).length < 15 ∧ 15 ≤ (List.replicate 15 (1 : Digit)).length ∧
        (List.replicate 6 (1 : Digit)).length < opened.store.effective.minPin ∧
        opened.store.effective.minPin ≤ (List.replicate 7 (1 : Digit)).length) ∧
      ((enrollment .opened .second).first = [1, 2, 3, 4, 5, 6, 7] ∧
        [1, 2, 3, 4, 5, 6, 8] ≠ (enrollment .opened .second).first) := by
  refine ⟨fun o x d => ⟨?_, ?_, rfl, rfl, rfl, rfl, ?_, ?_⟩, ?_, by decide, by decide, by decide, by decide⟩
  · cases o <;> rfl
  · cases o <;> rfl
  · cases o <;> rfl
  · cases o <;> rfl
  · intro d
    cases d <;> first | exact .inl rfl | exact .inr rfl

/-- A part on the battery in a drive state. -/
def unattached (d : DriveState) : State :=
  { inDrive d with
    front.link := .detached, power.source := .battery
    ctl := { (inDrive d).ctl with attached := false } }

/-- That part in STANDBY, a scan of that moment still to be taken. -/
def sleeping (d : DriveState) (i : KeyIx) : State :=
  { unattached d with
    power := { (unattached d).power with mode := .standby, idle := .expired
                                         lastScan := some ((Vector.replicate 12 ⟨false, 0⟩).set i ⟨false, 2⟩) }
    keypad := { (unattached d).keypad with player := none } }

/-- An OPEN drive on the battery whose idle timer has expired, its attach window running out. -/
def lateLock : State :=
  { opened with
    front.link := .detached, power.source := .battery, power.idle := .expired
    ctl := { opened.ctl with attached := false, window := some 0, inactivity := none } }

theorem witness_LateLock :
    lateLock.ctl.window ≠ none ∧ lateLock.ctl.drive = .opened ∧ lateLock.cred.enroll = none ∧
      lateLock.power.idle = .expired ∧ lateLock.power.on = true ∧ lateLock.power.mode = .active ∧
      lateLock.power.source = .battery ∧ lateLock.store.busy = none ∧ lateLock.store.queue = [] := by decide

theorem witness_StandbyPress :
    (∀ d, (unattached d).power.idle = .running 20000 ∧ (unattached d).power.on = true ∧
      (unattached d).power.mode = .active ∧ (unattached d).power.source = .battery ∧ (unattached d).ctl.drive = d ∧
      (unattached d).store.busy = none ∧ (unattached d).store.queue = []) ∧
      (∀ d i, (sleeping d i).power.mode = .standby ∧ (sleeping d i).ctl.drive = d ∧
        (sleeping d i).power.lastScan = some ((Vector.replicate 12 ⟨false, 0⟩).set i ⟨false, 2⟩) ∧
        (sleeping d i).keypad.player = none) ∧
      { unattached .locked with power.idle := .restarted }.power.idle = .restarted ∧
      ({ unattached .factory with media.state := .sizing }.media.state ≠ .ready) ∧
      (∀ i j : KeyIx, (debounceAll 0 ((Vector.replicate 12 ⟨false, 0⟩).set i ⟨false, 2⟩))[j].down = false) :=
  ⟨fun _ => ⟨rfl, rfl, rfl, rfl, rfl, rfl, rfl⟩, fun _ _ => ⟨rfl, rfl, rfl, rfl⟩, rfl, nofun, by decide +kernel⟩

/-! ### Witnesses: invariants -/

/-- E1 SWEEPING with a chunk in flight and a SWEEP commit that has captured c. -/
def working : State := storing ⟨some ⟨1, some 2, 65600, []⟩, []⟩ sweep2

theorem witness_Modes : working.modeInv ∧ working.profilesInv ∧ working.slotsInv := by
  refine ⟨⟨fun _ => .inl rfl, nofun, nofun, nofun, nofun⟩, ⟨?_, nofun, ?_, nofun⟩, ?_, ?_⟩
  · rintro p ⟨⟩
    exact nofun
  · intro r
    have h : working.cred.removal[r] = false := by revert r; decide
    simp [h]
  · intro e he k hk
    have h : ∀ e ∈ working.regions.table, ∀ k ∈ e.slot, working.cipher.slots[k].key ≠ none := by decide
    exact h e he k hk
  · intro k
    have h : ∀ k : SlotIx, (working.cipher.slots[k].state = .empty ↔ working.cipher.slots[k].key = none) ∧
        (working.cipher.slots[k].state = .opened ↔ working.cipher.slots[k].key ≠ none ∧
          (working.cipher.slots[k].mask).getLsbD (0 : ProfIx).val = true) := by decide
    refine ⟨(h k).1, (h k).2.trans ⟨fun ⟨a, b⟩ => ⟨a, 0, rfl, b⟩, ?_⟩⟩
    rintro ⟨a, _, ⟨⟩, b⟩
    exact ⟨a, b⟩

theorem witness_Table : working.linksInv ∧ working.tableInv ∧ applying.tableInv := by
  refine ⟨⟨by decide, by decide, nofun, by decide, ?_⟩, ⟨by decide, by decide, nofun, nofun⟩, by decide, by decide, ?_, fun _ => rfl⟩
  · rintro _ ⟨⟩
    decide
  · rintro _ ⟨⟩
    decide +kernel

theorem witness_Names : working.namesInv ∧ mapping.freshInv := by
  refine ⟨?_, ?_, nofun, mapping_slots _ ?_ ?_⟩
  · unfold State.namesInv
    decide
  · have h : ∀ k : SlotIx, ∀ n ∈ mapping.cipher.slots[k].key, n < mapping.counters.keys := by decide
    exact h
  · have h : ∀ k : SlotIx, (∀ n ∈ mapping.store.map.a.content.slots[k].key, n < mapping.counters.keys) ∧
        ∀ n ∈ mapping.store.map.b.content.slots[k].key, n < mapping.counters.keys := by decide
    exact h
  · have h : ∀ k : SlotIx, ∀ n ∈ opened.mapRecord.slots[k].key, n < mapping.counters.keys := by decide +kernel
    exact h

theorem witness_SweepLaws :
    working.modeInv ∧ working.eraseInv ∧ working.sweepInv ∧ working.sweepInside ∧
      working.regions.table.length ≤ 16 ∧ (∀ left, working.cipher.run ≠ some ⟨.startUp, left⟩) := by
  refine ⟨witness_Modes.1, ⟨nofun, nofun, ?_, nofun, nofun, nofun⟩, ⟨?_, ?_⟩, ?_, by decide, nofun⟩
  · rintro x ⟨⟩
    exact ⟨_, _, rfl, rfl⟩
  · rintro x ⟨⟩
    refine ⟨by decide, by decide, nofun, ⟨by decide, by decide, by decide⟩, ?_⟩
    rintro y ⟨⟩ - -
    decide
  · rintro y (⟨⟨⟩⟩ | h | h)
    · exact ⟨by decide, by decide, nofun⟩
    · cases h
    · cases h
  · rintro x ⟨⟩
    exact ⟨_, rfl, by decide, by decide, nofun⟩

/-! ### More worked cases -/

/-- STATUS reads whole seconds left, rounded up, and 1 until the expiry (R149). -/
theorem test_backoff_reads_one_at_zero :
    { locked with ctl.drive := .backoff, cred.backoff := some 0 }.backoffLeft = 1 ∧
      { locked with ctl.drive := .backoff, cred.backoff := some 1001 }.backoffLeft = 2 := by decide

/-- A reply's header on the media link: tag 3 under ignored high bits, status 1, span 1,000,064 (R188). -/
theorem test_reply_header_is_read :
    completionOf (headerOfBytes [0xF3, 1, 0, 0, 0x80, 0x42, 0x0F, 0, 0, 2, 0, 0, 0, 0, 0, 0]) .asStored =
      .mediaCompletion 3 1 1000064 .asStored := by decide

/-- A sector written after a LINK_RESET had dropped a piece over it stays known at the next LINK_RESET: only
OUTSTANDING transactions are dropped (R19, R73). -/
theorem test_second_link_reset_forgets_nothing :
    (after .linkReset { after .linkReset busy with flash := [(70000, .plain 1)] }).flash = [(70000, .plain 1)] := by
  decide +kernel

/-- Entry into FAULT at MEDIA_SMALL: the WRITE that waits is answered NOT_READY before its pulled HOLD piece fails
(R5, R60). -/
theorem test_fault_ends_the_wait_first :
    let t := { awaited 1 .waiting with
      filter.txns := [{ waitTxn 1 .waiting with
        frags := [{ holdFrag with range := ⟨65700, 65701⟩, id := 23, stored := [.cipher ⟨1, 2, some 0⟩ 5] }] }]
      store.busy := none
      erase.sweep := some { sweep2 with retry := 1, chunk := some ⟨0, false⟩ }
      media := ⟨.sizing, none, opened.media.tags.set 0 (.busy ⟨.size, .size, ⟨0, 0⟩, [], 2000⟩), 0, false⟩ }
    (after (.mediaCompletion 0 0 4095 .asStored) t).replies = [⟨3, .notReady, none, []⟩] := by decide +kernel

/-- OPEN pressed in the scan of the entry into STANDBY: taken second, it begins an entry and restarts the timer
(R203). -/
theorem test_press_after_the_expiry :
    let t := after (.keypadScan 0x800) (after .standbyIdleTimerExpiry (pressing 11 (unattached .locked)))
    t.power.mode = .standby ∧ t.power.idle = .running 20000 ∧ t.ctl.drive = .entry := by decide +kernel

/-- OPEN pressed in the scan of the moment at which a DETACH, or the expiry of the attach window, locks an OPEN drive
and so enters STANDBY: the change taken first, the PRESS begins an entry in LOCKED (R117, R203). -/
theorem test_press_after_a_lock :
    let p := pressing 11 { opened with power.idle := .expired }
    let q := pressing 11 lateLock
    let t := after (.keypadScan 0x800) (after .detach p)
    let u := after (.keypadScan 0x800) (after .attachWindowExpiry q)
    t.power.mode = .standby ∧ t.power.idle = .running 20000 ∧ t.ctl.drive = .entry ∧
      u.power.mode = .standby ∧ u.power.idle = .running 20000 ∧ u.ctl.drive = .entry := by decide +kernel

/-- An ignored digit taken before the expiry it meets: the timer restarts and no standby follows; the next expiry
enters STANDBY (R203). -/
theorem test_press_before_the_expiry :
    let p := after (.keypadScan 1) (pressing 0 { unattached .locked with power.idle := .running 0 })
    let t := after .standbyIdleTimerExpiry p
    p.power.idle = .restarted ∧ t.power.mode = .active ∧ t.power.idle = .running 20000 ∧
      (after .standbyIdleTimerExpiry t).power.mode = .standby := by decide +kernel

/-- A SWEEP commit that an addition has queued and that starts after the start of a full wipe ends the addition's
wait, the WRITE's pieces having ended; one that had started before the addition does not (R59, R112). -/
theorem test_wipe_keeps_the_distance_of_additions :
    let c : Commit := ⟨.sweep ⟨some stored1, []⟩, [], 4⟩
    let s := { awaited 5 .done with
      erase.additions := 5, store.busy := some c, store.queue := [⟨.sweep, []⟩] }
    let w := after (.wipeAll 0 1) s
    let a := after (.commitCompletion true) w
    let b := after (.commitCompletion true) a
    w.erase.additions = 0 ∧ a.filter.txns.map Txn.waiting = [true] ∧ b.filter.txns = [] ∧
      b.replies.getLast? = some ⟨3, .good, none, []⟩ := by decide +kernel

/-- A sector stored under one key, and read under another key that carries the same slot and generation, delivers
unrelated data (R70). -/
theorem test_one_instance_two_keys :
    let i : KeyInstance := ⟨1, 1, some 0⟩
    (busy.entryAt 1).bind busy.instanceOf = some i ∧ deliverSector (some i) (.cipher i 7) = some 7 ∧
      deliverSector (some { i with key := some 1 }) (.cipher i 7) = none := by decide

/-- An expiry of the entry timer behind a digit, or behind the OPEN that ends an enrollment's first entry, that was
pressed as the timer stood at 0 ms does not take place; one behind an ignored key does, as does the next (R122). -/
theorem test_press_before_the_entry_expiry :
    let p := pressing 0 { entering [] with keypad := { (entering []).keypad with timer := some 0 } }
    let t := after .entryTimerExpiry (after (.keypadScan 1) p)
    let e := { enrolling .opened .waitSecond with keypad.timer := some 0 }
    t.ctl.drive = .entry ∧ t.keypad.buffer = [1] ∧ t.keypad.timer = some 10000 ∧
      (after .entryTimerExpiry t).ctl.drive = .locked ∧
      (after .entryTimerExpiry (after (.keypadScan 0x800) (pressing 11 e))).ctl.drive = .enrolling ∧
      (after .entryTimerExpiry (after (.keypadScan 1) (pressing 0 e))).ctl.drive = .opened := by decide +kernel

/-- An expiry of the inactivity timer behind an arrival at 0 ms does not take place (R161). -/
theorem test_arrival_before_the_inactivity_expiry :
    let t := after .inactivityExpiry
      (after (.status 0 1) { opened with ctl := { opened.ctl with inactivity := some 0 } })
    t.ctl.drive = .opened ∧ t.ctl.inactivity = some 960000 ∧
      (after .inactivityExpiry t).ctl.drive = .locked := by decide +kernel

/-- The default table over a table in force: the key of slot 1 is destroyed as at a swap, slot 0 gets a fresh one
(R23, R38). -/
theorem test_default_table_over_a_table :
    let t := installDefault locked
    t.cipher.slots[(1 : SlotIx)] = ⟨.empty, none, 2, 0⟩ ∧
      t.cipher.slots[(0 : SlotIx)] = ⟨.closed, some locked.counters.keys, 1, 1⟩ ∧
      t.regions.masks[(1 : SlotIx)] = 0 ∧ t.regions.table.length = 1 := by decide +kernel

end Sys2Proof.Tests
end

section
/-! SUPPORT. CLEAR_PENDING: what the copy of the active table holds, and the request taken with admin open. -/

namespace Sys2Proof.Machine

open Sys2Proof

/-- Profile 0 being open is the admin being open. -/
theorem adminOpen_of_openProfile {s : State} (h : s.ctl.openProfile = some 0) : s.adminOpen = true := by
  simp [State.adminOpen, h]

/-- The masks of the slot records, slot by slot (R25). -/
theorem masksOf_eq_ofFn (slots : Vector KeySlot 8) : masksOf slots = Vector.ofFn (fun k => slots[k].mask) := by
  ext i hi
  simp [masksOf]

/-- A heard request that goes through the gate of FAULT is answered with what its taking gives (R175, R176). -/
theorem gatedRequest_of_hears {s : State} {tag : Tag} (h : s.hears tag) (hd : s.ctl.drive ≠ .fault)
    (seq code : Byte) (take : State → Taken) :
    windowRequest tag seq code (faultGate take) s =
      (take s.arrived).2.2.answered tag seq code (take s.arrived).1 (take s.arrived).2.1 := by
  have hgate : faultGate take s.arrived = take s.arrived := faultGate_open (s := s.arrived) hd take
  rw [windowRequest_of_hears h, hgate]

/-- With admin open, CLEAR_PENDING is taken with OK and copies the active table (R28). -/
theorem takeClearPending_of_adminOpen {s : State} (h : s.adminOpen = true) :
    takeClearPending s = (.ok, [], copyPending s) := by
  simp [takeClearPending, h, answer]

end Sys2Proof.Machine

namespace Sys2Proof.Proofs

open Sys2Proof Sys2Proof.Machine

/-- Settles O7: past the window's and the gate's checks the request is taken in the state its arrival leaves, which has
the table, the slots and the open profile of `s`; the copy there is the one of R25. -/
theorem clearPendingCopiesActive : Obligations.ClearPendingCopiesActive := by
  intro s tag seq hears hdrive hopen
  have hadmin : s.arrived.adminOpen = true := adminOpen_of_openProfile (s := s.arrived) hopen
  have hcopy : copyPending s.arrived = { s.arrived with
      regions.pending := Vector.ofFn (fun p => s.regions.table[p.val]?)
      regions.masks := Vector.ofFn (fun k => s.cipher.slots[k].mask) } := by
    rw [copyPending, masksOf_eq_ofFn]
    rfl
  calc exec (.clearPending tag seq) s
      = .next (windowRequest tag seq 0x06 (faultGate takeClearPending) s) := rfl
    _ = .next ((copyPending s.arrived).answered tag seq 0x06 .ok []) := by
        rw [gatedRequest_of_hears hears hdrive, takeClearPending_of_adminOpen hadmin]
    _ = _ := by rw [hcopy]

end Sys2Proof.Proofs
end

section
/-! SUPPORT. The back-off: the delay d(n) on both sides of F, and what an evaluation without a match makes of the drive
state and the back-off timer while n is below F. -/

namespace Sys2Proof.Machine

open Sys2Proof

/-! ### The delay (R148) -/

/-- Below F there is no delay. -/
theorem backoffSeconds_of_lt {free n : Nat} (h : n < free) : backoffSeconds free n = 0 := if_pos h

/-- From F on the delay doubles with each failed attempt, ten times at most. -/
theorem backoffSeconds_of_le {free n : Nat} (h : free ≤ n) : backoffSeconds free n = 2 ^ min (n - free) 10 * 2 :=
  (if_neg (Nat.not_lt.mpr h)).trans (Nat.mul_comm ..)

/-- From F on the delay is at least the 2 s of F itself. -/
theorem two_le_backoffSeconds {free n : Nat} (h : free ≤ n) : 2 ≤ backoffSeconds free n := by
  rw [backoffSeconds_of_le h]
  have : 0 < 2 ^ min (n - free) 10 := Nat.two_pow_pos _
  omega

/-- The delay of the tenth doubling is never exceeded, whatever n. -/
theorem backoffSeconds_le (free n : Nat) : backoffSeconds free n ≤ 2048 := by
  rcases Nat.lt_or_ge n free with h | h
  · simp [backoffSeconds_of_lt h]
  · have : 2 ^ min (n - free) 10 ≤ 2 ^ 10 := Nat.pow_le_pow_right (by decide) (Nat.min_le_right ..)
    rw [backoffSeconds_of_le h]
    omega

/-- The first delay, at n = F. -/
theorem backoffSeconds_self (free : Nat) : backoffSeconds free free = 2 := by
  simp [backoffSeconds_of_le (Nat.le_refl free)]

/-- The last delay, from F + 10 on. -/
theorem backoffSeconds_of_add_ten_le {free n : Nat} (h : free + 10 ≤ n) : backoffSeconds free n = 2048 := by
  have hmin : min (n - free) 10 = 10 := by omega
  rw [backoffSeconds_of_le (by omega), hmin]
  norm_num

/-! ### An evaluation without a match (R146) -/

/-- The drive state is the one that was set (R154). -/
@[simp] theorem setDrive_drive (d : DriveState) (s : State) : (setDrive d s).ctl.drive = d := by
  simp [setDrive]

/-- Discarding an enrollment leaves the back-off timer as it stands. -/
@[simp] theorem cancelEnrollAtWipe_backoff (s : State) : (cancelEnrollAtWipe s).cred.backoff = s.cred.backoff := by
  unfold cancelEnrollAtWipe
  split <;> rfl

/-- A wipe trigger that is heard leads to WIPING and ends a back-off (R166). -/
theorem startWipe_drive_backoff {s : State} (h : ¬(s.ctl.drive = .fault ∨ s.ctl.drive = .wiping)) :
    (startWipe s).ctl.drive = .wiping ∧ (startWipe s).cred.backoff = none := by
  simp [startWipe, h]

/-- The result of an evaluation's comparison is the result of the evaluation, where that still waits for it (R143). -/
theorem exec_comparisonResult_of_evaluation {s : State} {d d' : List Digit} {left : Nat}
    (hc : s.cred.comparison = some ⟨.evaluation, d, left⟩) (he : s.cred.eval = some ⟨d', .comparing⟩) :
    exec .comparisonResult s =
      .next (standbyCheck (evaluationResult d { s with cred.comparison := none })) := by
  calc exec .comparisonResult s
      = execComparisonResult s := rfl
    _ = _ := by simp [execComparisonResult, hc, comparisonEnds, he]

/-- Without a match and with n below F, the evaluation wipes or locks; it never backs off (R145, R146). -/
theorem evaluationResult_of_miss_below_free {s : State} {d : List Digit}
    (hmiss : matchProfile s.cred.profiles none d = none) (hn : s.cred.n < s.store.effective.free) :
    evaluationResult d s = startWipe { s with cred.eval := none } ∨
      evaluationResult d s = requestOneShot .reject (setDrive .locked { s with cred.eval := none }) := by
  unfold evaluationResult
  rw [hmiss]
  by_cases hw : s.store.effective.threshold ≠ 0 ∧ s.store.effective.threshold ≤ s.cred.n
  · exact .inl (if_pos hw)
  · exact .inr ((if_neg hw).trans (if_neg (Nat.not_le.mpr hn)))

/-- An evaluation that fails with n below F makes no back-off (R148). -/
theorem evaluationResult_no_backoff {s : State} {d : List Digit}
    (hmiss : matchProfile s.cred.profiles none d = none) (hn : s.cred.n < s.store.effective.free)
    (hdrive : s.ctl.drive = .evaluating) (hb : s.cred.backoff = none) :
    (evaluationResult d s).cred.backoff = none ∧ (evaluationResult d s).ctl.drive ≠ .backoff := by
  rcases evaluationResult_of_miss_below_free hmiss hn with h | h
  case inl =>
    obtain ⟨hwiping, hnone⟩ := startWipe_drive_backoff (s := { s with cred.eval := none }) (by simp [hdrive])
    rw [h, hwiping]
    exact ⟨hnone, by decide⟩
  case inr => simp [h, hb]

end Sys2Proof.Machine

namespace Sys2Proof.Proofs

open Sys2Proof Sys2Proof.Machine

/-- Settles O48: the delay by its values below F and from F on; and a comparison that ends an evaluation below F ends
it in WIPING or in LOCKED, with the back-off timer not running, which the standby decision does not touch. -/
theorem backoffDelay : Obligations.BackoffDelay := by
  refine ⟨fun free n _ _ _ => ⟨backoffSeconds_of_lt, fun h => ?_, fun h => ?_, backoffSeconds_of_add_ten_le⟩, ?_⟩
  · exact ⟨backoffSeconds_of_le h, two_le_backoffSeconds h, backoffSeconds_le free n⟩
  · rw [h, backoffSeconds_self]
  · intro s t d d' left hc he hdrive hb hmiss hn hrun
    rw [exec_comparisonResult_of_evaluation hc he] at hrun
    obtain rfl := Host.Outcome.next.inj hrun
    have hkept := evaluationResult_no_backoff (s := { s with cred.comparison := none }) hmiss hn hdrive hb
    simpa using hkept

end Sys2Proof.Proofs
end

section
/-! SUPPORT. STATUS: the flags of its payload as bytes, and the payload cut where the sweep's fields, which take two
forms, begin and end. -/

namespace Sys2Proof.Machine

open Sys2Proof

/-! ### Flags (R187) -/

/-- The power source as a byte: 1 for LINK, 2 for BATTERY. -/
theorem sourceByte_eq_ite (p : PowerSource) :
    (match p with | .link => (1 : Byte) | .battery => 2) = if p = .link then 1 else 2 := by
  cases p <;> rfl

/-- The apply state as a byte: 1 while an apply drains. -/
theorem applyByte_eq_ite (a : ApplyState) :
    (match a with | .idle => (0 : Byte) | .draining => 1) = if a = .draining then 1 else 0 := by
  cases a <;> rfl

/-- Commit pending as a byte: 1 with a commit in progress or one queued (R193). -/
theorem byteOfBool_commitPending (s : State) :
    byteOfBool s.commitPending = if s.store.busy.isSome ∨ s.store.queue ≠ [] then 1 else 0 := by
  have hpending : s.commitPending = true ↔ s.store.busy.isSome ∨ s.store.queue ≠ [] := by
    simp [State.commitPending]
  simp only [byteOfBool, hpending]

/-! ### The fields of the sweep (R187, offsets 33 to 48) -/

theorem sweepBytes_length (s : State) : s.sweepBytes.length = 16 := by
  unfold State.sweepBytes
  split <;> rfl

theorem sweepBytes_drop_of_idle {s : State} (h : s.sweeping = none) :
    s.sweepBytes.drop 1 = 0xFF :: List.replicate 14 0 := by
  unfold State.sweepBytes
  rw [h]
  rfl

theorem sweepBytes_drop_of_sweeping {s : State} {x : Sweep} (h : s.sweeping = some x) :
    s.sweepBytes.drop 1 = [BitVec.ofNat 8 x.pos.val, if s.paused x then 1 else 0] ++ le32 x.c ++ le32 x.w ++
      le32 x.q ++ [BitVec.ofNat 8 x.keep.length] := by
  unfold State.sweepBytes
  rw [h]
  rfl

/-! ### The cut payload -/

/-- What follows the sweep's fields in a STATUS payload: the last sweep result, the cipher and media test results and
the last enrollment's result (R187, offsets 49 to 64). -/
def State.statusResults (s : State) : List Byte :=
  s.erase.lastResult.bytes ++
  [s.cipher.result.code, s.cipher.test.state.code, BitVec.ofNat 8 s.cipher.test.requested,
   BitVec.ofNat 8 s.cipher.test.done] ++
  le16 s.cipher.test.mismatched ++ le16 s.cipher.test.errors ++ [s.cred.lastEnroll.code]

/-- From offset 33 on the payload is the sweep's fields and then the results. -/
theorem statusPayload_drop_25 (s : State) : s.statusPayload.drop 25 = s.sweepBytes ++ s.statusResults := by
  simp [State.statusPayload, State.statusResults, le16, le32]

theorem statusPayload_length (s : State) : s.statusPayload.length = 57 := by
  have hcut := congrArg List.length (statusPayload_drop_25 s)
  have hresults : s.statusResults.length = 16 := rfl
  rw [List.length_drop, List.length_append, sweepBytes_length, hresults] at hcut
  omega

/-- The fifteen bytes after the erase queue's length are the sweep's own. -/
theorem statusPayload_sweepFields (s : State) : (s.statusPayload.drop 26).take 15 = s.sweepBytes.drop 1 := by
  calc (s.statusPayload.drop 26).take 15
      = ((s.statusPayload.drop 25).take 16).drop 1 := by rw [List.drop_take, List.drop_drop]
    _ = s.sweepBytes.drop 1 := by rw [statusPayload_drop_25, List.take_left' (sweepBytes_length s)]

/-- The last sixteen bytes are the results. -/
theorem statusPayload_drop_41 (s : State) : s.statusPayload.drop 41 = s.statusResults := by
  calc s.statusPayload.drop 41
      = (s.statusPayload.drop 25).drop 16 := by rw [List.drop_drop]
    _ = s.statusResults := by rw [statusPayload_drop_25, List.drop_left' (sweepBytes_length s)]

/-- STATUS goes through no gate: a heard one is answered OK with the payload, in FAULT too (R176, R178). -/
theorem exec_status_of_hears {s : State} {tag : Tag} (h : s.hears tag) (seq : Byte) :
    exec (.status tag seq) s = .next (s.arrived.answered tag seq 0x01 .ok s.arrived.statusPayload) := by
  calc exec (.status tag seq) s
      = .next (windowRequest tag seq 0x01 takeStatus s) := rfl
    _ = _ := by rw [windowRequest_of_hears h, takeStatus]

end Sys2Proof.Machine

namespace Sys2Proof.Proofs

open Sys2Proof Sys2Proof.Machine

/-- Settles O3: the answer by the window's law for a heard request; of the payload's clauses, those before offset 33
read off the bytes that stand there, the others off the cut at the sweep's fields. -/
theorem statusAnswersInEveryState : Obligations.StatusAnswersInEveryState := by
  refine ⟨fun s tag seq h => exec_status_of_hears h seq, fun s => ⟨statusPayload_length s, ?drive, ?options, rfl, rfl,
    ?apply, rfl, fun h => ?idle, fun x h => ?sweeping, ?result, ?tests⟩⟩
  case drive =>
    rw [← sourceByte_eq_ite]
    rfl
  case options =>
    rw [← byteOfBool_commitPending]
    rfl
  case apply =>
    rw [← applyByte_eq_ite]
    rfl
  case idle => rw [statusPayload_sweepFields, sweepBytes_drop_of_idle h]
  case sweeping => rw [statusPayload_sweepFields, sweepBytes_drop_of_sweeping h]
  case result =>
    rw [statusPayload_drop_41]
    rfl
  case tests =>
    have hcut : s.statusPayload.drop 48 = s.statusResults.drop 7 := by
      rw [← statusPayload_drop_41, List.drop_drop]
    rw [hcut]
    rfl

end Sys2Proof.Proofs
end

section
/-! SUPPORT. The core of the state: the fields that the invariants of the links, the image, the tables, the key slots,
the counters and the names speak of, and the moves that every command makes in them. -/

namespace Sys2Proof.Machine

open Sys2Proof

/-! ### The core and its moves -/

/-- The fields of the state that the invariants O54 and O56 to O58 and the table's laws speak of; of transactions and
fragments their names alone, of the MAP record's copies and of a MAP commit in progress the slot records alone. -/
structure Core where
  link       : LinkState
  source     : PowerSource
  attached   : Bool
  mode       : PowerMode
  media      : MediaState
  capacity   : Option Nat
  flash      : List (Nat × Content)
  table      : List Entry
  snapshot   : Option Snapshot
  apply      : ApplyState
  quiesce    : Quiesce
  queued     : List Nat
  admitted   : List Nat
  frags      : List Nat
  ids        : Nat
  slots      : Vector KeySlot 8
  keys       : Nat
  profile    : Option ProfIx
  attempts   : Nat
  records    : List RecordId
  committing : Option (Vector StoredSlot 8)
  copyA      : Vector StoredSlot 8
  copyB      : Vector StoredSlot 8

/-- The slot records that a MAP commit stores. -/
def Commit.mapSlots (c : Commit) : Option (Vector StoredSlot 8) :=
  match c.content with
  | .map m => some m.slots
  | _ => none

/-- What MAP stores of the key slots (R23). -/
def storedSlots (slots : Vector KeySlot 8) : Vector StoredSlot 8 := slots.map (fun k => ⟨k.key, k.gen, k.mask⟩)

/-- The core of a state. -/
def State.core (s : State) : Core where
  link := s.front.link
  source := s.power.source
  attached := s.ctl.attached
  mode := s.power.mode
  media := s.media.state
  capacity := s.media.capacity
  flash := s.flash
  table := s.regions.table
  snapshot := s.regions.snapshot
  apply := s.regions.apply
  quiesce := s.filter.quiesce
  queued := s.filter.queue.map Txn.id
  admitted := s.filter.txns.map Txn.id
  frags := (s.filter.txns.flatMap Txn.frags).map Frag.id
  ids := s.counters.ids
  slots := s.cipher.slots
  keys := s.counters.keys
  profile := s.ctl.openProfile
  attempts := s.cred.n
  records := s.store.queue.map QueueEntry.record
  committing := s.store.busy.bind Commit.mapSlots
  copyA := s.store.map.a.content.slots
  copyB := s.store.map.b.content.slots

/-- Where a table put into force comes from: it obeys R22, or it is a snapshot's, or it is the default table of R38
over a READY medium. -/
def Core.tableFrom (c : Core) (t : List Entry) : Prop :=
  (tableLaw 0 t = true ∧ t.length ≤ 16) ∨ (∃ n, c.snapshot = some n ∧ t = n.entries.toList.filterMap id) ∨
    (c.media = .ready ∧ t = [⟨0, floor8 ((c.capacity.map (fun x =>
      min x Config.windowBase - Config.scratchSectors)).getD 0), .priv, true, some 0⟩])

/-- Where a snapshot comes from: its table obeys R22 or is that of the snapshot held, and each key copied stands in a
slot or in the snapshot held. -/
def Core.snapshotFrom (c : Core) (x : Snapshot) : Prop :=
  (tableLaw 0 (x.entries.toList.filterMap id) = true ∨ ∃ y, c.snapshot = some y ∧ x.entries = y.entries) ∧
  ∀ (k : SlotIx) (n : Nat), x.copies[k] = some n →
    c.slots[k].key = some n ∨ ∃ y, c.snapshot = some y ∧ y.copies[k] = some n

/-- What a change of the key slots may make of one: it opens one only with a profile open, a generation stays or goes to
the next, and a key is the one held, a fresh one or a snapshot's copy. -/
structure Core.SlotMove (c : Core) (p : Option ProfIx) (keys : Nat) (k : SlotIx) (y : KeySlot) : Prop where
  state : p = none → y.state = .opened → c.profile = none ∧ c.slots[k].state = .opened
  gen   : y.gen = c.slots[k].gen ∨ y.gen = nextGen c.slots[k].gen
  key   : ∀ n, y.key = some n → c.slots[k].key = some n ∨ (c.keys ≤ n ∧ n < keys) ∨
    ∃ x, c.snapshot = some x ∧ x.copies[k] = some n

/-- What R67 says of a slot against the open profile: EMPTY without a key, and with one OPEN exactly if its mask names
the profile, else CLOSED. -/
def KeySlot.ok (p : Option ProfIx) (y : KeySlot) : Prop :=
  (y.state = .empty ↔ y.key = none) ∧
    (y.state = .opened ↔ y.key ≠ none ∧ ∃ r : ProfIx, p = some r ∧ y.mask.getLsbD r.val = true)

/-- `slotsInv` as a property of the core (R23, R67). -/
def Core.slotsOk (c : Core) : Prop :=
  (∀ e ∈ c.table, ∀ k : SlotIx, e.slot = some k → c.slots[k].key ≠ none) ∧ ∀ k : SlotIx, c.slots[k].ok c.profile

/-- One move of the core that keeps the law of R67, outside a loss or return of power. -/
inductive Core.Move : Core → Core → Prop
  | links (c : Core) (l : LinkState) (p : PowerSource) (a : Bool) (m : PowerMode) (hl : l = .attached ↔ p = .link)
      (ha : a = true ↔ p = .link) (hm : m = .standby → p = .battery) :
      Move c { c with link := l, source := p, attached := a, mode := m }
  | mode (c : Core) (m : PowerMode) (h : m = .standby → c.source = .battery) : Move c { c with mode := m }
  | media (c : Core) (m : MediaState) (u : Option Nat) (h : m = .ready ↔ u.isSome = true)
      (hu : ∀ x, u = some x → 4096 ≤ x) : Move c { c with media := m, capacity := u }
  | flash (c : Core) (f : List (Nat × Content)) (h : flashWf c.flash = true → flashWf f = true) :
      Move c { c with flash := f }
  | snapshot (c : Core) (n : Option Snapshot) (h : ∀ x, n = some x → c.snapshotFrom x) :
      Move c { c with snapshot := n }
  | quiesce (c : Core) (a : ApplyState) (q : Quiesce)
      (h : q = .apply → a = .draining ∨ c.quiesce = .apply ∧ a = c.apply) :
      Move c { c with apply := a, quiesce := q }
  | drop (c : Core) (q a f : List Nat) (hq : q.Sublist c.queued) (ha : a.Sublist c.admitted) (hf : f.Sublist c.frags) :
      Move c { c with queued := q, admitted := a, frags := f }
  | arrive (c : Core) : Move c { c with queued := c.queued ++ [c.ids], ids := c.ids + 1 }
  | enter (c : Core) (i : Nat) (rest : List Nat) (k : Nat) (h : c.queued = i :: rest) :
      Move c { c with
        queued := rest, admitted := c.admitted ++ [i], frags := c.frags ++ List.range' c.ids k, ids := c.ids + k }
  | slots (c : Core) (p : Option ProfIx) (v : Vector KeySlot 8) (keys : Nat) (t : List Entry) (hk : c.keys ≤ keys)
      (ht : t = c.table ∨ c.tableFrom t) (h : ∀ k : SlotIx, c.SlotMove p keys k v[k])
      (hlaw : c.slotsOk → Core.slotsOk { c with slots := v, profile := p, keys := keys, table := t }) :
      Move c { c with slots := v, profile := p, keys := keys, table := t }
  | attempts (c : Core) (n : Nat) (h : n ≤ 255) : Move c { c with attempts := n }
  | request (c : Core) (r : RecordId) :
      Move c { c with records := if r ∈ c.records then c.records else c.records ++ [r] }
  | start (c : Core) (r : RecordId) (rest : List RecordId) (v : Option (Vector StoredSlot 8))
        (h : c.records = r :: rest)
      (hv : ∀ x, v = some x → x = storedSlots c.slots) : Move c { c with records := rest, committing := v }
  | finish (c : Core) : Move c { c with committing := none }
  | storeA (c : Core) (v : Vector StoredSlot 8) (h : c.committing = some v) : Move c { c with copyA := v }
  | storeB (c : Core) (v : Vector StoredSlot 8) (h : c.committing = some v) : Move c { c with copyB := v }

/-- A move, or a change of the key slots that keeps the law of R67 only by what the contexts obey: the opening of a
profile (R68) and the clearing of mask bits (R37). -/
inductive Core.Act : Core → Core → Prop
  | move {c d : Core} (h : Core.Move c d) : Act c d
  | slots (c : Core) (p : Option ProfIx) (v : Vector KeySlot 8)
      (h : ∀ k : SlotIx, c.SlotMove p c.keys k v[k]) : Act c { c with slots := v, profile := p }

/-- A state leads to another by moves of the core. -/
def State.leads (s t : State) : Prop := Relation.ReflTransGen Core.Move s.core t.core

theorem State.leads.refl (s : State) : s.leads s := Relation.ReflTransGen.refl

theorem State.leads.trans {s t u : State} (h : s.leads t) (h' : t.leads u) : s.leads u :=
  Relation.ReflTransGen.trans h h'

theorem State.leads.of_move {s t : State} (h : Core.Move s.core t.core) : s.leads t :=
  Relation.ReflTransGen.single h

theorem State.leads.of_core {s t : State} (h : t.core = s.core) : s.leads t := by
  unfold State.leads
  rw [h]

/-- Moves from a state with the same core. -/
theorem State.leads.after {s t u : State} (h : t.leads u) (hc : t.core = s.core) : s.leads u :=
  (of_core hc).trans h

theorem State.leads.before {s t u : State} (h : t.leads u) (h' : s.leads t) : s.leads u := h'.trans h

/-- A state runs to another by moves of the core, openings of a profile and clearings of mask bits. -/
def State.runs (s t : State) : Prop := Relation.ReflTransGen Core.Act s.core t.core

theorem State.leads.runs {s t : State} (h : s.leads t) : s.runs t :=
  Relation.ReflTransGen.mono (fun _ _ => Core.Act.move) _ _ h

theorem State.runs.refl (s : State) : s.runs s := Relation.ReflTransGen.refl

theorem State.runs.trans {s t u : State} (h : s.runs t) (h' : t.runs u) : s.runs u :=
  Relation.ReflTransGen.trans h h'

theorem State.runs.of_core {s t : State} (h : t.core = s.core) : s.runs t := (State.leads.of_core h).runs

theorem State.runs.after {s t u : State} (h : t.runs u) (hc : t.core = s.core) : s.runs u := (of_core hc).trans h

theorem State.runs.before {s t u : State} (h : t.runs u) (h' : s.leads t) : s.runs u := h'.runs.trans h

theorem foldl_runs {β : Type} {g : State → β → State} (h : ∀ (s : State) x, s.runs (g s x)) (l : List β) (s : State) :
    s.runs (l.foldl g s) := by
  induction l generalizing s with
  | nil => exact .refl s
  | cons x l ih => exact (h s x).trans (ih _)

/-- A fold of operations whose every step is made of moves is made of moves. -/
theorem foldl_leads {β : Type} {g : State → β → State} (h : ∀ (s : State) x, s.leads (g s x)) (l : List β) (s : State) :
    s.leads (l.foldl g s) := by
  induction l generalizing s with
  | nil => exact .refl s
  | cons x l ih => exact (h s x).trans (ih _)

/-! ### Operations that leave the core as it stands -/

@[simp] theorem selectBackground_core (s : State) : (selectBackground s).core = s.core := by simp [State.core]

@[simp] theorem setDrive_core (d : DriveState) (s : State) : (setDrive d s).core = s.core := by simp [State.core]

@[simp] theorem requestOneShot_core (p : Pattern) (s : State) : (requestOneShot p s).core = s.core := by
  simp [State.core]

@[simp] theorem withdrawRaced_core (s t : State) : (withdrawRaced s t).core = t.core := by simp [State.core]

@[simp] theorem restartInactivity_core (s : State) : (restartInactivity s).core = s.core := by simp [State.core]

@[simp] theorem reportArrival_core (s : State) : (reportArrival s).core = s.core := by simp [State.core]

@[simp] theorem cancelEnrollAtLock_core (s : State) : (cancelEnrollAtLock s).core = s.core := by simp [State.core]

@[simp] theorem cancelEnrollAtWipe_core (s : State) : (cancelEnrollAtWipe s).core = s.core := by simp [State.core]

@[simp] theorem setSweep_core (f : Sweep → Sweep) (s : State) : (setSweep f s).core = s.core := rfl

@[simp] theorem dropChunk_core (s : State) : (dropChunk s).core = s.core := rfl

@[simp] theorem endCollection_core (s : State) : (endCollection s).core = s.core := rfl

@[simp] theorem lowerCounts_core (g : Frag) (s : State) : (lowerCounts g s).core = s.core := rfl

@[simp] theorem raiseCounts_core (g : Frag) (s : State) : (raiseCounts g s).core = s.core := rfl

@[simp] theorem endReply_core (tag : Tag) (st : FrontStatus) (span : Option Nat) (data : List Sector) (s : State) :
    (endReply tag st span data s).core = s.core := rfl

@[simp] theorem startPlayer_core (s : State) : (startPlayer s).core = s.core := rfl

@[simp] theorem startUpEnd_core (s : State) : (startUpEnd s).core = s.core := rfl

@[simp] theorem moveCheckpoint_core (y : StoredSweep) (s : State) : (moveCheckpoint y s).core = s.core := rfl

@[simp] theorem countStored_core (s : State) : (countStored s).core = s.core := by simp [State.core]

@[simp] theorem startEnroll_core (p : ProfIx) (k : ProfileKind) (o : Origin) (x : EnrollStep) (s : State) :
    (startEnroll p k o x s).core = s.core := by simp [State.core]

@[simp] theorem failEnroll_core (e : Enroll) (r : EnrollResult) (s : State) : (failEnroll e r s).core = s.core := by
  simp [State.core]

@[simp] theorem cancelFactoryEnroll_core (e : Enroll) (s : State) : (cancelFactoryEnroll e s).core = s.core := by
  simp [State.core]

@[simp] theorem enterBackoff_core (s : State) : (enterBackoff s).core = s.core := by simp [State.core]

@[simp] theorem endPass_core (s : State) : (endPass s).core = s.core := by simp [State.core]

/-- Counting a mismatch uses up free values alone. -/
@[simp] theorem testResult_core (run : Nat) (kind : Kind) (ok : Bool) (data : List Content) (s : State) :
    (testResult run kind ok data s).core = s.core := by
  unfold testResult
  dsimp only
  split
  · rfl
  · split
    · rfl
    · split <;> simp only [endPass_core] <;> rfl

/-- A change of transactions that keeps their names and those of their fragments. -/
def keepsNames (f : Txn → Txn) : Prop := ∀ t, (f t).id = t.id ∧ (f t).frags.map Frag.id = t.frags.map Frag.id

theorem keepsNames.ids {f : Txn → Txn} (h : keepsNames f) (l : List Txn) : (l.map f).map Txn.id = l.map Txn.id := by
  simp [h _]

theorem keepsNames.frags {f : Txn → Txn} (h : keepsNames f) (l : List Txn) :
    ((l.map f).flatMap Txn.frags).map Frag.id = (l.flatMap Txn.frags).map Frag.id := by
  simp [List.flatMap_map, List.map_flatMap, (h _).2]

theorem txns_map_core {f : Txn → Txn} (h : keepsNames f) (s : State) :
    ({ s with filter.txns := s.filter.txns.map f } : State).core = s.core := by
  have hids := h.ids s.filter.txns
  have hfrags := h.frags s.filter.txns
  simp only [State.core, hids, hfrags]

theorem setTxn_core {f : Txn → Txn} (h : keepsNames f) (id : Nat) (s : State) : (setTxn id f s).core = s.core := by
  refine txns_map_core (fun t => ?_) s
  split
  · exact h t
  · exact ⟨rfl, rfl⟩

theorem setFrag_core {f : Frag → Frag} (h : ∀ g, (f g).id = g.id) (id : Nat) (s : State) :
    (setFrag id f s).core = s.core := by
  have hid (g : Frag) : (if g.id = id then f g else g).id = g.id := by
    split
    · exact h g
    · rfl
  refine txns_map_core (f := fun t => { t with frags := t.frags.map (fun g => if g.id = id then f g else g) })
    (fun t => ⟨rfl, ?_⟩) s
  simp [hid]

theorem keepsNames_fail (st : FrontStatus) : keepsNames (Txn.fail st) := by
  intro t
  unfold Txn.fail
  split <;> exact ⟨rfl, rfl⟩

theorem keepsNames_fail_discard (st : FrontStatus) : keepsNames (fun t => (t.fail st).discardData) := by
  intro t
  obtain ⟨hid, hfrags⟩ := keepsNames_fail st t
  refine ⟨hid, ?_⟩
  calc ((t.fail st).discardData).frags.map Frag.id
      = ((t.fail st).frags.map (fun g => { g with plain := [] })).map Frag.id := rfl
    _ = t.frags.map Frag.id := by
        rw [List.map_map]
        exact hfrags

/-- A commit's rebased count of additions is no part of what it stores. -/
@[simp] theorem rebaseAdditions_core (s : State) : (rebaseAdditions s).core = s.core := by
  have hnames := txns_map_core (f := fun t => { t with addition := t.addition.map (fun a => a - s.erase.additions) })
    (fun t => ⟨rfl, rfl⟩) s
  have hbusy : (s.store.busy.map (fun c => { c with additions := c.additions - s.erase.additions })).bind
      Commit.mapSlots = s.store.busy.bind Commit.mapSlots := by
    cases s.store.busy <;> rfl
  simp only [State.core, Core.mk.injEq] at hnames ⊢
  simp only [rebaseAdditions, hnames, hbusy, and_self]

@[simp] theorem clearRegionCounts_core (s : State) : (clearRegionCounts s).core = s.core := by
  refine (txns_map_core (f := fun t => { t with frags := t.frags.map (fun g => { g with counted := false }) })
    (fun t => ⟨rfl, ?_⟩) s)
  simp

end Sys2Proof.Machine
end

section
/-! SUPPORT. Every shared operation is made of moves of the core: one lemma per operation, in the order of the model. -/

namespace Sys2Proof.Machine

open Sys2Proof

/-! ### Settings store -/

theorem capture_mapSlots (s : State) (r : RecordId) (ws : List Waiter) (a : BitVec 32) (v : Vector StoredSlot 8)
    (h : Commit.mapSlots ⟨s.capture r, ws, a⟩ = some v) : v = storedSlots s.cipher.slots := by
  cases r <;> simp [State.capture, Commit.mapSlots] at h
  exact h.symm

theorem startNext_leads (s : State) : s.leads (startNext s) := by
  rcases startNext_cases s with h | ⟨e, rest, hq, _, _, h⟩
  · rw [h]
    exact .refl s
  · rw [h]
    refine .of_move (.start s.core e.record (rest.map QueueEntry.record) _ ?_ (capture_mapSlots s _ e.waiters _))
    simp [State.core, hq]

/-- A request joins the entry of its record, or makes one at the tail (R193). -/
theorem enqueue_records (r : RecordId) (ws : List Waiter) (q : List QueueEntry) :
    (enqueue r ws q).map QueueEntry.record =
      if r ∈ q.map QueueEntry.record then q.map QueueEntry.record else q.map QueueEntry.record ++ [r] := by
  have hany : q.any (fun e => e.record == r) = true ↔ r ∈ q.map QueueEntry.record := by
    simp [List.any_eq_true, List.mem_map]
  have hjoin (e : QueueEntry) : (if e.record == r then ⟨e.record, e.waiters ++ ws⟩ else e).record = e.record := by
    split <;> rfl
  unfold enqueue
  simp only [hany]
  split
  · rw [List.map_map]
    exact List.map_congr_left (fun e _ => hjoin e)
  · simp

theorem requestCommit_leads (r : RecordId) (ws : List Waiter) (s : State) : s.leads (requestCommit r ws s) := by
  refine .trans (.of_move ?_) (startNext_leads _)
  have h := Core.Move.request s.core r
  simp only [State.core, enqueue_records] at h ⊢
  exact h

/-! ### Tables and key slots -/

/-- A change of the key slots, of the open profile and of the counter of keys, slot by slot, with the table as it is. -/
theorem slots_leads {s t : State} (hk : s.counters.keys ≤ t.counters.keys)
    (h : ∀ k : SlotIx, s.core.SlotMove t.ctl.openProfile t.counters.keys k t.cipher.slots[k])
    (hcore : t.core = { s.core with
      slots := t.cipher.slots, profile := t.ctl.openProfile, keys := t.counters.keys })
    (hlaw : s.core.slotsOk → t.core.slotsOk) : s.leads t := by
  refine .of_move ?_
  rw [hcore] at hlaw ⊢
  exact .slots s.core t.ctl.openProfile t.cipher.slots t.counters.keys s.core.table hk (.inl rfl) h hlaw

/-- A slot that keeps its key and its generation and that is not opened. -/
theorem Core.SlotMove.of_kept {c : Core} {p : Option ProfIx} {keys : Nat} {k : SlotIx} {y : KeySlot}
    (hstate : p = none → y.state = .opened → c.profile = none ∧ c.slots[k].state = .opened)
    (hgen : y.gen = c.slots[k].gen) (hkey : y.key = c.slots[k].key) : c.SlotMove p keys k y :=
  ⟨hstate, .inl hgen, fun _ h => .inl (hkey ▸ h)⟩

/-- A slot once every OPEN slot has been closed (R69). -/
theorem closeSlots_slot (s : State) (k : SlotIx) : (closeSlots s).core.slots[k] =
    if s.cipher.slots[k].state = .opened then { s.cipher.slots[k] with state := .closed } else s.cipher.slots[k] := by
  simp [closeSlots, State.core]

/-- Closing every OPEN slot, no profile being open then (R69). -/
theorem closeSlots_leads (s t : State) (ht : t.core = { (closeSlots s).core with profile := none }) : s.leads t := by
  refine .of_move ?_
  rw [ht]
  clear ht
  refine .slots s.core none _ _ s.core.table (Nat.le_refl _) (.inl rfl) (fun k => ?_) (fun hlaw => ⟨fun e he k hk => ?_,
    fun k => ?_⟩)
  · rw [closeSlots_slot]
    split
    · exact .of_kept (fun _ h => by simp at h) rfl rfl
    · next hclosed => exact .of_kept (fun _ h => absurd h hclosed) rfl rfl
  · have hkey := hlaw.1 e he k hk
    show (closeSlots s).core.slots[k].key ≠ none
    rw [closeSlots_slot]
    split <;> exact hkey
  · obtain ⟨hempty, _⟩ := hlaw.2 k
    show KeySlot.ok none (closeSlots s).core.slots[k]
    rw [closeSlots_slot]
    split
    · next hopened =>
      have hkey : s.cipher.slots[k].key ≠ none := fun h => by
        have hstate : s.cipher.slots[k].state = .empty := hempty.mpr h
        exact absurd (hopened.symm.trans hstate) (by simp)
      exact ⟨by simpa using hkey, by simp⟩
    · next hclosed => exact ⟨hempty, by simpa using hclosed⟩

/-- The opening of the slots that name a profile, with that profile open (R68). -/
theorem openSlots_runs (p : ProfIx) (s : State) : s.runs (openSlots p { s with ctl.openProfile := some p }) := by
  refine Relation.ReflTransGen.single (.slots s.core (some p) (openSlots p s).cipher.slots
    (fun k => .of_kept (fun h => by simp at h) ?_ ?_)) <;>
    simp only [openSlots, State.core, Fin.getElem_fin, Vector.getElem_map] <;> split <;> rfl

/-- What a swap makes of a slot (R34, R72). -/
theorem swapSlot_move (c : Core) (k : SlotIx) (was now : Bool) (mask : Byte) (copy : Option Nat) (fresh keys : Nat)
    (hfresh : was = false → now = true → c.keys ≤ fresh ∧ fresh < keys)
    (hcopy : ∀ n, copy = some n → ∃ x, c.snapshot = some x ∧ x.copies[k] = some n) :
    c.SlotMove c.profile keys k (swapSlot c.profile was now mask copy fresh c.slots[k]) := by
  have hstate (h : c.profile = none) : slotStateFor c.profile mask ≠ .opened := by simp [h, slotStateFor]
  cases was <;> cases now
  case false.false => exact .of_kept (fun hp h => ⟨hp, h⟩) rfl rfl
  case false.true =>
    refine ⟨fun hp h => absurd h (hstate hp), .inr rfl, fun n hn => .inr (.inl ?_)⟩
    obtain rfl : fresh = n := Option.some.inj hn
    exact hfresh rfl rfl
  case true.false => exact ⟨fun _ h => by simp [swapSlot] at h, .inr rfl, fun n hn => by simp [swapSlot] at hn⟩
  case true.true =>
    refine ⟨fun hp h => absurd h (hstate hp), .inl rfl, fun n hn => ?_⟩
    cases hc : copy with
    | none => exact .inl (by simpa [swapSlot, hc] using hn)
    | some m =>
      obtain rfl : m = n := by simpa [swapSlot, hc] using hn
      exact .inr (.inr (hcopy m hc))

theorem slotStateFor_ok (p : Option ProfIx) (mask : Byte) (n g : Nat) :
    KeySlot.ok p ⟨slotStateFor p mask, some n, g, mask⟩ := by
  cases p with
  | none => simp [KeySlot.ok, slotStateFor]
  | some r => cases h : maskHas mask r <;> simp_all [KeySlot.ok, slotStateFor, maskHas]

/-- A swap keeps the law of R67, and the slots that the new table names hold a key. -/
theorem swapSlot_ok {p : Option ProfIx} {was now : Bool} {k : KeySlot} (mask : Byte) (copy : Option Nat) (fresh : Nat)
    (hk : k.ok p) (hwas : was = true → k.key ≠ none) :
    (swapSlot p was now mask copy fresh k).ok p ∧
      (now = true → (swapSlot p was now mask copy fresh k).key ≠ none) := by
  cases was <;> cases now
  case false.false => exact ⟨hk, by simp⟩
  case false.true => exact ⟨slotStateFor_ok p mask fresh _, fun _ => by simp [swapSlot]⟩
  case true.false => exact ⟨by simp [KeySlot.ok, swapSlot], by simp⟩
  case true.true =>
    obtain ⟨n, hn⟩ : ∃ n, (copy <|> k.key) = some n := by
      cases copy with
      | none => exact Option.ne_none_iff_exists'.mp (hwas rfl)
      | some m => exact ⟨m, rfl⟩
    simp only [swapSlot, hn]
    exact ⟨slotStateFor_ok p mask n _, fun _ => by simp⟩

/-- The law of R67 after a change of tables in which every slot is swapped. -/
theorem slotsOk_of_swap {c : Core} {t : List Entry} {v : Vector KeySlot 8} {keys : Nat} (now : SlotIx → Bool)
    (hlaw : c.slotsOk) (hnow : ∀ e ∈ t, ∀ k : SlotIx, e.slot = some k → now k = true)
    (hv : ∀ k : SlotIx, ∃ was mask copy fresh, (was = true → tableNames c.table k = true) ∧
      v[k] = swapSlot c.profile was (now k) mask copy fresh c.slots[k]) :
    Core.slotsOk { c with slots := v, keys := keys, table := t } := by
  have hswap (k : SlotIx) : v[k].ok c.profile ∧ (now k = true → v[k].key ≠ none) := by
    obtain ⟨was, mask, copy, fresh, hwas, h⟩ := hv k
    rw [h]
    refine swapSlot_ok mask copy fresh (hlaw.2 k) (fun hw => ?_)
    obtain ⟨e, he, hk⟩ : ∃ e ∈ c.table, e.slot = some k := by simpa [tableNames, List.any_eq_true] using hwas hw
    exact hlaw.1 e he k hk
  exact ⟨fun e he k hk => (hswap k).2 (hnow e he k hk), fun k => (hswap k).1⟩

/-- A present position that names a slot is named among the present positions. -/
theorem positionsName_of_mem {n : Vector (Option Entry) 16} {e : Entry} {k : SlotIx}
    (he : e ∈ n.toList.filterMap id) (hk : e.slot = some k) : positionsName n k = true := by
  obtain ⟨o, ho, rfl⟩ := List.mem_filterMap.mp he
  unfold positionsName
  exact List.any_eq_true.mpr ⟨some e, ho, by simpa using hk⟩

theorem swapTables_leads {n : Snapshot} {s : State} (hn : s.regions.snapshot = some n) :
    s.leads (swapTables n s) := by
  have hslots := Core.Move.slots s.core s.ctl.openProfile
    (Vector.ofFn (fun k => swapSlot s.ctl.openProfile (tableNames s.regions.table k) (positionsName n.entries k)
      n.masks[k] n.copies[k] (s.counters.keys + k.val) s.cipher.slots[k])) (s.counters.keys + 8)
    (n.entries.toList.filterMap id) (Nat.le_add_right ..) (.inr (.inr (.inl ⟨n, hn, rfl⟩))) (fun k => by
      simp only [Fin.getElem_fin, Vector.getElem_ofFn]
      refine swapSlot_move s.core k _ _ _ _ _ _ (fun _ _ => ⟨Nat.le_add_right .., ?_⟩) (fun m hm => ⟨n, hn, hm⟩)
      have := k.isLt
      omega)
    (fun hlaw => slotsOk_of_swap (positionsName n.entries) hlaw (fun e he k hk => positionsName_of_mem he hk)
      (fun k => ⟨tableNames s.regions.table k, n.masks[k], n.copies[k], s.counters.keys + k.val, id, by
        simp [State.core]⟩))
  refine .trans ?_ (requestCommit_leads ..)
  refine (Relation.ReflTransGen.single hslots).tail
    (.snapshot _ (some { n with copies := Vector.replicate 8 none, swapped := true }) ?_)
  rintro x ⟨rfl⟩
  exact ⟨.inr ⟨n, hn, rfl⟩, fun k m hm => by simp at hm⟩

theorem endApply_leads (s : State) : s.leads (endApply s) := by
  unfold endApply
  split
  · refine (Relation.ReflTransGen.single (.snapshot s.core none (fun _ h => by simp at h))).tail
      (.quiesce _ .idle (if s.filter.quiesce = .apply then .none else s.filter.quiesce) ?_)
    intro h
    split at h <;> simp_all
  · exact .refl s

/-- Clearing bits of masks in the slots changes neither a key nor a generation nor a state. -/
theorem slotMasks_runs (s : State) (f : Byte → Byte) :
    s.runs { s with cipher.slots := s.cipher.slots.map (fun k => { k with mask := f k.mask }) } := by
  refine Relation.ReflTransGen.single (.slots s.core s.ctl.openProfile _
      (fun k => .of_kept (fun hp h => ⟨hp, ?_⟩) ?_ ?_))
  · simpa [State.core] using h
  · simp [State.core]
  · simp [State.core]

theorem snapshotMasks_leads (s : State) (f : Snapshot → Vector Byte 8) :
    s.leads { s with regions.snapshot := s.regions.snapshot.map (fun n => { n with masks := f n }) } := by
  refine .of_move (.snapshot s.core _ (fun x hx => ?_))
  obtain ⟨y, hy, rfl⟩ := Option.map_eq_some_iff.mp hx
  exact ⟨.inr ⟨y, hy, rfl⟩, fun k n hn => .inr ⟨y, hy, hn⟩⟩

theorem clearRemoved_runs (r : ProfIx) (s : State) : s.runs (clearRemoved r s) :=
  ((slotMasks_runs s (fun m => maskClear m r)).trans
    (snapshotMasks_leads _ (fun n => n.masks.map (fun m => maskClear m r))).runs).trans
      ((requestCommit_leads ..).runs.after rfl)

theorem clearEmptyMasks_runs (s : State) : s.runs (clearEmptyMasks s) := by
  have h := slotMasks_runs s (maskActive s.cred.profiles)
  unfold clearEmptyMasks
  dsimp only
  split
  · exact h
  · exact h.trans ((requestCommit_leads ..).runs.after rfl)

theorem defaultSlot_move (s : State) (k : SlotIx) :
    s.core.SlotMove s.ctl.openProfile (s.counters.keys + 1) k (defaultSlot s k) := by
  unfold defaultSlot
  split
  · exact swapSlot_move s.core k _ _ _ _ _ _ (fun _ _ => ⟨Nat.le_refl _, Nat.lt_succ_self _⟩) (by simp)
  · exact swapSlot_move s.core k _ _ _ _ _ _ (by simp) (by simp)

/-- The default table goes in over a READY medium (R38, R136). -/
theorem installDefault_leads {s : State} (hready : s.media.state = .ready) : s.leads (installDefault s) := by
  have hspan : s.uSpan = s.media.capacity.map (fun x => min x Config.windowBase - Config.scratchSectors) := by
    simp [State.uSpan, State.cEff, Function.comp_def]
  refine .trans ?_ (requestCommit_leads ..)
  refine .of_move (.slots s.core s.ctl.openProfile (Vector.ofFn (defaultSlot s)) (s.counters.keys + 1)
    [⟨0, floor8 (s.uSpan.getD 0), .priv, true, some 0⟩] (Nat.le_add_right ..) (.inr (.inr (.inr ⟨hready, ?_⟩)))
    (fun k => ?_) (fun hlaw => slotsOk_of_swap (fun k => k == 0) hlaw ?_ (fun k => ?_)))
  · rw [hspan]
    rfl
  · simp only [Fin.getElem_fin, Vector.getElem_ofFn]
    exact defaultSlot_move s k
  · simp
  · by_cases h : k = 0
    · exact ⟨false, 1, none, s.counters.keys, by simp, by simp [defaultSlot, h, State.core]⟩
    · exact ⟨tableNames s.regions.table k, 0, none, 0, id, by simp [defaultSlot, beq_false_of_ne h, h, State.core]⟩

/-! ### Jobs and drains -/

theorem replaceKey_slot (k j : SlotIx) (s : State) : (replaceKey k s).cipher.slots[j] =
    if k = j then { s.cipher.slots[k] with key := some s.counters.keys, gen := nextGen s.cipher.slots[k].gen }
    else s.cipher.slots[j] := by
  simp [replaceKey, Vector.getElem_set, Fin.ext_iff]

/-- A key is replaced in a slot that the table names (R71). -/
theorem replaceKey_leads {k : SlotIx} {s : State} {e : Entry} (he : e ∈ s.regions.table) (hk : e.slot = some k) :
    s.leads (replaceKey k s) := by
  refine slots_leads (Nat.le_add_right ..) (fun j => ?_) rfl (fun hlaw => ⟨fun f hf j hj => ?_, fun j => ?_⟩)
  · rw [replaceKey_slot]
    split
    · next h =>
      subst h
      refine ⟨fun hp h => ⟨hp, h⟩, .inr rfl, fun n hn => .inr (.inl ?_)⟩
      obtain rfl : s.counters.keys = n := Option.some.inj hn
      exact ⟨Nat.le_refl _, Nat.lt_succ_self _⟩
    · exact .of_kept (fun hp h => ⟨hp, h⟩) rfl rfl
  · show (replaceKey k s).cipher.slots[j].key ≠ none
    rw [replaceKey_slot]
    split
    · simp
    · exact hlaw.1 f hf j hj
  · show (replaceKey k s).cipher.slots[j].ok s.ctl.openProfile
    rw [replaceKey_slot]
    split
    · have hkey : s.cipher.slots[k].key ≠ none := hlaw.1 e he k hk
      obtain ⟨hempty, hopened⟩ : s.cipher.slots[k].ok s.ctl.openProfile := hlaw.2 k
      exact ⟨iff_of_false (fun h => hkey (hempty.mp h)) (by simp),
        hopened.trans (and_congr_left (fun _ => iff_of_true hkey (by simp)))⟩
    · exact hlaw.2 j

theorem setUpSweep_leads (p : Pos) (e : Entry) (s : State) : s.leads (setUpSweep p e s) :=
  (requestCommit_leads ..).after rfl

theorem runHead_leads (j : Job) (s : State) : s.leads (runHead j s) := by
  unfold runHead
  split
  · exact .refl s
  · next e he =>
    split
    · next k _ hk =>
      exact ((requestCommit_leads ..).after (t := { replaceKey k s with erase.stage := .waitMap }) rfl).before
        (replaceKey_leads (List.mem_of_getElem? he) hk)
    · split
      · exact setUpSweep_leads j.pos e s
      · exact .refl s
    · exact .refl s

theorem dropHead_leads (rest : List Job) (s : State) : s.leads (dropHead rest s) := by
  have h := State.leads.trans (t := { s with erase.queue := rest, erase.stage := .idle, erase.sweep := none })
    (.of_core (s := s) rfl) (requestCommit_leads .sweep [] _)
  unfold dropHead
  dsimp only
  split
  · exact h
  · exact h.trans (.of_core rfl)

theorem runJobs_leads (l : List Job) (s : State) : s.leads (runJobs l s) := by
  induction l generalizing s with
  | nil => exact .refl s
  | cons j rest ih =>
    unfold runJobs
    split
    · split
      · exact (dropHead_leads rest s).trans (ih _)
      · exact runHead_leads j s
    · exact .refl s

theorem headCheck_leads (s : State) : s.leads (headCheck s) := runJobs_leads _ s

theorem startHead_leads (s : State) : s.leads (startHead s) := by
  unfold startHead
  split
  · exact .of_core rfl
  · exact (headCheck_leads _).after rfl

theorem headLeaves_leads (s : State) : s.leads (headLeaves s) := (dropHead_leads _ s).trans (headCheck_leads _)

theorem startTestRun_leads (s : State) : s.leads (startTestRun s) :=
  .of_move (.quiesce s.core s.regions.apply .none (by simp))

theorem drainCheck_leads (s : State) : s.leads (drainCheck s) := by
  rcases drainCheck_cases s with h | ⟨_, _, n, hn, _, h⟩ | ⟨_, _, _, h⟩ <;> rw [h]
  · exact .refl s
  · exact swapTables_leads hn
  · exact startTestRun_leads s

theorem notifyCounts_leads (s : State) : s.leads (notifyCounts s) := (drainCheck_leads s).trans (headCheck_leads _)

/-! ### Fragments and transactions -/

theorem endFrag_leads (id : Nat) (st : FragState) (s : State) : s.leads (endFrag id st s) := by
  unfold endFrag
  split
  · exact .refl s
  · next t g _ =>
    refine (notifyCounts_leads _).after ?_
    exact (lowerCounts_core ..).trans
      ((setTxn_core (by intro _; exact ⟨rfl, rfl⟩) ..).trans (setFrag_core (by intro _; rfl) ..))

theorem removeTxn_leads (id : Nat) (s : State) : s.leads (removeTxn id s) :=
  .of_move (.drop s.core s.core.queued _ _ (.refl _) (List.filter_sublist.map _)
    ((List.Sublist.flatMap List.filter_sublist Txn.frags).map _))

theorem completeTxn_leads (id : Nat) (s : State) : s.leads (completeTxn id s) := by
  unfold completeTxn
  split
  · exact .refl s
  · split
    · exact .refl s
    · split
      · exact removeTxn_leads id s
      · split
        · exact .refl s
        · exact (removeTxn_leads id s).trans (.of_core (endReply_core ..))

/-- A failure taken and the data discarded, then the fragment's end. -/
theorem endFrag_fail_leads (t : Txn) (id : Nat) (st : FrontStatus) (s : State) :
    s.leads (endFrag id .failed (setTxn t.id (fun t => (t.fail st).discardData) s)) :=
  (endFrag_leads ..).after (setTxn_core (keepsNames_fail_discard st) ..)

theorem readResult_leads (t : Txn) (g : Frag) (ok : Bool) (data : List Content) (s : State) :
    s.leads (readResult t g ok data s) := by
  unfold readResult
  split
  · exact endFrag_fail_leads t g.id .mediaError s
  · split
    · exact endFrag_leads ..
    · split
      · exact (endFrag_leads ..).after ((setFrag_core (by intro _; rfl) ..).trans rfl)
      · exact endFrag_fail_leads t g.id .locked s

theorem fragResult_leads (id : Nat) (ok : Bool) (data : List Content) (s : State) :
    s.leads (fragResult id ok data s) := by
  unfold fragResult
  split
  · exact .refl s
  · next t g _ =>
    refine .trans ?_ (completeTxn_leads t.id _)
    split
    · exact endFrag_leads ..
    · split
      · exact readResult_leads ..
      · split
        · exact endFrag_leads ..
        · exact (endFrag_leads ..).after (setTxn_core (keepsNames_fail .mediaError) ..)

theorem joinIssue_leads (id : Nat) (s : State) : s.leads (joinIssue id s) := by
  unfold joinIssue
  split
  · exact fragResult_leads ..
  · exact .of_core rfl

theorem joinIfPulled_leads (id : Nat) (s : State) : s.leads (joinIfPulled id s) := by
  unfold joinIfPulled
  split
  · exact .refl s
  · split
    · exact joinIssue_leads id s
    · exact .refl s

theorem failIssueQueue_leads (s : State) : s.leads (failIssueQueue s) :=
  (foldl_leads (fun _ _ => fragResult_leads ..) _ _).after (t := { s with filter.issueQ := [] }) rfl

theorem releaseHolds_leads (serial : Nat) (s : State) : s.leads (releaseHolds serial s) := by
  unfold releaseHolds
  dsimp only
  exact foldl_leads (fun _ _ => (joinIfPulled_leads ..).after (setFrag_core (by intro _; rfl) ..)) _ s

theorem endWaits_leads (picks : Txn → Bool) (s : State) : s.leads (endWaits picks s) := by
  unfold endWaits
  dsimp only
  exact foldl_leads (fun _ _ => (completeTxn_leads ..).after (setTxn_core (by intro _; exact ⟨rfl, rfl⟩) ..)) _ s

theorem faultWaits_leads (s : State) : s.leads (faultWaits s) := by
  unfold faultWaits
  dsimp only
  exact foldl_leads (fun _ _ => (completeTxn_leads ..).after (setTxn_core (keepsNames_fail _) ..)) _ s

/-! ### The sweep and the media test -/

theorem beginEnding_leads (r : SweepResult) (s : State) : s.leads (beginEnding r s) :=
  (requestCommit_leads ..).after rfl

theorem sweepDecide_leads (s : State) : s.leads (sweepDecide s) := by
  rcases sweepDecide_cases s with h | ⟨_, _, _, _, _, _, _, _, h⟩ <;> rw [h]
  · exact .refl s
  · exact beginEnding_leads .done s

theorem endSweep_leads (x : Sweep) (s : State) : s.leads (endSweep x s) :=
  (headLeaves_leads _).after rfl

theorem releaseChunkHolds_leads (s : State) : s.leads (releaseChunkHolds s) := by
  unfold releaseChunkHolds
  split
  · exact releaseHolds_leads ..
  · exact .refl s

theorem cancelNow_leads (s : State) : s.leads (cancelNow s) :=
  ((releaseChunkHolds_leads s).trans (.of_core rfl)).trans (beginEnding_leads .cancelled (dropChunk _))

theorem chunkOk_leads (x : Sweep) (s : State) : s.leads (chunkOk x s) := by
  unfold chunkOk
  dsimp only
  have hmove := (releaseChunkHolds_leads s).trans
    (.of_core (setSweep_core (fun x => { x with w := x.q, chunk := none, retry := 0 }) _))
  have hcheck : s.leads (if Config.checkpointStep ≤ x.q - x.c then
      requestCommit .sweep [] (setSweep (fun x => { x with w := x.q, chunk := none, retry := 0 }) (releaseChunkHolds s))
      else setSweep (fun x => { x with w := x.q, chunk := none, retry := 0 }) (releaseChunkHolds s)) := by
    split
    · exact hmove.trans (requestCommit_leads ..)
    · exact hmove
  split
  · exact hcheck
  · split
    · exact hcheck.trans (beginEnding_leads ..)
    · exact hcheck.trans (sweepDecide_leads _)

theorem chunkFail_leads (x : Sweep) (k : Chunk) (s : State) : s.leads (chunkFail x k s) := by
  unfold chunkFail
  split
  · exact (releaseChunkHolds_leads s).trans (.of_core rfl)
  · split
    · exact cancelNow_leads s
    · split
      · exact .of_core rfl
      · exact ((releaseChunkHolds_leads s).trans (.of_core rfl)).trans (beginEnding_leads _ (dropChunk _))

theorem chunkResult_leads (serial : Nat) (ok : Bool) (s : State) : s.leads (chunkResult serial ok s) := by
  unfold chunkResult
  split
  · exact releaseHolds_leads serial s
  · split
    · exact releaseHolds_leads serial s
    · split
      · exact releaseHolds_leads serial s
      · split
        · exact chunkOk_leads ..
        · exact chunkFail_leads ..

theorem addKeep_leads (r : Range) (s : State) : s.leads (addKeep r s) :=
  (sweepDecide_leads _).before ((requestCommit_leads ..).after rfl)

theorem detachSweep_leads (s : State) : s.leads (detachSweep s) := by
  unfold detachSweep
  split
  · exact .refl s
  · dsimp only
    split
    · exact (beginEnding_leads ..).after rfl
    · exact .of_core rfl

theorem sweepAtReady_leads (s : State) : s.leads (sweepAtReady s) := by
  unfold sweepAtReady
  split
  · split
    · next k _ =>
      split
      · exact ((releaseHolds_leads k.serial s).trans (.of_core rfl)).trans
          (sweepDecide_leads (setSweep (fun x => { x with retry := 0 }) (dropChunk _)))
      · exact .refl s
    · exact sweepDecide_leads s
  · exact .refl s

theorem releaseIdleHolds_leads (s : State) : s.leads (releaseIdleHolds s) := by
  unfold releaseIdleHolds
  split
  · split
    · exact .refl s
    · exact releaseHolds_leads ..
  · exact .refl s

theorem abortTest_leads (s : State) : s.leads (abortTest s) := by
  unfold abortTest
  split
  · refine .of_move (.quiesce s.core s.regions.apply (if s.filter.quiesce = .test then .none else s.filter.quiesce) ?_)
    intro h
    split at h
    · simp at h
    · exact .inr ⟨h, rfl⟩
  · exact .refl s

/-! ### The lock controller -/

theorem lockDrive_leads (s : State) : s.leads (lockDrive s) := by
  refine closeSlots_leads s _ ?_
  unfold lockDrive
  rw [setDrive_core, cancelEnrollAtLock_core]
  rfl

theorem lockTrigger_leads (s : State) : s.leads (lockTrigger s) := by
  rcases lockTrigger_cases s with ⟨_, h⟩ | ⟨_, h⟩ <;> rw [h]
  · exact lockDrive_leads s
  · exact .refl s

theorem startInactivity_core (s : State) : (startInactivity s).core = s.core := rfl

theorem openDrive_runs (p : ProfIx) (accept : Bool) (s : State) : s.runs (openDrive p accept s) := by
  unfold openDrive
  split
  · exact .refl s
  · dsimp only
    refine (openSlots_runs p s).trans (.of_core ?_)
    split <;> split <;> simp [startInactivity_core, State.core]

theorem enterFault_leads (c : FaultCause) (s : State) : s.leads (enterFault c s) := by
  unfold enterFault
  split
  · exact .refl s
  · dsimp only
    refine .trans (closeSlots_leads s _ ?_)
      ((((endApply_leads (endCollection _)).trans (abortTest_leads _)).trans (faultWaits_leads _)).trans
        (releaseIdleHolds_leads _))
    rw [endCollection_core, setDrive_core]
    rfl

theorem wipeSlot_ok {p : Option ProfIx} {y : KeySlot} (h : y.ok p) : (wipeSlot y).ok p := by
  unfold wipeSlot
  split
  · simp [KeySlot.ok]
  · exact h

theorem wipeTable_leads (s : State) : s.leads (wipeTable s) := by
  refine .trans ?_ (endApply_leads _)
  refine .of_move (.slots s.core s.ctl.openProfile (s.cipher.slots.map wipeSlot) s.counters.keys [] (Nat.le_refl _)
    (.inr (.inl ⟨rfl, by decide⟩)) (fun k => ?_) (fun hlaw => ⟨by simp, fun k => ?_⟩))
  · simp only [Fin.getElem_fin, Vector.getElem_map, wipeSlot]
    split
    · exact ⟨fun _ h => by simp at h, .inr rfl, fun _ h => by simp at h⟩
    · exact .of_kept (fun hp h => ⟨hp, h⟩) rfl rfl
  · simp only [Fin.getElem_fin, Vector.getElem_map]
    exact wipeSlot_ok (hlaw.2 k)

theorem clearErase_core (s : State) : (clearErase s).core = s.core := rfl

theorem startWipe_leads (s : State) : s.leads (startWipe s) := by
  unfold startWipe
  split
  · exact .refl s
  · dsimp only
    refine .trans ?_ (requestCommit_leads ..)
    refine .trans ?_ (.of_core ((endCollection_core _).trans (cancelEnrollAtWipe_core _)))
    refine .trans ?_ (.of_core (clearRegionCounts_core _))
    refine .trans ?_ ((wipeTable_leads _).trans (abortTest_leads _))
    refine .trans ?_ (.of_core ((clearErase_core _).trans (rebaseAdditions_core _)))
    refine .trans (closeSlots_leads s _ ?_) (releaseIdleHolds_leads _)
    rw [setDrive_core]
    rfl

theorem attempts_leads (s : State) (c : CredentialUnit) (h : c.n ≤ 255) : s.leads { s with cred := c } :=
  .of_move (.attempts s.core c.n h)

theorem wipeRequest_leads (k : Nat) (s : State) : s.leads (wipeRequest k s) := by
  unfold wipeRequest
  dsimp only
  split
  · exact (requestCommit_leads ..).after rfl
  · exact .trans (attempts_leads s { s.cred with n := 0 } (Nat.zero_le _)) ((requestCommit_leads ..).after rfl)
  · exact (requestCommit_leads ..).after rfl
  · exact (requestCommit_leads ..).after rfl

theorem wipeStepDone_leads (k : Nat) (s : State) : s.leads (wipeStepDone k s) := by
  unfold wipeStepDone
  split
  · exact .refl s
  · split
    · exact (wipeRequest_leads ..).after rfl
    · exact (endWaits_leads _ s).trans (wipeRequest_leads ..)
    · exact .of_core (setDrive_core ..)
    · exact wipeRequest_leads ..

end Sys2Proof.Machine
end

section
/-! SUPPORT. Validation (R30, R31): what the walk over the positions and the search over the slots report, against the
tables of reasons. -/

namespace Sys2Proof.Machine

open Sys2Proof

theorem Reason.code_injective {x y : Reason} (h : x.code = y.code) : x = y := by
  revert h
  cases x <;> cases y <;> simp [Reason.code]

/-- Of the reasons that fail, the one with the least code is one. -/
theorem Reason.least_unique {fails : Reason → Prop} {x y : Reason} (hx : fails x)
    (hxl : ∀ z : Reason, z.code < x.code → ¬ fails z) (hy : fails y) (hyl : ∀ z : Reason, z.code < y.code → ¬ fails z) :
    x = y := by
  apply Reason.code_injective
  have hle : ¬ x.code < y.code := fun h => hyl x h hx
  have hge : ¬ y.code < x.code := fun h => hxl y h hy
  bv_omega

/-- The reason found is the first one that fails; with none found, none fails. -/
def firstOf (fails : Reason → Prop) : Option Reason → Prop
  | none => ∀ x, ¬ fails x
  | some r => fails r ∧ ∀ x : Reason, x.code < r.code → ¬ fails x

/-- No reason with a code below a number fails. -/
def noneBelow (fails : Reason → Prop) (n : Nat) : Prop := ∀ x : Reason, x.code.toNat < n → ¬ fails x

theorem noneBelow_one (fails : Reason → Prop) : noneBelow fails 1 := by
  intro x hx
  cases x <;> simp [Reason.code] at hx

/-- One test of an ordered list of reasons. -/
theorem firstOf_ite {fails : Reason → Prop} {c : Prop} [Decidable c] {r : Reason} {n : Nat} {rest : Option Reason}
    (hlow : noneBelow fails n) (hn : r.code.toNat = n) (hc : c ↔ fails r)
    (hrest : noneBelow fails (n + 1) → firstOf fails rest) : firstOf fails (if c then some r else rest) := by
  split
  · next h => exact ⟨hc.mp h, fun x hx => hlow x (by bv_omega)⟩
  · next h =>
    refine hrest (fun x hx hf => ?_)
    rcases Nat.lt_succ_iff_lt_or_eq.mp hx with hlt | heq
    · exact hlow x hlt hf
    · rw [Reason.code_injective (BitVec.eq_of_toNat_eq (heq.trans hn.symm))] at hf
      exact h (hc.mpr hf)

/-! ### The walk over the positions (R30) -/

/-- What the walk carries on reaching a position: the previous entry, and whether a position below is absent. -/
structure State.Walked (s : State) (p : Nat) (prev : Option Entry) (gap : Bool) : Prop where
  prev : ∀ f, prev = some f ↔ ∃ q : Pos, q.val < p ∧ s.regions.pending[q] = some f ∧
    ∀ r : Pos, q < r → r.val < p → s.regions.pending[r] = none
  gap  : gap = true ↔ ∃ q : Pos, q.val < p ∧ s.regions.pending[q] = none

theorem State.walked_zero (s : State) : s.Walked 0 none false := ⟨by simp, by simp⟩

theorem State.Walked.absent {s : State} {prev : Option Entry} {gap : Bool} {p : Pos} (h : s.Walked p.val prev gap)
    (hp : s.regions.pending[p] = none) : s.Walked (p.val + 1) prev true := by
  refine ⟨fun f => (h.prev f).trans ⟨?_, ?_⟩, by simpa using ⟨p, le_refl _, hp⟩⟩
  · rintro ⟨q, hq, hf, hr⟩
    refine ⟨q, by omega, hf, fun r hqr hrp => ?_⟩
    rcases Nat.lt_succ_iff_lt_or_eq.mp hrp with hlt | heq
    · exact hr r hqr hlt
    · rwa [Fin.ext heq]
  · rintro ⟨q, hq, hf, hr⟩
    rcases Nat.lt_succ_iff_lt_or_eq.mp hq with hlt | heq
    · exact ⟨q, hlt, hf, fun r hqr hrp => hr r hqr (by omega)⟩
    · rw [Fin.ext heq, hp] at hf
      simp at hf

theorem State.Walked.present {s : State} {prev : Option Entry} {gap : Bool} {p : Pos} {e : Entry}
    (h : s.Walked p.val prev gap) (hp : s.regions.pending[p] = some e) : s.Walked (p.val + 1) (some e) gap := by
  refine ⟨fun f => ⟨?_, ?_⟩, h.gap.trans ⟨?_, ?_⟩⟩
  · rintro ⟨rfl⟩
    exact ⟨p, Nat.lt_succ_self _, hp, fun r hpr hrp => by simp only [Fin.lt_def] at hpr; omega⟩
  · rintro ⟨q, hq, hf, hr⟩
    rcases Nat.lt_succ_iff_lt_or_eq.mp hq with hlt | heq
    · have := hr p hlt (Nat.lt_succ_self _)
      simp [hp] at this
    · rw [Fin.ext heq, hp] at hf
      exact hf
  · rintro ⟨q, hq, hn⟩
    exact ⟨q, by omega, hn⟩
  · rintro ⟨q, hq, hn⟩
    rcases Nat.lt_succ_iff_lt_or_eq.mp hq with hlt | heq
    · exact ⟨q, hlt, hn⟩
    · rw [Fin.ext heq, hp] at hn
      simp at hn

theorem entryReason_first {s : State} {prev : Option Entry} {gap : Bool} {p : Pos} (h : s.Walked p.val prev gap)
    (e : Entry) : firstOf (s.positionFails p e) (entryReason s.uSpan prev gap e) := by
  have horder : (prev.any (fun x => decide (e.base ≤ x.base)) = true) ↔ s.positionFails p e .order := by
    rw [Option.any_eq_true]
    exact exists_congr (fun f => and_congr (h.prev f) decide_eq_true_iff)
  have hoverlap : (prev.any (fun x => decide (e.base < x.stop)) = true) ↔ s.positionFails p e .overlap := by
    rw [Option.any_eq_true]
    exact exists_congr (fun f => and_congr (h.prev f) decide_eq_true_iff)
  unfold entryReason
  refine firstOf_ite (noneBelow_one _) rfl horder (fun h1 => ?_)
  refine firstOf_ite h1 rfl h.gap (fun h2 => ?_)
  refine firstOf_ite h2 rfl hoverlap (fun h3 => ?_)
  refine firstOf_ite h3 rfl Iff.rfl (fun h4 => ?_)
  refine firstOf_ite h4 rfl Iff.rfl (fun h5 => ?_)
  refine firstOf_ite h5 rfl ?_ (fun h6 => ?_)
  · cases hu : s.uSpan with
    | none => simp [State.positionFails, hu]
    | some u =>
      have hfails : s.positionFails p e .beyondSpan ↔ u < e.stop := by simp [State.positionFails, hu, Entry.stop]
      exact decide_eq_true_iff.trans hfails.symm
  refine firstOf_ite h6 rfl Iff.rfl (fun h7 => ?_)
  refine firstOf_ite h7 rfl Iff.rfl (fun h8 => ?_)
  intro x
  cases x with
  | badMask | keyClosed => exact id
  | _ => exact h8 _ (by decide)

/-- What the walk from a position on finds (R30). -/
def State.walkFinds (s : State) (p : Nat) : Option (Reason × Nat) → Prop
  | none => ∀ (q : Pos) (f : Entry), p ≤ q.val → s.regions.pending[q] = some f → firstOf (s.positionFails q f) none
  | some (r, n) => ∃ (q : Pos) (e : Entry), q.val = n ∧ s.regions.pending[q] = some e ∧ firstOf (s.positionFails q e)
        (some r) ∧
      ∀ (q' : Pos) (f : Entry), p ≤ q'.val → q' < q → s.regions.pending[q'] = some f → firstOf (s.positionFails q' f)
          none

theorem walkPositions_finds {s : State} {prev : Option Entry} {gap : Bool} {p : Nat} (h : s.Walked p prev gap) :
    s.walkFinds p (walkPositions s.uSpan prev gap p (s.regions.pending.toList.drop p)) := by
  induction hl : s.regions.pending.toList.drop p generalizing p prev gap with
  | nil =>
    intro q f hq
    have : s.regions.pending.toList.length ≤ p := List.drop_eq_nil_iff.mp hl
    have := q.isLt
    simp at *
    omega
  | cons o rest ih =>
    have hlt : p < 16 := by
      by_contra hge
      rw [List.drop_eq_nil_of_le (by simpa using hge)] at hl
      simp at hl
    obtain ⟨ho, hrest⟩ : s.regions.pending[p] = o ∧ s.regions.pending.toList.drop (p + 1) = rest := by
      rw [List.drop_eq_getElem_cons (by simpa using hlt)] at hl
      simpa using hl
    -- a position from `p` on is `p` itself or lies from `p + 1` on
    have hfrom (q : Pos) (hq : p ≤ q.val) : q = ⟨p, hlt⟩ ∨ p + 1 ≤ q.val := by
      rcases Nat.eq_or_lt_of_le hq with heq | hgt
      · exact .inl (Fin.ext heq.symm)
      · exact .inr hgt
    have hextend {found : Option (Reason × Nat)} (hfound : s.walkFinds (p + 1) found)
        (hp : ∀ f, s.regions.pending[p] = some f → firstOf (s.positionFails ⟨p, hlt⟩ f) none) : s.walkFinds p found := by
      match found, hfound with
      | none, hfound =>
        intro q f hq hf
        rcases hfrom q hq with rfl | hq
        · exact hp f hf
        · exact hfound q f hq hf
      | some (r, n), ⟨q, e, hn, he, hr, hbelow⟩ =>
        refine ⟨q, e, hn, he, hr, fun q' f hq' hlt' hf => ?_⟩
        rcases hfrom q' hq' with rfl | hq'
        · exact hp f hf
        · exact hbelow q' f hq' hlt' hf
    cases o with
    | none =>
      exact hextend (ih (h.absent (p := ⟨p, hlt⟩) ho) hrest) (fun f hf => by simp [ho] at hf)
    | some e =>
      have hfirst := entryReason_first (p := ⟨p, hlt⟩) h e
      unfold walkPositions
      cases hr : entryReason s.uSpan prev gap e with
      | none =>
        rw [hr] at hfirst
        refine hextend (ih (h.present (p := ⟨p, hlt⟩) ho) hrest) (fun f hf => ?_)
        obtain rfl : e = f := by simpa [ho] using hf
        exact hfirst
      | some r =>
        rw [hr] at hfirst
        refine ⟨⟨p, hlt⟩, e, rfl, ho, hfirst, fun q' f hq' hlt' => ?_⟩
        simp only [Fin.lt_def] at hlt'
        omega

/-- The walk over all positions. -/
theorem walkPositions_all (s : State) :
    s.walkFinds 0 (walkPositions s.uSpan none false 0 s.regions.pending.toList) := by
  simpa using walkPositions_finds s.walked_zero

/-- Positions that the walk passes make a table that obeys R22. -/
theorem tableLaw_of_walkPositions {u : Option Nat} {l : List (Option Entry)} :
    ∀ {prev : Option Entry} {gap : Bool} {p : Nat}, walkPositions u prev gap p l = none →
      tableLaw ((prev.map Entry.stop).getD 0) (l.filterMap id) = true := by
  induction l with
  | nil => exact fun _ => rfl
  | cons o rest ih =>
    intro prev gap p h
    cases o with
    | none => exact ih h
    | some e =>
      unfold walkPositions at h
      split at h
      · simp at h
      · next hr =>
        have hrest := ih h
        have hbase : (prev.map Entry.stop).getD 0 ≤ e.base ∧ e.base % 8 = 0 ∧ e.length % 8 = 0 ∧
            Config.minRegion ≤ e.length := by
          unfold entryReason at hr
          (repeat' split at hr) <;> simp_all
          cases prev <;> simp_all
        obtain ⟨hb, hb8, hl8, hlen⟩ := hbase
        simpa [tableLaw, hb, hb8, hl8, hlen] using hrest

/-! ### The search over the slots (R31) -/

theorem positionsName_iff (t : Vector (Option Entry) 16) (k : SlotIx) :
    positionsName t k = true ↔ ∃ (p : Pos) (e : Entry), t[p] = some e ∧ e.slot = some k := by
  unfold positionsName
  rw [List.any_eq_true]
  constructor
  · rintro ⟨o, ho, hk⟩
    obtain ⟨i, hi, rfl⟩ := List.getElem_of_mem ho
    split at hk
    · next e he =>
      exact ⟨⟨i, by simpa using hi⟩, e, by simpa using he, by simpa using hk⟩
    · simp at hk
  · rintro ⟨p, e, he, hk⟩
    refine ⟨some e, ?_, by simpa using hk⟩
    rw [← he]
    exact List.mem_of_getElem (i := p.val) (h := by simp) (by simp)

theorem tableNames_iff (t : List Entry) (k : SlotIx) : tableNames t k = true ↔ ∃ e ∈ t, e.slot = some k := by
  simp [tableNames, List.any_eq_true]

/-- The lowest present position that names a slot. -/
theorem lowestNaming_eq {t : Vector (Option Entry) 16} {k : SlotIx} {p : Pos} {e : Entry} (he : t[p] = some e)
    (hk : e.slot = some k) (hlow : ∀ (q : Pos) (f : Entry), q < p → t[q] = some f → f.slot ≠ some k) :
    lowestNaming t k = p.val := by
  unfold lowestNaming
  rw [List.findIdx_eq (by simp)]
  constructor
  · have : t[p.val] = some e := he
    simp [this, hk]
  · intro j hj
    have hj16 : j < 16 := hj.trans p.isLt
    rw [Vector.getElem_toList]
    split
    · next f hf => simpa using hlow ⟨j, hj16⟩ f hj hf
    · rfl

theorem namesEmptyProfile_iff (profiles : Vector (Option Profile) 8) (m : Byte) :
    namesEmptyProfile profiles m = true ↔ ∃ r : ProfIx, m.getLsbD r.val = true ∧ profiles[r] = none := by
  simp [namesEmptyProfile, List.any_eq_true, maskHas]

theorem slotReason_first (s : State) (k : SlotIx) : firstOf (s.slotFails k) (slotReason s k) := by
  have hmask : (s.regions.masks[k] = 0 ∨ namesEmptyProfile s.cred.profiles s.regions.masks[k] = true) ↔
      s.slotFails k .badMask := by
    rw [namesEmptyProfile_iff]
    rfl
  have hclosed : (tableNames s.regions.table k = true ∧ s.regions.masks[k] ≠ s.cipher.slots[k].mask ∧
      s.cipher.slots[k].state ≠ .opened) ↔ s.slotFails k .keyClosed := by
    rw [tableNames_iff]
    rfl
  have hlow : noneBelow (s.slotFails k) 9 := by
    intro x hx
    cases x with
    | badMask | keyClosed => exact absurd hx (by decide)
    | _ => exact id
  unfold slotReason
  refine firstOf_ite hlow rfl hmask (fun h9 => ?_)
  refine firstOf_ite h9 rfl hclosed (fun h10 x => ?_)
  exact h10 x (by cases x <;> decide)

/-- With a failing position, validation reports the first one with its first reason. -/
theorem validate_of_position {s : State} {p : Pos} {e : Entry} {r : Reason} (he : s.regions.pending[p] = some e)
    (hr : s.positionFails p e r) (hleast : ∀ x : Reason, x.code < r.code → ¬ s.positionFails p e x)
    (hbelow : ∀ (q : Pos) (f : Entry) (x : Reason), q < p → s.regions.pending[q] = some f → ¬ s.positionFails q f x) :
    validate s = some (r, p.val) := by
  have hwalk := walkPositions_all s
  unfold validate
  cases hw : walkPositions s.uSpan none false 0 s.regions.pending.toList with
  | none =>
    rw [hw] at hwalk
    exact absurd hr (hwalk p e (Nat.zero_le _) he r)
  | some found =>
    obtain ⟨r', n⟩ := found
    rw [hw] at hwalk
    obtain ⟨q, f, rfl, hf, ⟨hq, hqleast⟩, hqbelow⟩ := hwalk
    obtain rfl : q = p := by
      rcases lt_trichotomy q p with h | h | h
      · exact absurd hq (hbelow q f r' h hf)
      · exact h
      · exact absurd hr (hqbelow p e (Nat.zero_le _) h he r)
    obtain rfl : e = f := Option.some.inj (he.symm.trans hf)
    rw [Reason.least_unique hr hleast hq hqleast]

theorem walkPositions_of_pass {s : State} (h : s.positionsPass) :
    walkPositions s.uSpan none false 0 s.regions.pending.toList = none := by
  have hwalk := walkPositions_all s
  cases hw : walkPositions s.uSpan none false 0 s.regions.pending.toList with
  | none => rfl
  | some found =>
    rw [hw] at hwalk
    obtain ⟨q, f, _, hf, ⟨hq, _⟩, _⟩ := hwalk
    exact absurd hq (h q f _ hf)

/-- What the search over the slots finds. -/
theorem findSome_finRange {α : Type} {n : Nat} {f : Fin n → Option α} {k : Fin n} {a : α} (hk : f k = some a)
    (hbelow : ∀ j, j < k → f j = none) : (List.finRange n).findSome? f = some a := by
  rw [List.findSome?_eq_some_iff]
  refine ⟨(List.finRange n).take k.val, k, (List.finRange n).drop (k.val + 1), ?_, hk, ?_⟩
  · conv_lhs => rw [← List.take_append_drop k.val (List.finRange n)]
    rw [List.drop_eq_getElem_cons (by simp)]
    simp
  · intro j hj
    obtain ⟨i, hi, rfl⟩ := List.getElem_of_mem hj
    refine hbelow _ ?_
    simp only [List.length_take, List.length_finRange] at hi
    simp only [List.getElem_take, List.getElem_finRange, Fin.lt_def, Fin.val_cast]
    omega

/-- With every position passing and a failing slot, validation reports the first one at the lowest position. -/
theorem validate_of_slot {s : State} {k : SlotIx} {p : Pos} {e : Entry} {r : Reason} (hpass : s.positionsPass)
    (he : s.regions.pending[p] = some e) (hk : e.slot = some k)
    (hlow : ∀ (q : Pos) (f : Entry), q < p → s.regions.pending[q] = some f → f.slot ≠ some k) (hr : s.slotFails k r)
    (hleast : ∀ x : Reason, x.code < r.code → ¬ s.slotFails k x)
    (hbelow : ∀ (j : SlotIx) (q : Pos) (f : Entry) (x : Reason), j < k → s.regions.pending[q] = some f →
      f.slot = some j → ¬ s.slotFails j x) : validate s = some (r, p.val) := by
  unfold validate
  rw [walkPositions_of_pass hpass]
  refine findSome_finRange (k := k) ?_ (fun j hj => ?_)
  · rw [if_pos ((positionsName_iff _ k).mpr ⟨p, e, he, hk⟩), lowestNaming_eq he hk hlow]
    have hfirst := slotReason_first s k
    cases hs : slotReason s k with
    | none =>
      rw [hs] at hfirst
      exact absurd hr (hfirst r)
    | some r' =>
      rw [hs] at hfirst
      obtain rfl := Reason.least_unique hr hleast hfirst.1 hfirst.2
      rfl
  · split
    · next hname =>
      obtain ⟨q, f, hf, hfj⟩ := (positionsName_iff _ j).mp hname
      have hfirst := slotReason_first s j
      cases hs : slotReason s j with
      | none => rfl
      | some r' =>
        rw [hs] at hfirst
        exact absurd hfirst.1 (hbelow j q f r' hj hf hfj)
    · rfl

theorem validate_of_pass {s : State} (hpass : s.positionsPass)
    (hslots : ∀ (k : SlotIx) (q : Pos) (f : Entry) (x : Reason), s.regions.pending[q] = some f → f.slot = some k →
      ¬ s.slotFails k x) : validate s = none := by
  unfold validate
  rw [walkPositions_of_pass hpass]
  refine List.findSome?_eq_none_iff.mpr (fun k _ => ?_)
  split
  · next hname =>
    obtain ⟨q, f, hf, hk⟩ := (positionsName_iff _ k).mp hname
    have hfirst := slotReason_first s k
    cases hs : slotReason s k with
    | none => rfl
    | some r =>
      rw [hs] at hfirst
      exact absurd hfirst.1 (hslots k q f r hf hk)
  · rfl

/-- A table that validation passes passes R30 at every position and R31 for every slot named. -/
theorem pass_of_validate {s : State} (h : validate s = none) : s.positionsPass ∧
    ∀ (k : SlotIx) (q : Pos) (f : Entry) (x : Reason), s.regions.pending[q] = some f → f.slot = some k →
      ¬ s.slotFails k x := by
  have hwalk := walkPositions_all s
  unfold validate at h
  split at h
  · simp at h
  · next hw =>
    rw [hw] at hwalk
    refine ⟨fun p e r he => hwalk p e (Nat.zero_le _) he r, fun k q f x hf hk => ?_⟩
    have hnone := List.findSome?_eq_none_iff.mp h k (List.mem_finRange k)
    rw [if_pos ((positionsName_iff _ k).mpr ⟨q, f, hf, hk⟩)] at hnone
    have hfirst := slotReason_first s k
    rw [Option.map_eq_none_iff.mp hnone] at hfirst
    exact hfirst x

/-- A table that validation passes obeys R22. -/
theorem tableLaw_of_validate {s : State} (h : validate s = none) :
    tableLaw 0 (s.regions.pending.toList.filterMap id) = true := by
  have := tableLaw_of_walkPositions (walkPositions_of_pass (pass_of_validate h).1)
  simpa using this

/-- Positions that pass R30 stand first. -/
theorem pending_present_of_pass {s : State} (h : s.positionsPass) {p q : Pos} (hpq : p < q)
    (hq : s.regions.pending[q] ≠ none) : s.regions.pending[p] ≠ none := by
  obtain ⟨e, he⟩ := Option.ne_none_iff_exists'.mp hq
  exact fun hp => h q e .gapPosition he ⟨p, hpq, hp⟩

/-- Positions that pass R30 stand in base order, without overlap. -/
theorem pending_ordered_of_pass {s : State} (h : s.positionsPass) {p : Pos} {e : Entry}
    (he : s.regions.pending[p] = some e) : ∀ {q : Pos} {f : Entry}, p < q → s.regions.pending[q] = some f →
      e.base < f.base ∧ e.base + e.length ≤ f.base := by
  intro q
  induction q using Fin.induction with
  | zero => exact fun hpq => absurd hpq (Fin.not_lt_zero p)
  | succ o ih =>
    intro f hpq hf
    have hoq : o.castSucc < o.succ := Fin.castSucc_lt_succ
    obtain ⟨g, hg⟩ := Option.ne_none_iff_exists'.mp (pending_present_of_pass h hoq (by simp [hf]))
    have hprev : s.previous o.succ g :=
      ⟨o.castSucc, hoq, hg, fun r hor hrq => by simp only [Fin.lt_def, Fin.val_castSucc, Fin.val_succ] at hor hrq; omega⟩
    have hbase : g.base < f.base := by
      by_contra hle
      exact h o.succ f .order hf ⟨g, hprev, by omega⟩
    have hstop : g.base + g.length ≤ f.base := by
      by_contra hlt
      exact h o.succ f .overlap hf ⟨g, hprev, by omega⟩
    rcases Nat.lt_succ_iff_lt_or_eq.mp hpq with hlt | heq
    · obtain ⟨h1, h2⟩ := ih hlt hg
      exact ⟨by omega, by omega⟩
    · obtain rfl : p = o.castSucc := Fin.ext heq
      obtain rfl : e = g := Option.some.inj (he.symm.trans hg)
      exact ⟨hbase, hstop⟩

end Sys2Proof.Machine

namespace Sys2Proof.Proofs

open Sys2Proof Sys2Proof.Machine

/-- Settles O10: the walk and the search report the first failing reason, and so a table in which they find none fails
none; the laws follow from the reasons. -/
theorem validationGivesTheLaws : Obligations.ValidationGivesTheLaws := by
  unfold Obligations.ValidationGivesTheLaws
  refine ⟨fun s h => ?_, fun s p e r => validate_of_position, fun s k p e r => validate_of_slot,
    fun s => validate_of_pass⟩
  obtain ⟨hpass, hslots⟩ := pass_of_validate h
  refine ⟨fun p q => pending_present_of_pass hpass, fun p q e f hpq he hf => pending_ordered_of_pass hpass he hpq hf,
    fun p e he => ?_, fun p e k he hk => ?_⟩
  · have hfails (r : Reason) := hpass p e r he
    have halign := hfails .align
    have hshort := hfails .short
    have hspan := hfails .beyondSpan
    have hpub := hfails .publicWritable
    simp only [State.positionFails, not_or, not_not, not_lt, not_forall] at halign hshort hspan
    obtain ⟨u, hu, hle⟩ := hspan
    exact ⟨halign.1, halign.2, hshort, ⟨u, hu, hle⟩, fun hc => by simpa [State.positionFails, hc] using hpub,
      fun hc hs => hfails .badSlot ⟨hc, hs⟩⟩
  · have hmask := hslots k p e .badMask he hk
    simp only [State.slotFails, not_or, not_exists, not_and] at hmask
    exact hmask

end Sys2Proof.Proofs
end

section
/-! SUPPORT. Every command but the loss and the return of power is made of moves of the core: requests, arrivals,
admission, the links, the store, start-up's end, keys and timers. -/

namespace Sys2Proof.Machine

open Sys2Proof

theorem standbyCheck_leads (s : State) : s.leads (standbyCheck s) := by
  rcases standbyCheck_cases s with h | ⟨hdue, h⟩ <;> rw [h]
  · exact .refl s
  · refine .of_move (.mode s.core .standby (fun _ => ?_))
    simp only [State.standbyDue, Bool.and_eq_true, beq_iff_eq] at hdue
    exact hdue.1.1.1.2

/-! ### Requests (chapter 9) -/

theorem takeLock_leads (s : State) : s.leads (takeLock s).2.2 := by
  unfold takeLock
  split
  · exact .refl s
  · exact (standbyCheck_leads _).after (setDrive_core ..)
  · exact (standbyCheck_leads _).before (lockTrigger_leads s)

theorem takeReadTable_leads (s : State) : s.leads (takeReadTable s).2.2 := by
  unfold takeReadTable
  split <;> exact .refl s

theorem takeStageRegion_leads (position present cls writable slot : Byte) (base length : BitVec 32) (s : State) :
    s.leads (takeStageRegion position present cls writable slot base length s).2.2 := by
  unfold takeStageRegion
  (repeat' split) <;> exact .of_core rfl

theorem takeSetSlotMask_leads (slot mask : Byte) (s : State) : s.leads (takeSetSlotMask slot mask s).2.2 := by
  unfold takeSetSlotMask
  (repeat' split) <;> exact .of_core rfl

theorem takeClearPending_leads (s : State) : s.leads (takeClearPending s).2.2 := by
  unfold takeClearPending
  split <;> exact .of_core rfl

/-- A snapshot taken of a table that passes validation: its entries obey R22, its copies stand in the slots (R32). -/
theorem takeSnapshot_from {s : State} (h : validate s = none) : s.core.snapshotFrom (takeSnapshot s) := by
  refine ⟨.inl (tableLaw_of_validate h), fun k n hn => .inl ?_⟩
  simp only [takeSnapshot, Fin.getElem_fin, Vector.getElem_ofFn] at hn
  split at hn
  · exact hn
  · simp at hn

theorem takeApplyTable_leads (s : State) : s.leads (takeApplyTable s).2.2 := by
  unfold takeApplyTable
  split
  · exact .refl s
  · split
    · exact .refl s
    · split
      · exact .refl s
      · split
        · exact .refl s
        · split
          · exact .refl s
          · next hvalid =>
            split
            · exact .refl s
            · refine (drainCheck_leads _).before ?_
              refine (Relation.ReflTransGen.single (.snapshot s.core (some (takeSnapshot s)) ?_)).tail
                (.quiesce _ .draining .apply (fun _ => .inl rfl))
              rintro x ⟨rfl⟩
              exact takeSnapshot_from hvalid

theorem acceptErase_leads (p : Pos) (e : Entry) (m : EraseMode) (s : State) : s.leads (acceptErase p e m s).2.2 := by
  unfold acceptErase
  split
  · exact .refl s
  · split
    · exact .refl s
    · split
      · exact .refl s
      · split
        · exact .refl s
        · dsimp only [answer]
          split
          · exact (startHead_leads _).before ((requestCommit_leads ..).after rfl)
          · exact (requestCommit_leads ..).after rfl

theorem takeEraseRegion_leads (position mode : Byte) (s : State) : s.leads (takeEraseRegion position mode s).2.2 := by
  unfold takeEraseRegion
  split
  · exact .refl s
  · split
    · split
      · split
        · exact .refl s
        · exact acceptErase_leads ..
      · exact .refl s
    · exact .refl s

theorem takeCancelSweep_leads (s : State) : s.leads (takeCancelSweep s).2.2 := by
  unfold takeCancelSweep
  split
  · exact .refl s
  · split
    · exact .refl s
    · split
      · exact .refl s
      · split
        · exact .of_core rfl
        · exact cancelNow_leads s

theorem takeEnroll_leads (slot kind : Byte) (s : State) : s.leads (takeEnroll slot kind s).2.2 := by
  unfold takeEnroll
  split_ifs
  · exact .refl s
  · exact .refl s
  · split
    · split_ifs
      · exact .refl s
      · exact .refl s
      · exact .refl s
      · exact .of_core (startEnroll_core ..)
    · exact .refl s

theorem takeRemoveProfile_leads (slot : Byte) (s : State) : s.leads (takeRemoveProfile slot s).2.2 := by
  unfold takeRemoveProfile
  split_ifs
  · exact .refl s
  · exact .refl s
  · split
    · exact .refl s
    · split_ifs
      · exact .refl s
      · exact .refl s
      · exact (requestCommit_leads ..).after rfl

theorem takeSetOptions_leads (o : RawOptions) (s : State) : s.leads (takeSetOptions o s).2.2 := by
  unfold takeSetOptions
  split
  · exact .refl s
  · exact (requestCommit_leads ..).after rfl

theorem takeSelfTestCipher_leads (k : RunKind) (s : State) : s.leads (takeSelfTestCipher k s).2.2 := by
  unfold takeSelfTestCipher
  (repeat' split) <;> exact .of_core rfl

theorem takeSelfTestMedia_leads (passes : Byte) (s : State) : s.leads (takeSelfTestMedia passes s).2.2 := by
  unfold takeSelfTestMedia
  split
  · exact .refl s
  · split
    · exact .refl s
    · split
      · exact .refl s
      · split
        · exact .refl s
        · exact (drainCheck_leads _).before (.of_move (.quiesce s.core s.regions.apply .test (by simp)))

theorem takeWipeAll_leads (s : State) : s.leads (takeWipeAll s).2.2 := by
  unfold takeWipeAll
  split
  · exact startWipe_leads s
  · exact .refl s

/-! ### Front link (chapter 1) -/

theorem faultGate_leads {take : State → Taken} (h : ∀ s : State, s.leads (take s).2.2) (s : State) :
    s.leads (faultGate take s).2.2 := by
  unfold faultGate
  split
  · exact .refl s
  · exact h s

theorem respond_leads {take : State → Taken} (h : ∀ s : State, s.leads (take s).2.2) (tag : Tag) (seq code : Byte)
    (s : State) : s.leads (respond tag seq code take s) :=
  (h s).trans (.of_core rfl)

theorem windowRequest_leads {take : State → Taken} (h : ∀ s : State, s.leads (take s).2.2) (tag : Tag) (seq code : Byte)
    (s : State) : s.leads (windowRequest tag seq code take s) := by
  unfold windowRequest
  split
  · exact .refl s
  · dsimp only
    split
    · exact .of_core (reportArrival_core s)
    · exact (respond_leads h ..).after (reportArrival_core s)

theorem enqueueRequest_leads (k : Kind) (tag : Tag) (start count : Nat) (s : State) :
    s.leads (enqueueRequest k tag start count s) := by
  refine .of_move ?_
  have h := Core.Move.arrive s.core
  simp only [State.core, enqueueRequest, List.map_append, List.map_cons, List.map_nil] at h ⊢
  exact h

theorem attachTaken_core (s : State) : (attachTaken s).core = { s.core with
    link := .attached, source := .link, attached := true
    mode := if s.power.mode = .standby then .settling else s.power.mode } := by
  unfold attachTaken
  dsimp only
  rw [selectBackground_core]
  split <;> split <;> simp_all [State.core]

theorem attachTaken_leads (s : State) : s.leads (attachTaken s) := by
  refine .of_move ?_
  rw [attachTaken_core]
  refine .links s.core _ _ _ _ (by simp) (by simp) (fun h => ?_)
  split at h <;> simp_all

theorem forgetIssued_wf (t : Txn) {l : List (Nat × Content)} (h : flashWf l = true) :
    flashWf (forgetIssued t l) = true := by
  unfold forgetIssued
  split
  · induction t.frags.filter (fun g => g.state == .issued) generalizing l with
    | nil => exact h
    | cons g gs ih => exact ih (flashForget_wf g.range h)
  · exact h

theorem forgetBusy_wf (tags : Vector MediaTag 16) {l : List (Nat × Content)} (h : flashWf l = true) :
    flashWf (forgetBusy tags l) = true := by
  unfold forgetBusy
  induction tags.toList generalizing l with
  | nil => exact h
  | cons x xs ih =>
    refine ih ?_
    dsimp only
    split
    · split
      · exact flashForget_wf _ h
      · exact h
    · exact h

/-- What LINK_RESET keeps of a list of transactions has names of the list only, in their order. -/
theorem drop_names (l : List Txn) : ((l.filterMap Txn.drop).map Txn.id).Sublist (l.map Txn.id) ∧
    (((l.filterMap Txn.drop).flatMap Txn.frags).map Frag.id).Sublist ((l.flatMap Txn.frags).map Frag.id) := by
  induction l with
  | nil => exact ⟨.slnil, .slnil⟩
  | cons t l ih =>
    obtain ⟨hids, hfrags⟩ := ih
    cases hd : t.drop with
    | none =>
      rw [List.filterMap_cons_none hd, List.flatMap_cons, List.map_append]
      exact ⟨hids.cons _, hfrags.trans (List.sublist_append_right ..)⟩
    | some u =>
      have hu : u.id = t.id ∧ u.frags = t.frags.filter (fun g => g.state == .issued) := by
        unfold Txn.drop at hd
        dsimp only at hd
        split at hd
        · simp at hd
        · obtain rfl := Option.some.inj hd
          exact ⟨rfl, rfl⟩
      rw [List.filterMap_cons_some hd, List.flatMap_cons, List.flatMap_cons, List.map_append, List.map_append,
        List.map_cons, List.map_cons, hu.1, hu.2]
      exact ⟨hids.cons_cons _, (List.filter_sublist.map _).append hfrags⟩

theorem foldl_lowerCounts_core (l : List Frag) (s : State) :
    (l.foldl (fun s g => lowerCounts g s) s).core = s.core :=
  foldl_keeps State.core _ (fun s g => lowerCounts_core g s) l s

theorem foldl_raiseCounts_core (l : List Frag) (s : State) :
    (l.foldl (fun s g => raiseCounts g s) s).core = s.core :=
  foldl_keeps State.core _ (fun s g => raiseCounts_core g s) l s

theorem dropFront_leads (s : State) : s.leads (dropFront s) := by
  obtain ⟨hids, hfrags⟩ := drop_names s.filter.txns
  let f := s.filter.txns.foldl (fun l x => forgetIssued x l) s.flash
  have hcore : (dropFront s).core = { s.core with
      queued := [], admitted := (s.filter.txns.filterMap Txn.drop).map Txn.id
      frags := ((s.filter.txns.filterMap Txn.drop).flatMap Txn.frags).map Frag.id, flash := f } := by
    have h := foldl_lowerCounts_core (waitingFrags s.filter.txns) s
    simp only [State.core, Core.mk.injEq] at h
    simp only [State.core, dropFront, h, List.map_nil, f]
  unfold State.leads
  rw [hcore]
  refine (Relation.ReflTransGen.single (.drop s.core [] _ _ (List.nil_sublist _) hids hfrags)).tail (.flash _ f ?_)
  intro h
  have key : ∀ (l : List Txn) (f : List (Nat × Content)), flashWf f = true →
      flashWf (l.foldl (fun l x => forgetIssued x l) f) = true := by
    intro l
    induction l with
    | nil => exact fun _ h => h
    | cons t l ih => exact fun f h => ih _ (forgetIssued_wf t h)
  exact key _ _ h

theorem dropAll_leads (s : State) : s.leads (dropAll s) :=
  (Relation.ReflTransGen.single (.drop s.core [] [] [] (List.nil_sublist _) (List.nil_sublist _)
    (List.nil_sublist _))).tail (.flash _ (forgetBusy s.media.tags s.flash) (fun h => forgetBusy_wf _ h))

theorem mediaDown_leads (s : State) : s.leads (mediaDown s) :=
  .of_move (.media s.core .notReady none (by simp) (by simp))

theorem detachTaken_leads (s : State) : s.leads (detachTaken s) := by
  unfold detachTaken
  dsimp only
  refine (standbyCheck_leads _).before (.trans ?_ (.of_core (selectBackground_core _)))
  refine (lockTrigger_leads _).before ?_
  refine .trans ((dropAll_leads s).trans ((mediaDown_leads _).trans ((notifyCounts_leads _).trans
    ((detachSweep_leads _).trans (abortTest_leads _))))) (.of_move ?_)
  exact .links _ .detached .battery false _ (by simp) (by simp) (fun _ => rfl)

theorem takeSector_leads (x : Sector) (s : State) : s.leads (takeSector x s).2.2 := by
  generalize htake : takeSector x = take
  unfold takeSector at htake
  split at htake
  case h_13 =>
    split at htake <;> subst htake
    · exact faultGate_leads (takeSelfTestCipher_leads _) s
    · exact faultGate_leads (takeSelfTestCipher_leads _) s
    · exact faultGate_leads (takeSelfTestMedia_leads _) s
    · exact faultGate_leads (fun s => .refl s) s
  all_goals subst htake
  · exact .refl s
  · exact faultGate_leads takeLock_leads s
  · exact faultGate_leads takeReadTable_leads s
  · exact faultGate_leads (takeStageRegion_leads _ _ _ _ _ _ _) s
  · exact faultGate_leads (takeSetSlotMask_leads _ _) s
  · exact faultGate_leads takeClearPending_leads s
  · exact faultGate_leads takeApplyTable_leads s
  · exact faultGate_leads (takeEraseRegion_leads _ _) s
  · exact faultGate_leads takeCancelSweep_leads s
  · exact faultGate_leads (takeEnroll_leads _ _) s
  · exact faultGate_leads (takeRemoveProfile_leads _) s
  · exact faultGate_leads (takeSetOptions_leads _) s
  · exact faultGate_leads takeWipeAll_leads s
  · exact .refl s

theorem arrivalChecks_leads (kind : Byte) (tag : Tag) (start count : Nat) (x : Sector) (s : State) :
    s.leads (arrivalChecks kind tag start count x s) := by
  unfold arrivalChecks
  split
  · exact .of_core rfl
  · split
    · exact .of_core rfl
    · split
      · split
        · exact .of_core rfl
        · split
          · unfold windowAccess windowSector
            split
            · split
              · exact respond_leads (takeSector_leads x) ..
              · exact .of_core rfl
            · split <;> exact .of_core rfl
          · exact enqueueRequest_leads ..
      · exact enqueueRequest_leads ..

/-! ### Admission (chapter 3) -/

theorem nameFrags_ids (n : Nat) (l : List Frag) : (nameFrags n l).map Frag.id = List.range' n l.length := by
  induction l generalizing n with
  | nil => rfl
  | cons g l ih => simp [nameFrags, ih, List.range'_succ]

theorem nameFrags_length (n : Nat) (l : List Frag) : (nameFrags n l).length = l.length := by
  induction l generalizing n with
  | nil => rfl
  | cons g l ih => simp [nameFrags, ih]

/-- The admission of the queue's head gives its fragments the next names (R51). -/
theorem admitWith_leads {s : State} {t : Txn} {rest : List Txn} (hq : s.filter.queue = t :: rest) (frags : List Frag)
    (recorded : Option Range) : s.leads (admitWith t frags recorded { s with filter.queue := rest }) := by
  unfold admitWith
  dsimp only
  refine (completeTxn_leads _ _).before ?_
  have hadmit (u : Txn) (hid : u.id = t.id) (hf : u.frags = nameFrags s.counters.ids frags) :
      s.leads { s with
        filter.queue := rest, filter.txns := s.filter.txns ++ [u]
        counters.ids := s.counters.ids + (nameFrags s.counters.ids frags).length } := by
    refine .of_move ?_
    have h := Core.Move.enter s.core t.id (rest.map Txn.id) frags.length (by simp [State.core, hq])
    simp only [State.core, List.map_append, List.flatMap_append, List.map_cons, List.map_nil, List.flatMap_cons,
      List.flatMap_nil, List.append_nil, hid, hf, nameFrags_ids, nameFrags_length] at h ⊢
    exact h
  have hraise := fun (u : Txn) hid hf => (hadmit u hid hf).trans (.of_core (foldl_raiseCounts_core
    ((nameFrags s.counters.ids frags).filter (fun g => g.state == .waiting)) _))
  split
  · split
    · exact (addKeep_leads _ _).before (hraise _ rfl rfl)
    · exact hraise _ rfl rfl
  · refine (foldl_leads (fun _ _ => joinIssue_leads ..) _ _).before ?_
    split
    · exact (addKeep_leads _ _).before (hraise _ rfl rfl)
    · exact hraise _ rfl rfl

/-- The head leaves the queue with a reply. -/
theorem popped_leads {s u : State} {t : Txn} {rest : List Txn} (hq : s.filter.queue = t :: rest)
    (hu : u.core = ({ s with filter.queue := rest } : State).core) : s.leads u := by
  refine .trans (t := { s with filter.queue := rest }) (.of_move ?_) (.of_core hu)
  refine .drop s.core (rest.map Txn.id) _ _ ?_ (.refl _) (.refl _)
  simp [State.core, hq]

theorem admitTxn_leads {s : State} {t : Txn} {rest : List Txn} (hq : s.filter.queue = t :: rest) :
    s.leads (admitTxn t { s with filter.queue := rest }) := by
  unfold admitTxn
  split
  · split <;> exact popped_leads hq (endReply_core ..)
  · split
    · exact popped_leads hq (endReply_core ..)
    · exact admitWith_leads hq ..
  · split
    · exact popped_leads hq (endReply_core ..)
    · dsimp only
      split
      · exact popped_leads hq (endReply_core ..)
      · exact admitWith_leads hq ..

theorem pullSector_leads (t : Txn) (x : Sector) (s : State) : s.leads (pullSector t x s) := by
  unfold pullSector
  split
  · exact .refl s
  · refine (joinIfPulled_leads ..).after ?_
    exact (setFrag_core (by intro _; rfl) ..).trans (setTxn_core (by intro _; exact ⟨rfl, rfl⟩) ..)

end Sys2Proof.Machine
end

section
/-! SUPPORT. Every command but the loss and the return of power is made of moves of the core, from the media link's
results to the step itself. -/

namespace Sys2Proof.Machine

open Sys2Proof

/-! ### Media link (chapter 1) -/

theorem issue_leads (tag : Tag) (req : Requester) (kind : Kind) (r : Range) (data : List Content) (s : State) :
    s.leads (issue tag req kind r data s) := by
  refine .of_move (.flash s.core (if kind = .discard then flashForget r s.flash else s.flash) (fun h => ?_))
  split
  · exact flashForget_wf r h
  · exact h

theorem issueSize_leads (s : State) : s.leads (issueSize s) := by
  unfold issueSize
  split
  · exact (issue_leads ..).after rfl
  · exact .of_core rfl

theorem serveSize_leads (s : State) : s.leads (serveSize s) := by
  unfold serveSize
  split
  · exact issueSize_leads s
  · exact .refl s

theorem imageResult_leads (c : Command) (ok : Bool) (s : State) : s.leads (imageResult c ok s) := by
  unfold imageResult
  split
  · refine .of_move (.flash s.core _ (fun h => ?_))
    split
    · exact flashWriteAll_wf _ _ h
    · exact flashForget_wf _ h
  · exact .refl s

theorem sizeResult_leads (ok : Bool) (span : Nat) (s : State) : s.leads (sizeResult ok span s) := by
  unfold sizeResult
  split
  · exact issueSize_leads s
  · split
    · next hspan =>
      refine (sweepAtReady_leads _).before (.of_move (.media s.core .ready (some span) (by simp) ?_))
      rintro x ⟨rfl⟩
      exact hspan
    · exact ((failIssueQueue_leads _).before (enterFault_leads _ _)).before
        (.of_move (.media s.core .notReady none (by simp) (by simp)))

theorem deliverResult_leads (c : Command) (ok : Bool) (span : Nat) (data : List Content) (s : State) :
    s.leads (deliverResult c ok span data s) := by
  unfold deliverResult
  dsimp only
  refine (imageResult_leads c ok s).trans ?_
  split
  · exact fragResult_leads ..
  · exact chunkResult_leads ..
  · exact .of_core (testResult_core ..)
  · exact sizeResult_leads ..

theorem failAll_leads (l : List Command) (s : State) : s.leads (failAll l s) :=
  foldl_leads (fun _ _ => deliverResult_leads ..) l s

theorem mediaLinkReset_leads (s : State) : s.leads (mediaLinkReset s) :=
  (failAll_leads ..).after rfl

theorem startSizing_leads (s : State) : s.leads (startSizing s) :=
  (issueSize_leads _).before (.of_move (.media s.core .sizing none (by simp) (by simp)))

theorem grantTag_leads (tag : Tag) (s : State) : s.leads (grantTag tag s) := by
  unfold grantTag
  split
  · exact (issue_leads ..).after rfl
  · split
    · exact (issue_leads ..).after rfl
    · unfold grantHead
      dsimp only
      split
      · exact (issue_leads ..).after (setFrag_core (by intro _; rfl) ..)
      · exact .of_core rfl
    · exact .refl s

/-! ### Credentials (chapter 7) and keys (chapter 6) -/

theorem startEvaluation_leads (digits : List Digit) (s : State) : s.leads (startEvaluation digits s) := by
  refine (requestCommit_leads ..).before (.trans ?_ (.of_core (setDrive_core ..)))
  exact attempts_leads s { s.cred with eval := some ⟨digits, .counting⟩, n := min (s.cred.n + 1) 255 }
    (Nat.min_le_right ..)

theorem evaluationResult_leads (digits : List Digit) (s : State) : s.leads (evaluationResult digits s) := by
  unfold evaluationResult
  split
  · split
    · exact (startWipe_leads _).after rfl
    · next p _ _ =>
      exact (requestCommit_leads ..).before
        (attempts_leads s { s.cred with eval := some ⟨[], .resetting p⟩, n := 0 } (Nat.zero_le _))
  · dsimp only
    split
    · exact (startWipe_leads _).after rfl
    · split
      · exact .of_core ((requestOneShot_core ..).trans (enterBackoff_core _))
      · exact .of_core ((requestOneShot_core ..).trans (setDrive_core ..))

theorem resetStored_runs (s : State) : s.runs (resetStored s) := by
  unfold resetStored
  split
  · split
    · exact (openDrive_runs ..).after rfl
    · exact .refl s
  · exact .refl s

theorem firstEntry_core (e : Enroll) (digits : List Digit) (s : State) : (firstEntry e digits s).core = s.core := by
  unfold firstEntry
  split
  · exact failEnroll_core ..
  · exact requestOneShot_core ..

theorem secondEntry_core (e : Enroll) (digits : List Digit) (s : State) : (secondEntry e digits s).core = s.core := by
  unfold secondEntry
  split
  · exact failEnroll_core ..
  · split
    · exact failEnroll_core ..
    · rfl

theorem succeedEnroll_leads {e : Enroll} {s : State} (h : e.origin = .factory → s.media.state = .ready)
    (digits : List Digit) : s.leads (succeedEnroll e digits s) := by
  unfold succeedEnroll
  dsimp only
  split
  · next ho => exact (installDefault_leads (by simpa using h ho)).before ((requestCommit_leads ..).after rfl)
  · exact (requestCommit_leads ..).after rfl

theorem duplicateResult_leads (e : Enroll) (digits : List Digit) (s : State) :
    s.leads (duplicateResult e digits s) := by
  unfold duplicateResult
  split
  · exact .of_core (failEnroll_core ..)
  · split
    · exact .of_core (failEnroll_core ..)
    · next h => exact succeedEnroll_leads (fun ho => by_contra fun hm => h ⟨ho, hm⟩) digits

theorem finishEnroll_runs (e : Enroll) (s : State) : s.runs (finishEnroll e s) := by
  unfold finishEnroll
  dsimp only
  split
  · exact .of_core (setDrive_core ..)
  · exact .of_core rfl
  · exact (openDrive_runs ..).after rfl
  · exact .of_core (setDrive_core ..)

theorem enrollStored_runs (profile : Bool) (s : State) : s.runs (enrollStored profile s) := by
  unfold enrollStored
  split
  · exact .refl s
  · split
    · exact .refl s
    · next e _ _ =>
      dsimp only
      generalize (if profile = true then { e with profileDone := true } else { e with mapDone := true }) = e'
      split
      · exact finishEnroll_runs ..
      · exact .of_core rfl

theorem removalStored_runs (r : ProfIx) (s : State) : s.runs (removalStored r s) := by
  unfold removalStored
  split
  · exact (clearRemoved_runs r _).after rfl
  · exact .refl s

theorem comparisonEnds_leads (c : Comparison) (s : State) : s.leads (comparisonEnds c s) := by
  unfold comparisonEnds
  split
  · split
    · split
      · exact evaluationResult_leads ..
      · exact .refl s
    · exact .refl s
  · split
    · split
      · exact duplicateResult_leads ..
      · exact .refl s
    · exact .refl s

theorem appendDigit_core (d : Digit) (s : State) : (appendDigit d s).core = s.core := requestOneShot_core ..

theorem keyEntry_leads (k : Key) (s : State) : s.leads (keyEntry k s) := by
  unfold keyEntry
  split
  · split
    · exact .of_core (appendDigit_core ..)
    · exact .of_core ((setDrive_core ..).trans (requestOneShot_core ..))
  · exact .of_core (setDrive_core ..)
  · split
    · exact .of_core ((setDrive_core ..).trans (requestOneShot_core ..))
    · exact (startEvaluation_leads _ _).after (endCollection_core s)

theorem keyFactory_core (k : Key) (s : State) : (keyFactory k s).core = s.core := by
  unfold keyFactory
  split
  · split
    · exact requestOneShot_core ..
    · split
      · exact requestOneShot_core ..
      · exact startEnroll_core ..
  · rfl

theorem handOn_core (e : Enroll) (s : State) : (handOn e s).core = s.core := by
  unfold handOn
  split
  · exact firstEntry_core ..
  · exact secondEntry_core ..
  · rfl

theorem enrollKey_leads (e : Enroll) (k : Key) (s : State) : s.leads (enrollKey e k s) := by
  unfold enrollKey
  split
  · unfold enrollOpen
    split
    · exact .of_core (handOn_core ..)
    · split <;> exact .of_core rfl
  · unfold enrollDigit
    split
    · exact .of_core (appendDigit_core ..)
    · exact .of_core (failEnroll_core ..)
  · unfold cancelEnroll
    split
    · exact lockTrigger_leads s
    · exact .of_core (cancelFactoryEnroll_core ..)

theorem keyEnrolling_leads (k : Key) (s : State) : s.leads (keyEnrolling k s) := by
  unfold keyEnrolling
  split
  · exact .refl s
  · split
    · refine (enrollKey_leads ..).after ?_
      split
      · exact restartInactivity_core s
      · rfl
    · exact .refl s

theorem keyPress_leads (k : Key) (s : State) : s.leads (keyPress k s) := by
  unfold keyPress
  split
  · exact .of_core (keyFactory_core k s)
  · unfold keyLocked
    split
    · exact .of_core (setDrive_core ..)
    · exact .refl s
  · exact keyEntry_leads k s
  · unfold keyOpened
    split
    · exact (lockTrigger_leads _).after (restartInactivity_core s)
    · exact .refl s
  · exact keyEnrolling_leads k s
  all_goals exact .refl s

theorem press_leads (i : KeyIx) (s : State) : s.leads (press i s) := by
  refine (standbyCheck_leads _).before (.trans ?_ (.of_core (withdrawRaced_core ..)))
  exact (keyPress_leads ..).after rfl

theorem pressAfter_leads (was now : Vector KeyState 12) (s : State) : s.leads (pressAfter was now s) := by
  unfold pressAfter
  split
  · exact press_leads _ s
  · exact .refl s

/-! ### Commits (chapter 10) -/

theorem sweepStored_leads (r : SweepRecord) (noted : BitVec 32) (s : State) : s.leads (sweepStored r noted s) := by
  unfold sweepStored
  split
  · exact (endWaits_leads ..).after (moveCheckpoint_core ..)
  · dsimp only
    have hwaits := endWaits_leads (waitEnds none noted) s
    split
    · split
      · exact hwaits.trans (endSweep_leads ..)
      · exact hwaits
    · exact hwaits

theorem eraseMapStored_leads (s : State) : s.leads (eraseMapStored s) := by
  unfold eraseMapStored
  split
  · exact .refl s
  · split
    · split
      · exact setUpSweep_leads ..
      · exact headLeaves_leads s
    · exact .refl s

theorem applyStored_leads (s : State) : s.leads (applyStored s) := by
  unfold applyStored
  split
  · exact endApply_leads s
  · exact .refl s

theorem eraseSweepStored_leads (s : State) : s.leads (eraseSweepStored s) := by
  unfold eraseSweepStored
  split
  · exact (sweepDecide_leads _).after rfl
  · exact .refl s

theorem tellWaiter_runs (w : Waiter) (s : State) : s.runs (tellWaiter w s) := by
  unfold tellWaiter
  split
  · exact (applyStored_leads s).runs
  · exact (eraseMapStored_leads s).runs
  · exact (eraseSweepStored_leads s).runs
  · exact .of_core (countStored_core s)
  · exact resetStored_runs s
  · exact enrollStored_runs true s
  · exact enrollStored_runs false s
  · exact removalStored_runs _ s
  · exact (wipeStepDone_leads _ s).runs

theorem tellRequesters_runs (c : Commit) (s : State) : s.runs (tellRequesters c s) := by
  unfold tellRequesters
  dsimp only
  refine .trans ?_ (foldl_runs (fun s w => tellWaiter_runs w s) _ _)
  split
  · exact (sweepStored_leads ..).runs
  · exact .refl s

/-- A commit in progress that is written in full stores the slot records it captured, in one copy of MAP (R192). -/
theorem write_leads {s : State} {c : Commit} (hc : s.store.busy = some c) :
    s.leads { s with store := s.store.write c.content } := by
  have hcommitting : s.core.committing = c.mapSlots := by
    simp [State.core, hc]
  unfold Commit.mapSlots at hcommitting
  cases hx : c.content with
  | map m =>
    rw [hx] at hcommitting
    by_cases hfirst : s.store.map.firstCurrent mapLaw = true
    · exact .of_move (by
        have h := Core.Move.storeB s.core m.slots hcommitting
        simpa [Store.write, Copies.commit, hfirst, State.core] using h)
    · exact .of_move (by
        have h := Core.Move.storeA s.core m.slots hcommitting
        simpa [Store.write, Copies.commit, hfirst, State.core] using h)
  | _ => exact .of_core rfl

theorem spoil_core (x : RecordContent) (s : State) : ({ s with store := s.store.spoil x } : State).core = s.core := by
  have hmap : (s.store.spoil x).map.a.content = s.store.map.a.content ∧
      (s.store.spoil x).map.b.content = s.store.map.b.content := by
    cases x with
    | map m =>
      unfold Store.spoil Copies.spoil
      dsimp only
      split <;> exact ⟨rfl, rfl⟩
    | _ => exact ⟨rfl, rfl⟩
  have hrest : (s.store.spoil x).queue = s.store.queue ∧ (s.store.spoil x).busy = s.store.busy := by
    cases x <;> exact ⟨rfl, rfl⟩
  obtain ⟨ha, hb⟩ := hmap
  obtain ⟨hq, hbusy⟩ := hrest
  simp only [State.core, ha, hb, hq, hbusy]

theorem busyNone_leads (s : State) : s.leads { s with store.busy := none } := .of_move (.finish s.core)

theorem commitVerified_runs {s : State} {c : Commit} (hc : s.store.busy = some c) : s.runs (commitVerified c s) := by
  unfold commitVerified
  dsimp only
  refine (write_leads hc).runs.trans ?_
  split
  · exact (busyNone_leads _).runs
  · exact ((tellRequesters_runs c _).trans (busyNone_leads _).runs).trans (startNext_leads _).runs

theorem commitFailed_leads (c : Commit) (s : State) : s.leads (commitFailed c s) := by
  unfold commitFailed
  dsimp only
  exact (enterFault_leads ..).before ((busyNone_leads _).after (spoil_core ..))

/-! ### Start-up's end (chapter 10) -/

theorem chooseState_leads (s : State) : s.leads (chooseState s) := by
  unfold chooseState
  split
  · exact .of_core (setDrive_core ..)
  · split
    · exact startWipe_leads s
    · split
      · exact .of_core (enterBackoff_core s)
      · exact .of_core (setDrive_core ..)

theorem restoreErase_leads (r : SweepRecord) (s : State) : s.leads (restoreErase r s) := by
  have hplace : ∀ {t u : State}, t.core = s.core → (c : Prop) → [Decidable c] →
      u = (if c then requestCommit .sweep [] t else t) → s.leads u := by
    rintro t u ht c _ rfl
    split
    · exact (requestCommit_leads ..).after ht
    · exact .of_core ht
  have hstart {u : State} (h : s.leads u) (b : Bool) : s.leads (if b then u else startHead u) := by
    split
    · exact h
    · exact h.trans (startHead_leads u)
  unfold restoreErase
  dsimp only
  refine hstart (hplace ?_ _ rfl) _
  split <;> rfl

theorem startUpRest_runs (s : State) : s.runs (startUpRest s) := by
  unfold startUpRest
  dsimp only
  have hstate (t : State) : t.leads (if t.ctl.wipeFlag then startWipe t else chooseState t) := by
    split
    · exact startWipe_leads t
    · exact chooseState_leads t
  have herase (r : SweepRecord) (t : State) : t.leads (if t.ctl.drive = .wiping then t else restoreErase r t) := by
    split
    · exact .refl t
    · exact restoreErase_leads r t
  refine .trans (clearEmptyMasks_runs s) (State.leads.runs ?_)
  refine .trans (hstate _) (.trans (herase ((s.store.sweep.load sweepLaw).getD .delivered) _) ?_)
  exact .of_core (startUpEnd_core _)

theorem cipherEnd_runs (k : RunKind) (mismatches : BitVec 16) (s : State) : s.runs (cipherEnd k mismatches s) := by
  unfold cipherEnd
  split
  · split
    · exact startUpRest_runs s
    · exact (enterFault_leads ..).runs.trans (.of_core (startUpEnd_core _))
  · split
    · exact .of_core rfl
    · exact (enterFault_leads ..).runs.after rfl
  · split
    · exact .of_core rfl
    · exact (enterFault_leads ..).runs.after rfl

/-! ### The commands and the step -/

theorem execMediaReady_leads {s t : State} (h : execMediaReady s = .next t) : s.leads t := by
  obtain rfl := Host.Outcome.next.inj h
  split
  · exact .refl s
  · split
    · exact startSizing_leads s
    · exact (startSizing_leads _).before ((abortTest_leads _).before ((failAll_leads _ _).after rfl))

theorem execMediaCompletion_leads {tag : Tag} {status : Byte} {span : BitVec 32} {data : MediaData} {s t : State}
    (h : execMediaCompletion tag status span data s = .next t) : s.leads t := by
  obtain rfl := Host.Outcome.next.inj h
  split
  · exact .refl s
  · exact (serveSize_leads _).after rfl
  · exact (standbyCheck_leads _).before ((serveSize_leads _).before ((deliverResult_leads ..).after rfl))

theorem execTagTimeout_leads {tag : Tag} {s t : State} (h : execTagTimeout tag s = .next t) : s.leads t := by
  obtain rfl := Host.Outcome.next.inj h
  split
  · next c _ =>
    have hresult := (deliverResult_leads c false 0 []
      { s with media.tags := s.media.tags.set tag .retired, media.retired := s.media.retired + 1 }).after (s := s) rfl
    dsimp only
    split
    · exact (hresult.trans (mediaLinkReset_leads _)).trans (serveSize_leads _)
    · exact hresult
  · exact .refl s

theorem execKeypadScan_leads {pressed : BitVec 12} {s t : State} (h : execKeypadScan pressed s = .next t) :
    s.leads t := by
  obtain rfl := Host.Outcome.next.inj h
  split
  · exact (pressAfter_leads ..).after rfl
  · split
    · exact (pressAfter_leads ..).after rfl
    · exact .refl s

theorem execEntryTimerExpiry_leads {s t : State} (h : execEntryTimerExpiry s = .next t) : s.leads t := by
  obtain rfl := Host.Outcome.next.inj h
  split
  · exact .refl s
  · split
    · exact .of_core rfl
    · refine (standbyCheck_leads _).after ?_
      split
      · exact setDrive_core ..
      · exact failEnroll_core ..
      · rfl

theorem execSettlingTimerExpiry_leads {pressed : BitVec 12} {s t : State}
    (h : execSettlingTimerExpiry pressed s = .next t) : s.leads t := by
  obtain rfl := Host.Outcome.next.inj h
  split
  · exact .of_move (.mode s.core .active (by simp))
  · exact .refl s

theorem execFrontRequestArrival_leads {kind tag : Byte} {start : BitVec 32} {count : BitVec 16} {x : Sector}
    {s t : State} (h : execFrontRequestArrival kind tag start count x s = .next t) : s.leads t := by
  obtain rfl := Host.Outcome.next.inj h
  split
  · exact (arrivalChecks_leads ..).after (reportArrival_core s)
  · exact .refl s

theorem execAdmission_leads {s t : State} (h : execAdmission s = .next t) : s.leads t := by
  obtain rfl := Host.Outcome.next.inj h
  split
  · exact .refl s
  · next hq =>
    split
    · exact admitTxn_leads hq
    · exact .refl s

/-- The taking of a request row, behind the gate of FAULT (R176). -/
def takingOf : Instr → State → Taken
  | .status _ _ => takeStatus
  | .lock _ _ => faultGate takeLock
  | .readTable _ _ => faultGate takeReadTable
  | .stageRegion _ _ position present cls writable slot base length =>
    faultGate (takeStageRegion position present cls writable slot base length)
  | .setSlotMask _ _ slot mask => faultGate (takeSetSlotMask slot mask)
  | .clearPending _ _ => faultGate takeClearPending
  | .applyTable _ _ => faultGate takeApplyTable
  | .eraseRegion _ _ position mode => faultGate (takeEraseRegion position mode)
  | .cancelSweep _ _ => faultGate takeCancelSweep
  | .enroll _ _ slot kind => faultGate (takeEnroll slot kind)
  | .removeProfile _ _ slot => faultGate (takeRemoveProfile slot)
  | .setOptions _ _ minPin free threshold inactivity chunk pace =>
    faultGate (takeSetOptions ⟨minPin, free, threshold, inactivity, chunk, pace⟩)
  | .selfTestCipher _ _ => faultGate (takeSelfTestCipher .plain)
  | .selfTestCipherInject _ _ => faultGate (takeSelfTestCipher .inject)
  | .selfTestMedia _ _ passes => faultGate (takeSelfTestMedia passes)
  | .wipeAll _ _ => faultGate takeWipeAll
  | _ => answer .unknownRequest

/-- A request row is an arrival and its taking (R175). -/
theorem exec_request {c : Instr} {tag : Tag} {seq code : Byte} (h : c.request = some (tag, seq, code)) (s : State) :
    exec c s = .next (windowRequest tag seq code (takingOf c) s) := by
  cases c <;> cases h <;> rfl

theorem taking_leads (c : Instr) (s : State) : s.leads (takingOf c s).2.2 := by
  cases c with
  | lock => exact faultGate_leads takeLock_leads s
  | readTable => exact faultGate_leads takeReadTable_leads s
  | stageRegion => exact faultGate_leads (takeStageRegion_leads _ _ _ _ _ _ _) s
  | setSlotMask => exact faultGate_leads (takeSetSlotMask_leads _ _) s
  | clearPending => exact faultGate_leads takeClearPending_leads s
  | applyTable => exact faultGate_leads takeApplyTable_leads s
  | eraseRegion => exact faultGate_leads (takeEraseRegion_leads _ _) s
  | cancelSweep => exact faultGate_leads takeCancelSweep_leads s
  | enroll => exact faultGate_leads (takeEnroll_leads _ _) s
  | removeProfile => exact faultGate_leads (takeRemoveProfile_leads _) s
  | setOptions => exact faultGate_leads (takeSetOptions_leads _) s
  | selfTestCipher | selfTestCipherInject => exact faultGate_leads (takeSelfTestCipher_leads _) s
  | selfTestMedia => exact faultGate_leads (takeSelfTestMedia_leads _) s
  | wipeAll => exact faultGate_leads takeWipeAll_leads s
  | _ => exact .refl s

/-- Every command is made of moves of the core, but the loss and the return of power, and a commit's completion and a
cipher test's end, which may open a profile or clear mask bits. -/
theorem exec_leads {c : Instr} (hc : c.isPower = false) (hcommit : ∀ v, c ≠ .commitCompletion v)
    (htest : ∀ m, c ≠ .cipherTestEnd m) {s t : State} (h : exec c s = .next t) : s.leads t := by
  cases c with
  | powerOn | powerLoss => exact absurd hc.symm Bool.false_ne_true
  | commitCompletion v => exact absurd rfl (hcommit v)
  | cipherTestEnd m => exact absurd rfl (htest m)
  | attach =>
    obtain rfl := Host.Outcome.next.inj h
    split
    · exact attachTaken_leads s
    · exact .refl s
  | detach =>
    obtain rfl := Host.Outcome.next.inj h
    split
    · exact detachTaken_leads s
    · exact .refl s
  | linkReset =>
    obtain rfl := Host.Outcome.next.inj h
    split
    · exact (dropFront_leads s).trans (notifyCounts_leads _)
    · exact .refl s
  | mediaReady => exact execMediaReady_leads h
  | frontRequestArrival => exact execFrontRequestArrival_leads h
  | status | lock | readTable | stageRegion | setSlotMask | clearPending | applyTable | eraseRegion | cancelSweep
  | enroll | removeProfile | setOptions | selfTestCipher | selfTestCipherInject | selfTestMedia | wipeAll
  | unknownRequest =>
    rw [exec_request rfl] at h
    obtain rfl := Host.Outcome.next.inj h
    exact windowRequest_leads (taking_leads _) ..
  | admission => exact execAdmission_leads h
  | writeDataSector =>
    obtain rfl := Host.Outcome.next.inj h
    split
    · exact pullSector_leads ..
    · exact .refl s
  | slotGrant =>
    obtain rfl := Host.Outcome.next.inj h
    split
    · split
      · exact grantTag_leads _ s
      · exact .refl s
    · exact .refl s
  | mediaCompletion => exact execMediaCompletion_leads h
  | tagTimeout => exact execTagTimeout_leads h
  | comparisonResult =>
    obtain rfl := Host.Outcome.next.inj h
    split
    · exact .refl s
    · exact (standbyCheck_leads _).before ((comparisonEnds_leads ..).after rfl)
  | keypadScan => exact execKeypadScan_leads h
  | patternStepExpiry =>
    obtain rfl := Host.Outcome.next.inj h
    split
    · split <;> exact .of_core rfl
    · exact .of_core rfl
  | entryTimerExpiry => exact execEntryTimerExpiry_leads h
  | backoffTimerExpiry =>
    obtain rfl := Host.Outcome.next.inj h
    split
    · exact .refl s
    · refine (standbyCheck_leads _).after ?_
      split
      · exact setDrive_core ..
      · rfl
  | attachWindowExpiry =>
    obtain rfl := Host.Outcome.next.inj h
    split
    · exact .refl s
    · exact (standbyCheck_leads _).before ((lockTrigger_leads _).after rfl)
  | inactivityExpiry =>
    obtain rfl := Host.Outcome.next.inj h
    split
    · exact .refl s
    · split
      · exact .of_core rfl
      · exact (standbyCheck_leads _).before ((lockTrigger_leads _).after rfl)
  | standbyIdleTimerExpiry =>
    obtain rfl := Host.Outcome.next.inj h
    split
    · exact (standbyCheck_leads _).after rfl
    · exact .of_core rfl
    · exact .refl s
    · exact .refl s
  | keypadColumnEdge =>
    obtain rfl := Host.Outcome.next.inj h
    split
    · exact .of_move (.mode s.core .settling (by simp))
    · exact .refl s
  | settlingTimerExpiry => exact execSettlingTimerExpiry_leads h

theorem execCommitCompletion_runs {verified : Bool} {s t : State} (h : execCommitCompletion verified s = .next t) :
    s.runs t := by
  obtain rfl := Host.Outcome.next.inj h
  split
  · exact .refl s
  · next hbusy =>
    refine .trans ?_ (standbyCheck_leads _).runs
    split
    · exact commitVerified_runs hbusy
    · exact (commitFailed_leads _ s).runs

theorem execCipherTestEnd_runs {mismatches : BitVec 16} {s t : State} (h : execCipherTestEnd mismatches s = .next t) :
    s.runs t := by
  obtain rfl := Host.Outcome.next.inj h
  split
  · exact .refl s
  · refine .trans ?_ (standbyCheck_leads _).runs
    exact (cipherEnd_runs ..).after rfl

theorem exec_runs {c : Instr} (hc : c.isPower = false) {s t : State} (h : exec c s = .next t) : s.runs t := by
  by_cases hcommit : ∃ v, c = .commitCompletion v
  · obtain ⟨v, rfl⟩ := hcommit
    exact execCommitCompletion_runs h
  · by_cases htest : ∃ m, c = .cipherTestEnd m
    · obtain ⟨m, rfl⟩ := htest
      exact execCipherTestEnd_runs h
    · exact (exec_leads hc (not_exists.mp hcommit) (not_exists.mp htest) h).runs

/-- A step runs by moves of the core, openings and clearings, unless it takes or returns power. -/
theorem step_runs {s t : State} (h : step s = .next t) (hp : ∀ c ∈ s.pending.head?, c.isPower = false) :
    s.runs t := by
  unfold step at h
  split at h
  · obtain rfl := Host.Outcome.next.inj h
    exact .of_core rfl
  · next c rest hq => exact (exec_runs (hp c (by simp [hq])) h).after rfl

/-- A step at which power is lost or returns. -/
theorem step_power {s t : State} (h : step s = .next t) (hp : ¬ ∀ c ∈ s.pending.head?, c.isPower = false) :
    ∃ rest, t = powerDown { s with pending := rest } ∨ ∃ d : BitVec 24, t = startUp
      { powerDown { s with pending := rest } with
        power.on := true, store := (powerDown { s with pending := rest }).store.decay d } := by
  obtain ⟨c, hc, hcp⟩ : ∃ c ∈ s.pending.head?, c.isPower = true := by simpa using hp
  unfold step at h
  split at h
  · next hq => simp [hq] at hc
  · next c' rest hq =>
    obtain rfl : c' = c := by simpa [hq] using hc
    refine ⟨rest, ?_⟩
    cases c' with
    | powerLoss => exact .inl (Host.Outcome.next.inj h).symm
    | powerOn d => exact .inr ⟨d, (Host.Outcome.next.inj h).symm⟩
    | _ => exact absurd hcp Bool.false_ne_true

end Sys2Proof.Machine
end

section
/-! SUPPORT. What every move of the core keeps, the loss and the return of power, and the invariants that follow. -/

namespace Sys2Proof.Machine

open Sys2Proof

/-- What every act keeps, a run keeps. -/
theorem State.runs.keeps {P : Core → Prop} (h : ∀ {c d : Core}, Core.Act c d → P c → P d) {s t : State}
    (hst : s.runs t) (hs : P s.core) : P t.core := by
  have key : ∀ {c : Core}, Relation.ReflTransGen Core.Act s.core c → P c := by
    intro c hc
    induction hc with
    | refl => exact hs
    | tail _ hm ih => exact h hm ih
  exact key hst

/-! ### The invariants as properties of the core -/

/-- `linksInv` (R5, R6, R155, R202, R203). -/
def Core.linksOk (c : Core) : Prop :=
  (c.link = .attached ↔ c.source = .link) ∧ (c.attached = true ↔ c.source = .link) ∧
    (c.mode = .standby → c.source = .battery) ∧ (c.media = .ready ↔ c.capacity.isSome = true) ∧
    ∀ x, c.capacity = some x → 4096 ≤ x

/-- `imageInv` (R73). -/
def Core.imageOk (c : Core) : Prop := flashWf c.flash = true

/-- `storeInv` (R141, R193). -/
def Core.storeOk (c : Core) : Prop := c.records.Nodup ∧ c.attempts ≤ 255

/-- What the slot records of MAP obey. -/
def Core.mapSlots (c : Core) (ok : StoredSlot → Prop) : Prop :=
  (∀ k : SlotIx, ok c.copyA[k] ∧ ok c.copyB[k]) ∧ ∀ v, c.committing = some v → ∀ k : SlotIx, ok v[k]

/-- `gensInv` (R70). -/
def Core.gensOk (c : Core) : Prop :=
  (∀ k : SlotIx, c.slots[k].gen ≤ 4294967295) ∧ c.mapSlots (fun x => x.gen ≤ 4294967295)

/-- `freshInv` (assumption 7). -/
def Core.freshOk (c : Core) : Prop :=
  (∀ (k : SlotIx) (n : Nat), c.slots[k].key = some n → n < c.keys) ∧
    (∀ x, c.snapshot = some x → ∀ (k : SlotIx) (n : Nat), x.copies[k] = some n → n < c.keys) ∧
    c.mapSlots (fun x => ∀ n, x.key = some n → n < c.keys)

/-- `namesInv` (assumption 7). -/
def Core.namesOk (c : Core) : Prop :=
  (c.queued ++ c.admitted).Nodup ∧ c.frags.Nodup ∧ (∀ i ∈ c.queued ++ c.admitted, i < c.ids) ∧ ∀ i ∈ c.frags, i < c.ids

/-- `keysInv` (R67). -/
def Core.keysOk (c : Core) : Prop := c.profile = none → ∀ k : SlotIx, c.slots[k].state ≠ .opened

/-- `tableInv` (R22, R32, R44). -/
def Core.tableOk (c : Core) : Prop :=
  tableLaw 0 c.table = true ∧ c.table.length ≤ 16 ∧
    (∀ n, c.snapshot = some n → tableLaw 0 (n.entries.toList.filterMap id) = true) ∧
    (c.quiesce = .apply → c.apply = .draining)

theorem State.mapSlots_core (s : State) (ok : StoredSlot → Prop) : s.store.mapSlots ok ↔ s.core.mapSlots ok := by
  refine and_congr Iff.rfl ⟨fun h v hv k => ?_, fun h c m hc hm k => ?_⟩
  · obtain ⟨c, hc, hcv⟩ := Option.bind_eq_some_iff.mp hv
    unfold Commit.mapSlots at hcv
    split at hcv
    · next m hm =>
      obtain rfl := Option.some.inj hcv
      exact h c m hc hm k
    · simp at hcv
  · refine h m.slots ?_ k
    simp [State.core, hc, Commit.mapSlots, hm]

theorem State.gensInv_core (s : State) : s.gensInv ↔ s.core.gensOk :=
  and_congr Iff.rfl (s.mapSlots_core _)

theorem State.freshInv_core (s : State) : s.freshInv ↔ s.core.freshOk :=
  and_congr Iff.rfl (and_congr Iff.rfl (s.mapSlots_core _))

theorem State.namesInv_core (s : State) : s.namesInv ↔ s.core.namesOk := by
  simp only [State.namesInv, Core.namesOk, State.core, List.map_append, List.mem_append, List.mem_map,
    List.mem_flatMap]
  refine and_congr Iff.rfl (and_congr Iff.rfl (and_congr ?_ ?_))
  · constructor
    · rintro h i (⟨t, ht, rfl⟩ | ⟨t, ht, rfl⟩)
      · exact h t (.inl ht)
      · exact h t (.inr ht)
    · exact fun h t ht => h t.id (ht.imp (fun ht => ⟨t, ht, rfl⟩) (fun ht => ⟨t, ht, rfl⟩))
  · constructor
    · rintro h i ⟨g, ⟨t, ht, hg⟩, rfl⟩
      exact h t ht g hg
    · exact fun h t ht g hg => h g.id ⟨g, ⟨t, ht, hg⟩, rfl⟩

/-! ### Every move keeps them -/

theorem Core.Move.keeps_links {c d : Core} (h : Core.Move c d) (hc : c.linksOk) : d.linksOk := by
  obtain ⟨hlink, hattached, hmode, hmedia, hcap⟩ := hc
  cases h with
  | links _ _ _ _ hl ha hm => exact ⟨hl, ha, hm, hmedia, hcap⟩
  | mode _ hm => exact ⟨hlink, hattached, hm, hmedia, hcap⟩
  | media _ _ hm hu => exact ⟨hlink, hattached, hmode, hm, hu⟩
  | _ => exact ⟨hlink, hattached, hmode, hmedia, hcap⟩

theorem Core.Move.keeps_image {c d : Core} (h : Core.Move c d) (hc : c.imageOk) : d.imageOk := by
  cases h with
  | flash _ hf => exact hf hc
  | _ => exact hc

theorem Core.Move.keeps_store {c d : Core} (h : Core.Move c d) (hc : c.storeOk) : d.storeOk := by
  obtain ⟨hnodup, hn⟩ := hc
  cases h with
  | attempts _ hn => exact ⟨hnodup, hn⟩
  | request r =>
    refine ⟨?_, hn⟩
    dsimp only
    split
    · exact hnodup
    · next hr => exact hnodup.append (List.nodup_singleton r) (by simpa using hr)
  | start r rest v hq _ => exact ⟨(List.nodup_cons.mp (hq ▸ hnodup)).2, hn⟩
  | _ => exact ⟨hnodup, hn⟩

theorem gen_le_nextGen {g : Nat} (h : g ≤ 4294967295) : g ≤ nextGen g := by
  simp [nextGen, h]

theorem nextGen_le (g : Nat) : nextGen g ≤ 4294967295 := Nat.min_le_right ..

/-- What the slots obey, a MAP commit's capture of them obeys. -/
theorem storedSlots_ok {slots : Vector KeySlot 8} {ok : StoredSlot → Prop}
    (h : ∀ k : SlotIx, ok ⟨slots[k].key, slots[k].gen, slots[k].mask⟩) (k : SlotIx) : ok (storedSlots slots)[k] := by
  simpa [storedSlots] using h k

theorem Core.SlotMove.gen_max {c : Core} {p : Option ProfIx} {keys : Nat} {k : SlotIx} {y : KeySlot}
    (h : c.SlotMove p keys k y) (hc : c.slots[k].gen ≤ 4294967295) : y.gen ≤ 4294967295 := by
  rcases h.gen with h | h <;> rw [h]
  · exact hc
  · exact nextGen_le _

theorem Core.SlotMove.gen_mono {c : Core} {p : Option ProfIx} {keys : Nat} {k : SlotIx} {y : KeySlot}
    (h : c.SlotMove p keys k y) (hc : c.slots[k].gen ≤ 4294967295) : c.slots[k].gen ≤ y.gen := by
  rcases h.gen with h | h <;> rw [h]
  · exact gen_le_nextGen hc

/-- A key that a slot holds after a change was made before the next one. -/
theorem Core.SlotMove.key_fresh {c : Core} {p : Option ProfIx} {keys : Nat} {k : SlotIx} {y : KeySlot}
    (h : c.SlotMove p keys k y) (hk : c.keys ≤ keys) (hc : c.freshOk) {n : Nat} (hn : y.key = some n) : n < keys := by
  obtain ⟨hslots, hsnap, _⟩ := hc
  rcases h.key n hn with h | ⟨_, h⟩ | ⟨x, hx, h⟩
  · exact (hslots k n h).trans_le hk
  · exact h
  · exact (hsnap x hx k n h).trans_le hk

/-- A commit's start, end and storing keep what the slot records obey, if the slots obey it. -/
theorem Core.Move.keeps_gens {c d : Core} (h : Core.Move c d) (hc : c.gensOk) : d.gensOk := by
  obtain ⟨hslots, hcopies, hbusy⟩ := hc
  cases h with
  | slots p v keys t hk _ hv => exact ⟨fun k => (hv k).gen_max (hslots k), hcopies, hbusy⟩
  | start r rest v _ hv =>
    refine ⟨hslots, hcopies, fun x hx k => ?_⟩
    rw [hv x hx]
    exact storedSlots_ok (ok := fun x => x.gen ≤ 4294967295) hslots k
  | finish => exact ⟨hslots, hcopies, fun _ h => by simp at h⟩
  | storeA v hv => exact ⟨hslots, fun k => ⟨hbusy v hv k, (hcopies k).2⟩, hbusy⟩
  | storeB v hv => exact ⟨hslots, fun k => ⟨(hcopies k).1, hbusy v hv k⟩, hbusy⟩
  | _ => exact ⟨hslots, hcopies, hbusy⟩

/-- No act lets a generation fall. -/
theorem Core.Act.gen_le {c d : Core} (h : Core.Act c d) (hc : c.gensOk) (k : SlotIx) :
    c.slots[k].gen ≤ d.slots[k].gen := by
  cases h with
  | move h =>
    cases h with
    | slots p v keys t hk _ hv => exact (hv k).gen_mono (hc.1 k)
    | _ => exact Nat.le_refl _
  | slots p v hv => exact (hv k).gen_mono (hc.1 k)

theorem Core.Act.keeps_gens {c d : Core} (h : Core.Act c d) (hc : c.gensOk) : d.gensOk := by
  cases h with
  | move h => exact h.keeps_gens hc
  | slots p v hv => exact ⟨fun k => (hv k).gen_max (hc.1 k), hc.2⟩

theorem Core.Move.keeps_fresh {c d : Core} (h : Core.Move c d) (hc : c.freshOk) : d.freshOk := by
  obtain ⟨hslots, hsnap, hcopies, hbusy⟩ := id hc
  cases h with
  | snapshot n hn =>
    refine ⟨hslots, fun x hx k m hm => ?_, hcopies, hbusy⟩
    rcases (hn x hx).2 k m hm with h | ⟨y, hy, h⟩
    · exact hslots k m h
    · exact hsnap y hy k m h
  | slots p v keys t hk _ hv =>
    exact ⟨fun k m hm => (hv k).key_fresh hk hc hm, fun x hx k m hm => (hsnap x hx k m hm).trans_le hk,
      fun k => ⟨fun m hm => ((hcopies k).1 m hm).trans_le hk, fun m hm => ((hcopies k).2 m hm).trans_le hk⟩,
      fun x hx k m hm => (hbusy x hx k m hm).trans_le hk⟩
  | start r rest v _ hv =>
    refine ⟨hslots, hsnap, hcopies, fun x hx k => ?_⟩
    rw [hv x hx]
    exact storedSlots_ok (ok := fun x => ∀ n, x.key = some n → n < c.keys) hslots k
  | finish => exact ⟨hslots, hsnap, hcopies, fun _ h => by simp at h⟩
  | storeA v hv => exact ⟨hslots, hsnap, fun k => ⟨hbusy v hv k, (hcopies k).2⟩, hbusy⟩
  | storeB v hv => exact ⟨hslots, hsnap, fun k => ⟨(hcopies k).1, hbusy v hv k⟩, hbusy⟩
  | _ => exact ⟨hslots, hsnap, hcopies, hbusy⟩

theorem Core.Move.keeps_names {c d : Core} (h : Core.Move c d) (hc : c.namesOk) : d.namesOk := by
  obtain ⟨htxns, hfrags, htxnsLt, hfragsLt⟩ := hc
  cases h with
  | drop q a f hq ha hf =>
    have hsub := hq.append ha
    exact ⟨htxns.sublist hsub, hfrags.sublist hf, fun i hi => htxnsLt i (hsub.subset hi),
      fun i hi => hfragsLt i (hf.subset hi)⟩
  | arrive =>
    have hperm : (c.queued ++ [c.ids] ++ c.admitted).Perm (c.ids :: (c.queued ++ c.admitted)) := by
      simp
    refine ⟨hperm.nodup_iff.mpr (List.nodup_cons.mpr ⟨fun h => Nat.lt_irrefl _ (htxnsLt _ h), htxns⟩), hfrags,
      fun i hi => ?_, fun i hi => Nat.lt_succ_of_lt (hfragsLt i hi)⟩
    rcases List.mem_cons.mp (hperm.mem_iff.mp hi) with rfl | h
    · exact Nat.lt_succ_self _
    · exact Nat.lt_succ_of_lt (htxnsLt i h)
  | enter i rest k hq =>
    have hperm : (rest ++ (c.admitted ++ [i])).Perm (c.queued ++ c.admitted) := by
      rw [hq, List.cons_append, ← List.append_assoc]
      exact List.perm_append_singleton ..
    refine ⟨hperm.nodup_iff.mpr htxns, hfrags.append List.nodup_range' ?_, fun j hj => ?_, fun j hj => ?_⟩
    · intro j hj hk
      exact absurd (hfragsLt j hj) (Nat.not_lt.mpr (List.mem_range'_1.mp hk).1)
    · exact (htxnsLt j (hperm.mem_iff.mp hj)).trans_le (Nat.le_add_right ..)
    · rcases List.mem_append.mp hj with h | h
      · exact (hfragsLt j h).trans_le (Nat.le_add_right ..)
      · exact (List.mem_range'_1.mp h).2
  | _ => exact ⟨htxns, hfrags, htxnsLt, hfragsLt⟩

theorem Core.keysOk_of_slotMove {c : Core} {p : Option ProfIx} {keys : Nat} {v : Vector KeySlot 8} (hc : c.keysOk)
    (hv : ∀ k : SlotIx, c.SlotMove p keys k v[k]) (hp : p = none) (k : SlotIx) : v[k].state ≠ .opened := by
  intro hopened
  obtain ⟨hnone, hwas⟩ := (hv k).state hp hopened
  exact hc hnone k hwas

theorem Core.Act.keeps_keys {c d : Core} (h : Core.Act c d) (hc : c.keysOk) : d.keysOk := by
  cases h with
  | move h =>
    cases h with
    | slots p v keys t hk _ hv => exact keysOk_of_slotMove hc hv
    | _ => exact hc
  | slots p v hv => exact keysOk_of_slotMove hc hv

theorem Core.Act.keeps_fresh {c d : Core} (h : Core.Act c d) (hc : c.freshOk) : d.freshOk := by
  cases h with
  | move h => exact h.keeps_fresh hc
  | slots p v hv => exact ⟨fun k m hm => (hv k).key_fresh (Nat.le_refl _) hc hm, hc.2⟩

theorem Core.Act.keeps_links {c d : Core} (h : Core.Act c d) (hc : c.linksOk) : d.linksOk := by
  cases h with
  | move h => exact h.keeps_links hc
  | slots => exact hc

theorem Core.Act.keeps_image {c d : Core} (h : Core.Act c d) (hc : c.imageOk) : d.imageOk := by
  cases h with
  | move h => exact h.keeps_image hc
  | slots => exact hc

theorem Core.Act.keeps_store {c d : Core} (h : Core.Act c d) (hc : c.storeOk) : d.storeOk := by
  cases h with
  | move h => exact h.keeps_store hc
  | slots => exact hc

theorem Core.Act.keeps_names {c d : Core} (h : Core.Act c d) (hc : c.namesOk) : d.namesOk := by
  cases h with
  | move h => exact h.keeps_names hc
  | slots => exact hc

/-- The law of R67 is kept by moves, but not by every opening. -/
theorem Core.Move.keeps_slots {c d : Core} (h : Core.Move c d) (hc : c.slotsOk) : d.slotsOk := by
  cases h with
  | slots p v keys t _ _ _ hlaw => exact hlaw hc
  | _ => exact hc

/-- The default table over a READY medium obeys R22 (R38). -/
theorem defaultTable_law {x : Nat} (h : 4096 ≤ x) :
    tableLaw 0 [⟨0, floor8 (min x Config.windowBase - Config.scratchSectors), .priv, true, some 0⟩] = true := by
  have h8 (y : Nat) : floor8 y % 8 = 0 := by unfold floor8; omega
  have hmin : Config.minRegion ≤ floor8 (min x Config.windowBase - Config.scratchSectors) := by
    simp only [floor8, Config.minRegion, Config.windowBase, Config.scratchSectors]
    omega
  simp [tableLaw, h8, hmin]

theorem Core.Move.keeps_table {c d : Core} (h : Core.Move c d) (hl : c.linksOk) (hc : c.tableOk) : d.tableOk := by
  obtain ⟨hlaw, hlen, hsnap, hquiesce⟩ := hc
  cases h with
  | slots _ _ _ t _ ht =>
    rcases ht with rfl | ⟨h, hle⟩ | ⟨n, hn, rfl⟩ | ⟨hready, rfl⟩
    · exact ⟨hlaw, hlen, hsnap, hquiesce⟩
    · exact ⟨h, hle, hsnap, hquiesce⟩
    · refine ⟨hsnap n hn, ?_, hsnap, hquiesce⟩
      exact (List.length_filterMap_le ..).trans_eq (by simp)
    · obtain ⟨_, _, _, hmedia, hcap⟩ := hl
      obtain ⟨x, hx⟩ := Option.isSome_iff_exists.mp (hmedia.mp hready)
      refine ⟨?_, by simp, hsnap, hquiesce⟩
      simpa [hx] using defaultTable_law (hcap x hx)
  | snapshot n hn =>
    refine ⟨hlaw, hlen, fun x hx => ?_, hquiesce⟩
    rcases (hn x hx).1 with h | ⟨y, hy, he⟩
    · exact h
    · rw [he]
      exact hsnap y hy
  | quiesce a q hq =>
    refine ⟨hlaw, hlen, hsnap, fun h => ?_⟩
    rcases hq h with ha | ⟨hwas, rfl⟩
    · exact ha
    · exact hquiesce hwas
  | _ => exact ⟨hlaw, hlen, hsnap, hquiesce⟩

theorem Core.Act.keeps_table {c d : Core} (h : Core.Act c d) (hl : c.linksOk) (hc : c.tableOk) : d.tableOk := by
  cases h with
  | move h => exact h.keeps_table hl hc
  | slots => exact hc

/-! ### The loss and the return of power -/

theorem forgetWrites_wf (l : List Txn) {f : List (Nat × Content)} (h : flashWf f = true) :
    flashWf (forgetWrites l f) = true := by
  unfold forgetWrites
  induction l generalizing f with
  | nil => exact h
  | cons t l ih =>
    refine ih ?_
    dsimp only
    split
    · exact flashForget_wf _ h
    · exact h

/-- Of the core, a loss of power leaves the image, the names' counters and the MAP record's copies. -/
theorem powerDown_core (s : State) : (powerDown s).core = { State.blank.core with
    flash := forgetWrites s.filter.queue (forgetWrites s.filter.txns (forgetBusy s.media.tags s.flash))
    ids := s.counters.ids, keys := s.counters.keys
    copyA := s.store.map.a.content.slots, copyB := s.store.map.b.content.slots } := by
  unfold powerDown
  dsimp only
  split
  · next c _ =>
    have h := spoil_core c.content s
    simp only [State.core, Core.mk.injEq] at h
    simp only [State.core, h]
  · rfl

theorem powerDown_image {s : State} (h : s.imageInv) : (powerDown s).imageInv :=
  forgetWrites_wf _ (forgetWrites_wf _ (forgetBusy_wf _ h))

/-- The store's decay is one of check values (assumption 11). -/
theorem decay_core (d : BitVec 24) (s : State) :
    ({ s with power.on := true, store := s.store.decay d } : State).core = s.core := rfl

/-- The state that start-up loads from (R197). -/
def State.restarted (s : State) (d : BitVec 24) : State :=
  { powerDown s with power.on := true, store := (powerDown s).store.decay d }

theorem restarted_core (s : State) (d : BitVec 24) : (s.restarted d).core = (powerDown s).core := rfl

/-- Of the core, the load changes the table, the slots and the attempt counter (R197). -/
theorem loadRecords_core (s : State) : (loadRecords s).core = { s.core with
    table := ((s.store.map.load mapLaw).getD .delivered).table
    slots := ((s.store.map.load mapLaw).getD .delivered).slots.map StoredSlot.toSlot
    attempts := correctAttempts ((s.store.options.load optionsLaw).map RawOptions.clamp |>.getD .defaults).threshold
      ((s.store.attempts.load attemptsLaw).getD 0) } := rfl

theorem startUp_leads (s : State) : (loadRecords s).leads (startUp s) := by
  unfold startUp
  dsimp only
  split
  · exact (enterFault_leads ..).trans (.of_core (startUpEnd_core _))
  · exact .of_core rfl

/-- What a load gives is the content of one of the two copies, and obeys the record's laws (R192). -/
theorem load_some {α : Type} {law : α → Bool} {c : Copies α} {x : α} (h : c.load law = some x) :
    law x = true ∧ (x = c.a.content ∨ x = c.b.content) := by
  unfold Copies.load at h
  split at h
  · next hv =>
    obtain rfl := Option.some.inj h
    have hlaw (a b : Bool) (ha : a = true → law c.a.content = true) (hb : b = true → law c.b.content = true)
        (hab : (a || b) = true) : law (if firstIsCurrent a b c then c.a.content else c.b.content) = true := by
      cases a <;> cases b <;> simp_all [firstIsCurrent]
      exact (apply_ite law ..).trans (by simp [ha, hb])
    refine ⟨hlaw _ _ (fun h => (Bool.and_eq_true_iff.mp h).2) (fun h => (Bool.and_eq_true_iff.mp h).2) hv, ?_⟩
    split
    · exact .inl rfl
    · exact .inr rfl
  · simp at h

/-- What both copies of MAP and a delivered record obey, the record loaded obeys. -/
theorem loaded_slots {c : Copies MapRecord} {ok : StoredSlot → Prop}
    (h : ∀ k : SlotIx, ok c.a.content.slots[k] ∧ ok c.b.content.slots[k]) (h0 : ok ⟨none, 0, 0⟩) (k : SlotIx) :
    ok ((c.load mapLaw).getD .delivered).slots[k] := by
  cases hl : c.load mapLaw with
  | none => simpa [MapRecord.delivered] using h0
  | some m =>
    rcases (load_some hl).2 with hm | hm <;> simp only [Option.getD_some, hm]
    · exact (h k).1
    · exact (h k).2

theorem loadRecords_links {s : State} (h : s.linksInv) : (loadRecords s).linksInv := h

theorem loadRecords_store {s : State} (h : s.storeInv) : (loadRecords s).storeInv := by
  refine ⟨h.1, ?_⟩
  have hn : (s.store.attempts.load attemptsLaw).getD 0 ≤ 255 := by
    cases hl : s.store.attempts.load attemptsLaw with
    | none => exact Nat.zero_le _
    | some n => simpa [attemptsLaw] using (load_some hl).1
  have hcorrect (t : Nat) {n : Nat} (h : n ≤ 255) : correctAttempts t n ≤ 255 := by
    unfold correctAttempts
    split <;> omega
  exact hcorrect _ hn

theorem loadRecords_gens {s : State} (h : s.core.gensOk) : (loadRecords s).core.gensOk := by
  refine ⟨fun k => ?_, h.2⟩
  have := loaded_slots (ok := fun x => x.gen ≤ 4294967295) h.2.1 (Nat.zero_le _) k
  simpa [loadRecords_core, StoredSlot.toSlot] using this

theorem loadRecords_fresh {s : State} (h : s.core.freshOk) : (loadRecords s).core.freshOk := by
  refine ⟨fun k n hn => ?_, h.2⟩
  have := loaded_slots (ok := fun x => ∀ n, x.key = some n → n < s.counters.keys) h.2.2.1 (by simp) k
  exact this n (by simpa [loadRecords_core, StoredSlot.toSlot] using hn)

theorem loadRecords_keys (s : State) : (loadRecords s).keysInv := by
  intro _ k
  have hstate (x : StoredSlot) : x.toSlot.state ≠ .opened := by
    unfold StoredSlot.toSlot
    dsimp only
    split <;> simp
  simpa [loadRecords] using hstate _

theorem loadRecords_table {s : State} (h : s.tableInv) : (loadRecords s).tableInv := by
  obtain ⟨_, _, hsnap, hquiesce⟩ := h
  have hload : tableLaw 0 ((s.store.map.load mapLaw).getD .delivered).table = true ∧
      ((s.store.map.load mapLaw).getD .delivered).table.length ≤ 16 := by
    cases hl : s.store.map.load mapLaw with
    | none => exact ⟨rfl, by decide⟩
    | some m =>
      have := (load_some hl).1
      simp only [mapLaw, Bool.and_eq_true, decide_eq_true_eq] at this
      exact ⟨this.1.2, this.1.1⟩
  exact ⟨hload.1, hload.2, hsnap, hquiesce⟩

/-! ### The step -/

/-- What the core's moves keep, a loss of power sets and the load keeps, every step keeps. -/
theorem step_keeps {P : State → Prop} {s t : State} (hs : P s) (h : step s = .next t)
    (hruns : ∀ {s t : State}, s.runs t → P s → P t) (hdown : ∀ {s : State}, P s → P (powerDown s))
    (hload : ∀ {s : State} (d : BitVec 24), P s → P (loadRecords (s.restarted d))) : P t := by
  by_cases hp : ∀ c ∈ s.pending.head?, c.isPower = false
  · exact hruns (step_runs h hp) hs
  · obtain ⟨rest, hrest⟩ := step_power h hp
    have htaken : P { s with pending := rest } := hruns (s := s) (.of_core rfl) hs
    rcases hrest with rfl | ⟨d, rfl⟩
    · exact hdown htaken
    · exact hruns (startUp_leads _).runs (hload d htaken)

theorem powerDown_links (s : State) : (powerDown s).linksInv := by
  simp [State.linksInv, powerDown, State.blank]

theorem step_linksInv {s t : State} (hs : s.linksInv) (h : step s = .next t) : t.linksInv :=
  step_keeps hs h (fun hst hs => hst.keeps Core.Act.keeps_links hs) (fun _ => powerDown_links _)
    (fun {s} _ _ => powerDown_links s)

theorem step_imageInv {s t : State} (hs : s.imageInv) (h : step s = .next t) : t.imageInv :=
  step_keeps hs h (fun hst hs => hst.keeps Core.Act.keeps_image hs) powerDown_image (fun _ => powerDown_image)

theorem powerDown_store (s : State) : (powerDown s).storeInv := by
  simp [State.storeInv, powerDown, State.blank]

theorem step_storeInv {s t : State} (hs : s.storeInv) (h : step s = .next t) : t.storeInv :=
  step_keeps hs h (fun hst hs => hst.keeps Core.Act.keeps_store hs) (fun _ => powerDown_store _)
    (fun {s} d _ => loadRecords_store (s := s.restarted d) (powerDown_store s))

theorem powerDown_gens {s : State} (h : s.core.gensOk) : (powerDown s).core.gensOk := by
  rw [powerDown_core]
  exact ⟨fun k => by simp [State.core, State.blank], h.2.1, fun _ h => by simp [State.core, State.blank] at h⟩

theorem step_gensInv {s t : State} (hs : s.gensInv) (h : step s = .next t) : t.gensInv :=
  (State.gensInv_core t).mpr (step_keeps (P := fun s => s.core.gensOk) ((State.gensInv_core s).mp hs) h
    (fun hst hs => hst.keeps Core.Act.keeps_gens hs) powerDown_gens
    (fun {s} d hs => loadRecords_gens (s := s.restarted d) (powerDown_gens hs)))

/-- Along a run no generation falls. -/
theorem State.runs.gen_le {s t : State} (hst : s.runs t) (hs : s.core.gensOk) (k : SlotIx) :
    s.cipher.slots[k].gen ≤ t.cipher.slots[k].gen :=
  (hst.keeps (P := fun c => c.gensOk ∧ s.core.slots[k].gen ≤ c.slots[k].gen)
    (fun hm hc => ⟨hm.keeps_gens hc.1, hc.2.trans (hm.gen_le hc.1 k)⟩) ⟨hs, Nat.le_refl _⟩).2

theorem powerDown_names (s : State) : (powerDown s).core.namesOk := by
  rw [powerDown_core]
  simp [Core.namesOk, State.core, State.blank]

theorem step_namesInv {s t : State} (hs : s.namesInv) (h : step s = .next t) : t.namesInv :=
  (State.namesInv_core t).mpr (step_keeps (P := fun s => s.core.namesOk) ((State.namesInv_core s).mp hs) h
    (fun hst hs => hst.keeps Core.Act.keeps_names hs) (fun _ => powerDown_names _) (fun _ _ => powerDown_names _))

theorem powerDown_fresh {s : State} (h : s.core.freshOk) : (powerDown s).core.freshOk := by
  obtain ⟨_, _, hcopies, _⟩ := h
  rw [powerDown_core]
  exact ⟨fun k n hn => by simp [State.core, State.blank] at hn, fun _ h => by simp [State.core, State.blank] at h,
    hcopies, fun _ h => by simp [State.core, State.blank] at h⟩

theorem step_freshInv {s t : State} (hs : s.freshInv) (h : step s = .next t) : t.freshInv :=
  (State.freshInv_core t).mpr (step_keeps (P := fun s => s.core.freshOk) ((State.freshInv_core s).mp hs) h
    (fun hst hs => hst.keeps Core.Act.keeps_fresh hs) powerDown_fresh
    (fun {s} d hs => loadRecords_fresh (s := s.restarted d) (powerDown_fresh hs)))

theorem powerDown_keys (s : State) : (powerDown s).keysInv := by
  simp [State.keysInv, powerDown, State.blank]

theorem step_keysInv {s t : State} (hs : s.keysInv) (h : step s = .next t) : t.keysInv :=
  step_keeps hs h (fun hst hs => hst.keeps Core.Act.keeps_keys hs) (fun _ => powerDown_keys _)
    (fun _ _ => loadRecords_keys _)

theorem powerDown_table (s : State) : (powerDown s).tableInv := by
  simp [State.tableInv, powerDown, State.blank, tableLaw]

theorem step_tableInv {s t : State} (hl : s.linksInv) (hs : s.tableInv) (h : step s = .next t) : t.tableInv :=
  (step_keeps (P := fun s => s.linksInv ∧ s.tableInv) ⟨hl, hs⟩ h
    (fun hst hs => hst.keeps (P := fun c => c.linksOk ∧ c.tableOk)
      (fun hm hc => ⟨hm.keeps_links hc.1, hm.keeps_table hc.1 hc.2⟩) hs)
    (fun _ => ⟨powerDown_links _, powerDown_table _⟩)
    (fun {s} d _ => ⟨powerDown_links s, loadRecords_table (s := s.restarted d) (powerDown_table s)⟩)).2

end Sys2Proof.Machine

namespace Sys2Proof.Proofs

open Sys2Proof Sys2Proof.Machine

/-- Settles O54: every command is made of moves of the core that keep the links together, and a loss of power sets them
so. -/
theorem linksStayTogether : Obligations.LinksStayTogether := fun _ _ => step_linksInv

/-- Settles O56, by the moves of the core: the image is changed by `flashForget` and `flashWriteAll` alone. -/
theorem imageStaysCanonical : Obligations.ImageStaysCanonical := fun _ _ => step_imageInv

/-- Settles O57, by the moves of the core. -/
theorem countersStayInRange : Obligations.CountersStayInRange :=
  ⟨fun _ _ hstore hgens h => ⟨step_storeInv hstore h, step_gensInv hgens h⟩,
    fun s _ hs h hp k => (step_runs h hp).gen_le ((State.gensInv_core s).mp hs) k⟩

/-- Settles O58, by the moves of the core. -/
theorem namesStayUnique : Obligations.NamesStayUnique := ⟨fun _ _ => step_namesInv, fun _ _ => step_freshInv⟩

end Sys2Proof.Proofs
end

section
/-! SUPPORT. The step and its queue, the reset state, the settings store's requests and records, and the match of a
candidate. -/

namespace Sys2Proof.Machine

open Sys2Proof

/-! ### No command changes the queue of commands -/

theorem takingOf_pending (c : Instr) (s : State) : (takingOf c s).2.2.pending = s.pending := by
  have hgate {take : State → Taken} (h : ∀ s, (take s).2.2.pending = s.pending) :
      (faultGate take s).2.2.pending = s.pending := by
    unfold faultGate
    split
    · rfl
    · exact h s
  cases c with
  | lock | readTable | stageRegion | setSlotMask | clearPending | applyTable | eraseRegion | cancelSweep | enroll
  | removeProfile | setOptions | selfTestCipher | selfTestCipherInject | selfTestMedia | wipeAll =>
    exact hgate (by simp)
  | _ => rfl

theorem takeSector_pending (x : Sector) (s : State) : (takeSector x s).2.2.pending = s.pending := by
  have hgate {take : State → Taken} (h : ∀ s, (take s).2.2.pending = s.pending) :
      (faultGate take s).2.2.pending = s.pending := by
    unfold faultGate
    split
    · rfl
    · exact h s
  generalize htake : takeSector x = take
  unfold takeSector at htake
  split at htake
  case h_1 | h_15 =>
    subst htake
    rfl
  case h_13 => split at htake <;> subst htake <;> exact hgate (by simp)
  all_goals
    subst htake
    exact hgate (by simp)

theorem windowRequest_pending {take : State → Taken} (h : ∀ s, (take s).2.2.pending = s.pending) (tag : Tag)
    (seq code : Byte) (s : State) : (windowRequest tag seq code take s).pending = s.pending := by
  unfold windowRequest respond
  split
  · rfl
  · dsimp only
    split
    · simp
    · simp [h]

theorem arrivalChecks_pending (kind : Byte) (tag : Tag) (start count : Nat) (x : Sector) (s : State) :
    (arrivalChecks kind tag start count x s).pending = s.pending := by
  have hwindow (k : Kind) : (windowAccess k tag start count x s).pending = s.pending := by
    unfold windowAccess windowSector respond
    split
    · split
      · simp [takeSector_pending]
      · rfl
    · split <;> rfl
  unfold arrivalChecks
  split
  · rfl
  · split
    · rfl
    · split
      · split
        · rfl
        · split
          · exact hwindow _
          · rfl
      · rfl

theorem pressAfter_pending (was now : Vector KeyState 12) (s : State) : (pressAfter was now s).pending = s.pending := by
  unfold pressAfter
  split <;> simp

/-- No command changes the queue of waiting commands. -/
theorem exec_pending {c : Instr} {s t : State} (h : exec c s = .next t) : t.pending = s.pending := by
  cases c with
  | status | lock | readTable | stageRegion | setSlotMask | clearPending | applyTable | eraseRegion | cancelSweep
  | enroll | removeProfile | setOptions | selfTestCipher | selfTestCipherInject | selfTestMedia | wipeAll
  | unknownRequest =>
    rw [exec_request rfl] at h
    obtain rfl := Host.Outcome.next.inj h
    exact windowRequest_pending (takingOf_pending _) ..
  | powerOn | powerLoss =>
    obtain rfl := Host.Outcome.next.inj h
    simp
  | frontRequestArrival =>
    obtain rfl := Host.Outcome.next.inj h
    split
    · simp [arrivalChecks_pending]
    · rfl
  | tagTimeout =>
    obtain rfl := Host.Outcome.next.inj h
    split
    · dsimp only
      split <;> simp
    · rfl
  | slotGrant =>
    obtain rfl := Host.Outcome.next.inj h
    split
    · split <;> simp
    · rfl
  | keypadScan =>
    obtain rfl := Host.Outcome.next.inj h
    split
    · exact pressAfter_pending ..
    · split
      · exact pressAfter_pending ..
      · rfl
  | entryTimerExpiry =>
    obtain rfl := Host.Outcome.next.inj h
    split
    · rfl
    · split
      · rfl
      · simp only [standbyCheck_frame]
        split <;> simp
  | patternStepExpiry =>
    obtain rfl := Host.Outcome.next.inj h
    split
    · split <;> simp
    · rfl
  | mediaReady | commitCompletion | inactivityExpiry | admission | backoffTimerExpiry =>
    obtain rfl := Host.Outcome.next.inj h
    split
    · rfl
    · split <;> simp
  | standbyIdleTimerExpiry =>
    obtain rfl := Host.Outcome.next.inj h
    split <;> simp [idleExpires]
  | _ =>
    obtain rfl := Host.Outcome.next.inj h
    split <;> simp

/-! ### Settings store -/

/-- With a commit in progress, or in FAULT, a request changes the queue alone (R193, R195). -/
theorem requestCommit_waits {s : State} (h : s.store.busy ≠ none ∨ s.ctl.drive = .fault) (r : RecordId)
    (ws : List Waiter) : requestCommit r ws s = { s with store.queue := enqueue r ws s.store.queue } := by
  have hwaits : s.ctl.drive = .fault ∨ s.store.busy.isSome = true := by
    rcases h with h | h
    · exact .inr (Option.isSome_iff_ne_none.mpr h)
    · exact .inl h
  exact if_pos hwaits

theorem enqueue_of_absent {r : RecordId} {ws : List Waiter} {q : List QueueEntry} (h : ∀ e ∈ q, e.record ≠ r) :
    enqueue r ws q = q ++ [⟨r, ws⟩] := by
  have hany : q.any (fun e => e.record == r) = false := by simpa using h
  simp [enqueue, hany]

/-- A request joins the one entry of its record. -/
theorem enqueue_of_queued {r : RecordId} {ws old : List Waiter} {before after : List QueueEntry}
    (h : ((before ++ ⟨r, old⟩ :: after).map QueueEntry.record).Nodup) :
    enqueue r ws (before ++ ⟨r, old⟩ :: after) = before ++ ⟨r, old ++ ws⟩ :: after := by
  have hkeep {l : List QueueEntry} (hl : ∀ e ∈ l, e.record ≠ r) :
      l.map (fun e => if e.record == r then ⟨e.record, e.waiters ++ ws⟩ else e) = l :=
    (List.map_congr_left (fun e he => if_neg (by simpa using hl e he))).trans (List.map_id'' (fun _ => rfl) l)
  rw [List.map_append, List.map_cons, List.nodup_append] at h
  obtain ⟨_, hcons, hdisjoint⟩ := h
  have hbefore : ∀ e ∈ before, e.record ≠ r := fun e he =>
    hdisjoint _ (List.mem_map_of_mem he) _ (List.mem_cons_self ..)
  have hafter : ∀ e ∈ after, e.record ≠ r := fun e he heq =>
    (List.nodup_cons.mp hcons).1 (List.mem_map.mpr ⟨e, he, heq⟩)
  have hany : (before ++ ⟨r, old⟩ :: after).any (fun e => e.record == r) = true := by simp
  rw [enqueue, if_pos hany, List.map_append, List.map_cons, hkeep hbefore, hkeep hafter, if_pos (beq_self_eq_true r)]

/-- One of two valid copies is current, as the counts say (R192). -/
theorem load_of_valid {α : Type} {law : α → Bool} {c : Copies α} (h : (c.valid law).1 = true ∨ (c.valid law).2 = true) :
    c.load law = some (if c.firstCurrent law then c.a.content else c.b.content) :=
  if_pos (by simpa using h)

/-- The current copy of a record that loads is valid. -/
theorem current_valid {α : Type} {law : α → Bool} {c : Copies α} {old : α} (h : c.load law = some old) :
    (c.firstCurrent law = true ∧ c.a.intact = true ∧ law c.a.content = true ∧ c.a.content = old) ∨
      (c.firstCurrent law = false ∧ c.b.intact = true ∧ law c.b.content = true ∧ c.b.content = old) := by
  unfold Copies.load at h
  split at h
  · next hv =>
    have h := Option.some.inj h
    unfold Copies.firstCurrent Copies.valid firstIsCurrent at *
    cases ha : c.a.intact && law c.a.content <;> cases hb : c.b.intact && law c.b.content <;>
      simp_all <;> cases hc : countHigher c.a.count c.b.count <;> simp_all
  · simp at h

theorem not_countHigher_succ (x : BitVec 32) : countHigher x (x + 1) = false := by
  simp [countHigher]

theorem countHigher_succ (x : BitVec 32) : countHigher (x + 1) x = true := by
  simp [countHigher]

/-- A commit that was not verified leaves the old copy current (R192). -/
theorem spoil_load {α : Type} {law : α → Bool} {c : Copies α} {old : α} (h : c.load law = some old) :
    (c.spoil law).load law = some old := by
  rcases current_valid h with ⟨hcur, hintact, hlaw, rfl⟩ | ⟨hcur, hintact, hlaw, rfl⟩
  · rw [show c.spoil law = { c with b := { c.b with intact := false } } from if_pos hcur]
    simp [Copies.load, Copies.valid, Copies.firstCurrent, firstIsCurrent, hintact, hlaw]
  · rw [show c.spoil law = { c with a := { c.a with intact := false } } from if_neg (by simp [hcur])]
    simp [Copies.load, Copies.valid, Copies.firstCurrent, firstIsCurrent, hintact, hlaw]

/-- A verified commit makes its content current (R192). -/
theorem commit_load {α : Type} {law : α → Bool} {c : Copies α} {old new : α} (h : c.load law = some old)
    (hnew : law new = true) : (c.commit law new).load law = some new := by
  rcases current_valid h with ⟨hcur, hintact, hlaw, rfl⟩ | ⟨hcur, hintact, hlaw, rfl⟩
  · rw [show c.commit law new = { c with b := ⟨new, true, c.a.count + 1⟩ } from if_pos hcur]
    simp [Copies.load, Copies.valid, Copies.firstCurrent, firstIsCurrent, hintact, hlaw, hnew]
    exact fun h => absurd h (Bool.eq_false_iff.mp (not_countHigher_succ _))
  · rw [show c.commit law new = { c with a := ⟨new, true, c.b.count + 1⟩ } from if_neg (by simp [hcur])]
    simp [Copies.load, Copies.valid, Copies.firstCurrent, firstIsCurrent, hintact, hlaw, hnew]
    exact fun h => absurd (countHigher_succ _) (Bool.eq_false_iff.mp h)

/-! ### Profiles -/

/-- A profile whose verifier is of its own salt accepts exactly its digits (R131, R132). -/
theorem accepts_iff {x : Profile} {d : List Digit} (hsalt : x.verifier.salt = x.salt)
    (hlen : x.pinLen = x.verifier.digits.length) : x.accepts d = true ↔ x.verifier.digits = d := by
  have hverifier : (⟨x.salt, d⟩ : Verifier) = x.verifier ↔ x.verifier.digits = d := by
    rw [← hsalt]
    constructor
    · rintro h
      rw [← h]
    · rintro rfl
      rfl
  simp only [Profile.accepts, Bool.and_eq_true, beq_iff_eq, hverifier, hlen]
  exact and_iff_right_of_imp (fun h => by rw [h])

end Sys2Proof.Machine

namespace Sys2Proof.Proofs

open Sys2Proof Sys2Proof.Machine

/-- Settles O1: a step is `exec` of the front command by definition, and every operation leaves the queue. -/
theorem stepRunsFrontCommand : Obligations.StepRunsFrontCommand :=
  ⟨fun _ _ _ => rfl, fun _ _ _ => exec_pending⟩

/-- Settles O2: a step with no command waiting is `tick`. -/
theorem idleStepPassesOneMillisecond : Obligations.IdleStepPassesOneMillisecond := by
  intro s hs
  have htag : tickTag = fun t =>
      match t with
      | .busy c => .busy { c with left := c.left - 1 }
      | t => t := by
    funext t
    cases t <;> rfl
  have hidle : tickIdle s.power.idle =
      match s.power.idle with
      | .running n => .running (n - 1)
      | .restarted => .running 19999
      | t => t := by
    cases s.power.idle <;> rfl
  have hstep : step s = .next (tick s) := by
    unfold step
    rw [hs]
  rw [hstep]
  unfold tick tickTimer tickPlayer
  rw [htag, hidle] <;> congr 2

/-- Settles O60, by evaluation: the reset state is concrete. -/
theorem resetMeetsInvariants : Obligations.ResetMeetsInvariants := by
  unfold Obligations.ResetMeetsInvariants
  refine ⟨?_, ?_, ?_, ?_, ?_, ?_, ?_, ?_, ?_, ?_, ?_, ?_, ?_, ?_, ?_⟩
  · simp [State.linksInv, State.reset, State.blank]
  · simp [State.keysInv, State.reset, State.blank]
  · simp [State.imageInv, State.reset, State.blank, flashWf, flashWfFrom]
  · simp [State.storeInv, State.reset, State.blank]
  · simp [State.gensInv, Store.mapSlots, State.reset, State.blank, Copies.delivered, MapRecord.delivered]
  · simp [State.namesInv, State.reset, State.blank]
  · simp [State.freshInv, Store.mapSlots, State.reset, State.blank, Copies.delivered, MapRecord.delivered]
  · simp [State.modeInv, State.reset, State.blank]
  · simp [State.profilesInv, State.reset, State.blank]
  · simp [State.slotsInv, State.reset, State.blank]
  · simp [State.tableInv, State.reset, State.blank, tableLaw]
  · simp [State.eraseInv, State.reset, State.blank, State.sweepStoring]
  · simp [State.sweepInv, State.reset, State.blank, State.sweepStoring, Copies.delivered, SweepRecord.delivered]
  · simp [State.sweepInside, State.reset, State.blank]
  · simp [State.reset, State.blank, Options.defaults]

/-- Settles O13: the request either finds the store idle, or changes the queue alone. -/
theorem commitRequestJoinsOrStarts : Obligations.CommitRequestJoinsOrStarts := by
  intro s r ws hnodup
  refine ⟨fun hbusy hqueue hdrive => ?_, fun hwaits habsent => ?_, fun before after old hwaits hqueue => ?_⟩
  · exact requestCommit_idle r ws hbusy hqueue hdrive
  · rw [requestCommit_waits hwaits, enqueue_of_absent habsent]
  · rw [requestCommit_waits hwaits, hqueue, enqueue_of_queued (hqueue ▸ hnodup)]

/-- Settles O39: the current copy is not the one a commit writes, and the copy written counts one above it. -/
theorem recordOldOrNew : Obligations.RecordOldOrNew :=
  fun _ _ _ _ _ h => ⟨spoil_load h, commit_load h⟩

/-- Settles O47: the match is the first profile that accepts, and a profile accepts exactly its digits. -/
theorem matchIsEqualDigits : Obligations.MatchIsEqualDigits := by
  intro profiles d hown
  refine ⟨fun p hp => ?_, fun hnone p x hx => ?_⟩
  · have hfound := List.find?_some hp
    simp only [bne_iff_ne, ne_eq, reduceCtorEq, not_false_eq_true, Bool.and_eq_true, true_and] at hfound
    split at hfound
    · next x hx =>
      obtain ⟨hsalt, hlen⟩ := hown p x hx
      exact ⟨x, hx, (accepts_iff hsalt hlen).mp hfound⟩
    · simp at hfound
  · have hnot := List.find?_eq_none.mp hnone p (List.mem_finRange p)
    obtain ⟨hsalt, hlen⟩ := hown p x hx
    rw [ne_eq, ← accepts_iff hsalt hlen]
    simpa [hx] using hnot

end Sys2Proof.Proofs
end

section
/-! SUPPORT. The contexts that go with the drive state and the profiles that are ACTIVE: what the operations of the lock
controller and of the credential unit make of them, and that every command keeps their laws. -/

namespace Sys2Proof.Machine

open Sys2Proof

/-- The fields that `modeInv` and `profilesInv` speak of; of a cipher test run, whether it is the start-up run. -/
structure Auth where
  drive    : DriveState
  profile  : Option ProfIx
  wipeStep : Option Nat
  eval     : Option Eval
  enroll   : Option Enroll
  profiles : Vector (Option Profile) 8
  removal  : Vector Bool 8
  startUp  : Bool

def State.auth (s : State) : Auth where
  drive := s.ctl.drive
  profile := s.ctl.openProfile
  wipeStep := s.ctl.wipeStep
  eval := s.cred.eval
  enroll := s.cred.enroll
  profiles := s.cred.profiles
  removal := s.cred.removal
  startUp := s.cipher.run.any (fun r => r.kind == .startUp)

/-- What both laws say of an enrollment. -/
def Auth.enrollOk (a : Auth) (e : Enroll) : Prop :=
  (a.drive = .enrolling ∨ e.step = .committing ∧ e.cancelled = true ∧ e.origin = .opened) ∧
    (e.step ≠ .committing → a.removal[e.target] = false) ∧
    (e.origin = .factory → a.profile = none ∧ e.target = 0 ∧ (e.step = .committing → a.profiles[(0 : ProfIx)] ≠ none))

/-- `modeInv` and `profilesInv` of these fields (R133, R134, R140, R144). -/
structure Auth.Ok (a : Auth) : Prop where
  opened   : a.profile ≠ none → a.drive = .opened ∨ a.drive = .enrolling
  eval     : a.eval ≠ none → a.drive = .evaluating
  startUp  : a.startUp = true → a.drive = .starting ∨ a.drive = .fault
  wiping   : a.wipeStep ≠ none → a.drive = .wiping
  active   : ∀ p : ProfIx, a.profile = some p → a.profiles[p] ≠ none
  matching : ∀ (p : ProfIx) (d : List Digit), a.eval = some ⟨d, .resetting p⟩ → a.profiles[p] ≠ none
  removal  : ∀ r : ProfIx, a.removal[r] = true → a.profiles[r] = none ∧ r ≠ 0
  enroll   : ∀ e, a.enroll = some e → a.enrollOk e

theorem State.auth_ok (s : State) : (s.modeInv ∧ s.profilesInv) ↔ s.auth.Ok := by
  have hrun : (∀ left, s.cipher.run = some ⟨.startUp, left⟩ → s.ctl.drive = .starting ∨ s.ctl.drive = .fault) ↔
      (s.auth.startUp = true → s.ctl.drive = .starting ∨ s.ctl.drive = .fault) := by
    cases hr : s.cipher.run with
    | none => simp [State.auth, hr]
    | some r =>
      obtain ⟨kind, left⟩ := r
      cases kind <;> simp [State.auth, hr]
  constructor
  · rintro ⟨⟨hopened, heval, henroll, hstart, hwipe⟩, hactive, hmatch, hremoval, htarget⟩
    exact ⟨hopened, heval, hrun.mp hstart, hwipe, hactive, hmatch, hremoval, fun e he =>
      ⟨(henroll e he).1, (htarget e he).1, fun ho => ⟨(henroll e he).2 ho, (htarget e he).2 ho⟩⟩⟩
  · rintro ⟨hopened, heval, hstart, hwipe, hactive, hmatch, hremoval, henroll⟩
    refine ⟨⟨hopened, heval, fun e he => ?_, hrun.mpr hstart, hwipe⟩, hactive, hmatch, hremoval, fun e he => ?_⟩
    · obtain ⟨hdrive, _, hfactory⟩ := henroll e he
      exact ⟨hdrive, fun ho => (hfactory ho).1⟩
    · obtain ⟨_, hopen, hfactory⟩ := henroll e he
      exact ⟨hopen, fun ho => (hfactory ho).2⟩

/-- Outside WIPING and OPEN, outside an enrollment and with no evaluation. -/
theorem Auth.Ok.calm {a : Auth} (h : a.Ok) (hd : a.drive ≠ .enrolling) {e : Enroll} (he : a.enroll = some e) :
    e.step = .committing ∧ e.cancelled = true ∧ e.origin = .opened :=
  ((h.enroll e he).1).resolve_left hd

theorem Auth.Ok.profile_none {a : Auth} (h : a.Ok) (ho : a.drive ≠ .opened) (he : a.drive ≠ .enrolling) :
    a.profile = none := by
  by_contra hp
  rcases h.opened hp with hd | hd
  · exact ho hd
  · exact he hd

theorem Auth.Ok.eval_none {a : Auth} (h : a.Ok) (hd : a.drive ≠ .evaluating) : a.eval = none := by
  by_contra he
  exact hd (h.eval he)

theorem Auth.Ok.wipeStep_none {a : Auth} (h : a.Ok) (hd : a.drive ≠ .wiping) : a.wipeStep = none := by
  by_contra he
  exact hd (h.wiping he)

theorem Auth.Ok.startUp_false {a : Auth} (h : a.Ok) (hs : a.drive ≠ .starting) (hf : a.drive ≠ .fault) :
    a.startUp = false := by
  by_contra he
  rcases h.startUp (by simpa using he) with hd | hd
  · exact hs hd
  · exact hf hd

/-! ### What the operations make of these fields -/

@[simp] theorem setDrive_ctl (d : DriveState) (s : State) : (setDrive d s).ctl = { s.ctl with drive := d } := by
  unfold setDrive
  simp


@[simp] theorem restartInactivity_auth (s : State) : (restartInactivity s).auth = s.auth := by
  unfold restartInactivity
  split <;> rfl

@[simp] theorem withdrawRaced_auth (s t : State) : (withdrawRaced s t).auth = t.auth := rfl

@[simp] theorem reportArrival_auth (s : State) : (reportArrival s).auth = s.auth := restartInactivity_auth s

@[simp] theorem standbyCheck_auth (s : State) : (standbyCheck s).auth = s.auth := by simp [State.auth]

/-- The drive state goes to one in which nothing but a cancelled enrollment stands. -/
theorem Auth.Ok.idle {a : Auth} (h : a.Ok) {d : DriveState} (ho : a.profile = none) (he : a.eval = none)
    (hw : a.wipeStep = none) (hs : a.startUp = false)
    (hn : ∀ e, a.enroll = some e → e.step = .committing ∧ e.cancelled = true ∧ e.origin = .opened) :
    Auth.Ok { a with drive := d } where
  opened hp := absurd ho hp
  eval hp := absurd he hp
  startUp hp := absurd (hs.symm.trans hp) (by simp)
  wiping hp := absurd hw hp
  active := h.active
  matching := h.matching
  removal := h.removal
  enroll e hen :=
    ⟨.inr (hn e hen), (h.enroll e hen).2.1, (h.enroll e hen).2.2⟩

/-- A change of drive state between two that hold no context. -/
theorem Auth.Ok.moved {a : Auth} (h : a.Ok) (d : DriveState) (ho : a.drive ≠ .opened) (hen : a.drive ≠ .enrolling)
    (hev : a.drive ≠ .evaluating) (hw : a.drive ≠ .wiping) (hs : a.drive ≠ .starting) (hf : a.drive ≠ .fault) :
    Auth.Ok { a with drive := d } :=
  h.idle (h.profile_none ho hen) (h.eval_none hev) (h.wipeStep_none hw) (h.startUp_false hs hf)
    (fun _ he => h.calm hen he)

/-- What a lock makes of an enrollment (R139, R163). -/
def lockedEnroll (o : Option Enroll) : Option Enroll :=
  o.bind (fun e =>
    if e.origin ≠ .opened then some e else if e.step = .committing then some { e with cancelled := true } else none)

theorem lockDrive_auth (s : State) : (lockDrive s).auth =
    { s.auth with drive := .locked, profile := none, enroll := lockedEnroll s.cred.enroll } := by
  unfold lockDrive cancelEnrollAtLock
  dsimp only [closeSlots]
  cases he : s.cred.enroll with
  | none => simp [State.auth, lockedEnroll, he]
  | some e =>
    dsimp only
    split
    · next ho => simp [State.auth, lockedEnroll, he, ho]
    · next ho =>
      split
      · next hc => simp [State.auth, lockedEnroll, ho, hc]
      · next hc => simp [State.auth, lockedEnroll, ho, hc]

theorem lockTrigger_ok {s : State} (h : s.auth.Ok) : (lockTrigger s).auth.Ok := by
  rcases lockTrigger_cases s with ⟨hlock, heq⟩ | ⟨_, heq⟩ <;> rw [heq]
  · rw [lockDrive_auth]
    have hdrive : s.auth.drive = .opened ∨ s.auth.drive = .enrolling ∧
        ∀ e, s.auth.enroll = some e → e.origin = .opened := by
      unfold State.lockable State.enrollingFrom at hlock
      simp only [Bool.or_eq_true, Bool.and_eq_true, beq_iff_eq] at hlock
      refine hlock.imp id (fun ⟨hd, ho⟩ => ⟨hd, fun e he => ?_⟩)
      have he : s.cred.enroll = some e := he
      simpa [he] using ho
    have horigin : ∀ e, s.auth.enroll = some e → e.origin = .opened := by
      rcases hdrive with hd | ⟨_, ho⟩
      · exact fun e he => (h.calm (by simp [hd]) he).2.2
      · exact ho
    have hother (d : DriveState) (h1 : d ≠ .opened) (h2 : d ≠ .enrolling) : s.auth.drive ≠ d := by
      rcases hdrive with hd | ⟨hd, _⟩ <;> rw [hd]
      · exact h1.symm
      · exact h2.symm
    refine Auth.Ok.idle (a := { s.auth with profile := none, enroll := lockedEnroll s.cred.enroll }) ?_ rfl
      (h.eval_none (hother _ (by simp) (by simp))) (h.wipeStep_none (hother _ (by simp) (by simp)))
      (h.startUp_false (hother _ (by simp) (by simp)) (hother _ (by simp) (by simp))) ?_
    · refine { h with opened := by simp, active := by simp, enroll := fun e he => ?_ }
      obtain ⟨f, hf, hfe⟩ := Option.bind_eq_some_iff.mp he
      have ho := horigin f hf
      obtain ⟨hd, hr, _⟩ := h.enroll f hf
      simp only [ho, ne_eq, not_true_eq_false, if_false, Option.ite_none_right_eq_some, Option.some.injEq] at hfe
      obtain ⟨hc, rfl⟩ := hfe
      exact ⟨hd.imp id (fun hd => ⟨hc, rfl, rfl⟩), hr, fun hfac => by simp at hfac⟩
    · intro e he
      obtain ⟨f, hf, hfe⟩ := Option.bind_eq_some_iff.mp he
      have ho := horigin f hf
      simp only [ho, ne_eq, not_true_eq_false, if_false, Option.ite_none_right_eq_some, Option.some.injEq] at hfe
      obtain ⟨hc, rfl⟩ := hfe
      exact ⟨hc, rfl, rfl⟩
  · exact h

/-- An entry into FAULT leaves no context (R170). -/
theorem enterFault_auth {s : State} (h : s.ctl.drive ≠ .fault) (c : FaultCause) : (enterFault c s).auth =
    { s.auth with drive := .fault, profile := none, wipeStep := none, eval := none, enroll := none } := by
  unfold enterFault
  rw [if_neg h]
  simp [State.auth]

theorem enterFault_ok {s : State} (h : s.auth.Ok) (c : FaultCause) : (enterFault c s).auth.Ok := by
  by_cases hf : s.ctl.drive = .fault
  · rwa [enterFault_of_fault hf]
  · rw [enterFault_auth hf]
    exact ⟨by simp, by simp, by simp, by simp, by simp, by simp, h.removal, by simp⟩

/-- The start of a wipe leaves none but its step (R166). -/
theorem startWipe_auth {s : State} (h : ¬ (s.ctl.drive = .fault ∨ s.ctl.drive = .wiping)) : (startWipe s).auth =
    { s.auth with drive := .wiping, profile := none, wipeStep := some 1, eval := none, enroll := none } := by
  have hcred (t : State) : (cancelEnrollAtWipe t).cred.enroll = none ∧ (cancelEnrollAtWipe t).cred.eval = t.cred.eval ∧
      (cancelEnrollAtWipe t).cred.removal = t.cred.removal := by
    unfold cancelEnrollAtWipe
    split
    · exact ⟨rfl, rfl, rfl⟩
    · next h => exact ⟨by simpa using h, rfl, rfl⟩
  unfold startWipe
  rw [if_neg h]
  simp [State.auth, hcred]

theorem startWipe_ok {s : State} (h : s.auth.Ok) (hs : s.auth.startUp = false) : (startWipe s).auth.Ok := by
  by_cases hf : s.ctl.drive = .fault ∨ s.ctl.drive = .wiping
  · rwa [startWipe_of_fault hf]
  · rw [startWipe_auth hf]
    exact ⟨by simp, by simp, by simp [hs], by simp, by simp, by simp, h.removal, by simp⟩

/-- An opening leaves the profile open (R157). -/
theorem openDrive_auth {s : State} (h : ¬ (s.ctl.drive = .fault ∨ s.ctl.drive = .wiping)) (p : ProfIx) (accept : Bool) :
    (openDrive p accept s).auth = { s.auth with drive := .opened, profile := some p } := by
  unfold openDrive
  rw [if_neg h]
  by_cases ha : s.ctl.attached = true <;> cases accept <;> simp [State.auth, openSlots, startInactivity, ha]

/-- A profile is opened from a state that holds no context. -/
theorem openDrive_ok {s : State} (h : s.auth.Ok) (he : s.cred.eval = none) (hs : s.auth.startUp = false)
    (hn : ∀ e, s.cred.enroll = some e → e.step = .committing ∧ e.cancelled = true ∧ e.origin = .opened)
    {p : ProfIx} (hp : s.cred.profiles[p] ≠ none) (accept : Bool) : (openDrive p accept s).auth.Ok := by
  by_cases hf : s.ctl.drive = .fault ∨ s.ctl.drive = .wiping
  · rwa [openDrive_of_fault hf]
  · rw [openDrive_auth hf]
    refine ⟨by simp, fun hev => absurd he hev, by simp [hs], fun hw => absurd (.inr (h.wiping hw)) hf, ?_, h.matching,
      h.removal, fun e hen => ⟨.inr (hn e hen), (h.enroll e hen).2.1, fun ho => ?_⟩⟩
    · rintro q ⟨rfl⟩
      exact hp
    · simp [(hn e hen).2.2] at ho

theorem startEnroll_auth (p : ProfIx) (k : ProfileKind) (o : Origin) (x : EnrollStep) (s : State) :
    (startEnroll p k o x s).auth =
      { s.auth with drive := .enrolling, enroll := some ⟨p, k, o, x, [], false, false, false⟩ } := by
  simp [State.auth, startEnroll]

/-- An enrollment begins from a state with no evaluation, no wipe and no start-up run (R133, R134). -/
theorem startEnroll_ok {s : State} (h : s.auth.Ok) {p : ProfIx} (k : ProfileKind) {o : Origin} {x : EnrollStep}
    (hev : s.auth.drive ≠ .evaluating) (hw : s.auth.drive ≠ .wiping) (hst : s.auth.drive ≠ .starting)
    (hf : s.auth.drive ≠ .fault) (hr : s.cred.removal[p] = false) (hx : x ≠ .committing)
    (ho : o = .factory → s.ctl.openProfile = none ∧ p = 0) : (startEnroll p k o x s).auth.Ok := by
  rw [startEnroll_auth]
  refine ⟨fun _ => .inr rfl, fun he => absurd (h.eval_none hev) he,
    fun hs => absurd ((h.startUp_false hst hf).symm.trans hs) (by simp), fun hs => absurd (h.wipeStep_none hw) hs,
    h.active, h.matching, h.removal, ?_⟩
  rintro e ⟨rfl⟩
  exact ⟨.inl rfl, fun _ => hr, fun hfac => ⟨(ho hfac).1, (ho hfac).2, fun hc => absurd hc hx⟩⟩

theorem failEnroll_auth (e : Enroll) (r : EnrollResult) (s : State) : (failEnroll e r s).auth =
    { s.auth with drive := e.origin.drive, enroll := none } := by
  simp [State.auth, failEnroll]

/-- The end of an enrollment, in OPEN or outside it. -/
theorem Auth.Ok.enrollEnds {a : Auth} (h : a.Ok) (hd : a.drive = .enrolling) {d : DriveState}
    (hprofile : d = .opened ∨ a.profile = none) : Auth.Ok { a with drive := d, enroll := none } where
  opened hp := .inl (hprofile.resolve_right hp)
  eval he := absurd (h.eval_none (by simp [hd])) he
  startUp hs := absurd ((h.startUp_false (by simp [hd]) (by simp [hd])).symm.trans hs) (by simp)
  wiping hw := absurd (h.wipeStep_none (by simp [hd])) hw
  active := h.active
  matching := h.matching
  removal := h.removal
  enroll := by simp

theorem failEnroll_ok {s : State} (h : s.auth.Ok) {e : Enroll} (he : s.cred.enroll = some e)
    (hd : s.ctl.drive = .enrolling) (r : EnrollResult) : (failEnroll e r s).auth.Ok := by
  rw [failEnroll_auth]
  refine h.enrollEnds hd ?_
  cases ho : e.origin with
  | opened => exact .inl rfl
  | factory => exact .inr ((h.enroll e he).2.2 ho).1

/-- A step of an enrollment, short of COMMITTING. -/
theorem Auth.Ok.enrollStep {a : Auth} (h : a.Ok) {e f : Enroll} (he : a.enroll = some e) (hd : a.drive = .enrolling)
    (ht : f.target = e.target) (ho : f.origin = e.origin) (hs : e.step ≠ .committing) (hf : f.step ≠ .committing) :
    Auth.Ok { a with enroll := some f } := by
  obtain ⟨_, hr, hfac⟩ := h.enroll e he
  refine { h with enroll := ?_ }
  rintro g ⟨rfl⟩
  refine ⟨.inl hd, fun _ => ?_, fun hg => ?_⟩
  · simpa only [ht] using hr hs
  · exact ⟨(hfac (ho ▸ hg)).1, ht.trans (hfac (ho ▸ hg)).2.1, fun hc => absurd hc hf⟩

/-- A change of an enrollment in COMMITTING that keeps its target and origin and does not revoke its cancellation. -/
theorem Auth.Ok.enrollNotes {a : Auth} (h : a.Ok) {e f : Enroll} (he : a.enroll = some e) (ht : f.target = e.target)
    (ho : f.origin = e.origin) (hc : e.cancelled = true → f.cancelled = true) (hs : e.step = .committing)
    (hf : f.step = .committing) : Auth.Ok { a with enroll := some f } := by
  obtain ⟨hdrive, _, hfac⟩ := h.enroll e he
  refine { h with enroll := ?_ }
  rintro g ⟨rfl⟩
  refine ⟨hdrive.imp id (fun hd => ⟨hf, hc hd.2.1, ho.trans hd.2.2⟩), fun hn => absurd hf hn, fun hg => ?_⟩
  exact ⟨(hfac (ho ▸ hg)).1, ht.trans (hfac (ho ▸ hg)).2.1, fun _ => (hfac (ho ▸ hg)).2.2 hs⟩

theorem firstEntry_ok {s : State} (h : s.auth.Ok) {e : Enroll} (he : s.cred.enroll = some e)
    (hd : s.ctl.drive = .enrolling) (hs : e.step ≠ .committing) (digits : List Digit) :
    (firstEntry e digits s).auth.Ok := by
  unfold firstEntry
  split
  · exact failEnroll_ok h he hd .short
  · have := h.enrollStep (f := { e with step := .waitSecond, first := digits }) he hd rfl rfl hs (by simp)
    simpa [State.auth] using this

theorem secondEntry_ok {s : State} (h : s.auth.Ok) {e : Enroll} (he : s.cred.enroll = some e)
    (hd : s.ctl.drive = .enrolling) (hs : e.step ≠ .committing) (digits : List Digit) :
    (secondEntry e digits s).auth.Ok := by
  unfold secondEntry
  split
  · exact failEnroll_ok h he hd .mismatch
  · split
    · exact failEnroll_ok h he hd .noMedia
    · exact h.enrollStep (f := { e with step := .testing }) he hd rfl rfl hs (by simp)

/-- The record becomes ACTIVE, and the enrollment waits for its commits (R137). -/
theorem succeedEnroll_auth (e : Enroll) (digits : List Digit) (s : State) : (succeedEnroll e digits s).auth =
    { s.auth with
      profiles := s.cred.profiles.set e.target
        (some ⟨e.kind, digits.length, s.counters.salts, ⟨s.counters.salts, digits⟩⟩)
      enroll := some { e with step := .committing, first := [], mapDone := e.origin == .opened } } := by
  unfold succeedEnroll
  dsimp only
  split <;> simp [State.auth]

theorem succeedEnroll_ok {s : State} (h : s.auth.Ok) {e : Enroll} (he : s.cred.enroll = some e)
    (hd : s.ctl.drive = .enrolling) (hs : e.step ≠ .committing) (digits : List Digit) :
    (succeedEnroll e digits s).auth.Ok := by
  rw [succeedEnroll_auth]
  obtain ⟨_, hr, hfac⟩ := h.enroll e he
  have hactive {p : ProfIx} {x : Profile} (hp : s.cred.profiles[p] ≠ none) :
      (s.cred.profiles.set e.target (some x))[p] ≠ none := by
    simp only [Fin.getElem_fin, Vector.getElem_set]
    split
    · simp
    · exact hp
  refine ⟨h.opened, h.eval, h.startUp, h.wiping, fun p hp => hactive (h.active p hp),
    fun p d hp => hactive (h.matching p d hp), fun r hremoval => ⟨?_, (h.removal r hremoval).2⟩, ?_⟩
  · have hne : e.target ≠ r := fun heq => by
      have hfalse := hr hs
      simp only [heq] at hfalse
      exact absurd (hfalse.symm.trans hremoval) (by simp)
    have hnone : s.cred.profiles[r] = none := (h.removal r hremoval).1
    simpa [Vector.getElem_set, Fin.val_ne_of_ne hne] using hnone
  · rintro f ⟨rfl⟩
    refine ⟨.inl hd, fun hc => absurd rfl hc, fun ho => ?_⟩
    obtain ⟨hp, ht, _⟩ := hfac ho
    exact ⟨hp, ht, fun _ => by simp [ht]⟩

theorem duplicateResult_ok {s : State} (h : s.auth.Ok) {e : Enroll} (he : s.cred.enroll = some e)
    (hd : s.ctl.drive = .enrolling) (hs : e.step ≠ .committing) (digits : List Digit) :
    (duplicateResult e digits s).auth.Ok := by
  unfold duplicateResult
  split
  · exact failEnroll_ok h he hd .duplicate
  · split
    · exact failEnroll_ok h he hd .noMedia
    · exact succeedEnroll_ok h he hd hs digits

/-- The matching profile is ACTIVE (R132). -/
theorem matchProfile_active {profiles : Vector (Option Profile) 8} {out : Option ProfIx} {d : List Digit} {p : ProfIx}
    (h : matchProfile profiles out d = some p) : profiles[p] ≠ none := by
  have hfound := List.find?_some h
  intro hnone
  simp [hnone] at hfound

theorem evaluationResult_ok {s : State} (h : s.auth.Ok) (he : s.cred.eval ≠ none) (digits : List Digit) :
    (evaluationResult digits s).auth.Ok := by
  have hdrive : s.auth.drive = .evaluating := h.eval he
  have hnone : Auth.Ok { s.auth with eval := none } := { h with eval := by simp, matching := by simp }
  have hstart : s.auth.startUp = false := h.startUp_false (by simp [hdrive]) (by simp [hdrive])
  have hidle (d : DriveState) : Auth.Ok { s.auth with eval := none, drive := d } :=
    hnone.idle (h.profile_none (by simp [hdrive]) (by simp [hdrive])) rfl (h.wipeStep_none (by simp [hdrive])) hstart
      (fun _ hen => h.calm (by simp [hdrive]) hen)
  unfold evaluationResult
  split
  · next p hp =>
    split
    · exact startWipe_ok (s := { s with cred.eval := none }) hnone hstart
    · have hmatch : Auth.Ok { s.auth with eval := some ⟨[], .resetting p⟩ } := by
        refine { h with eval := fun _ => hdrive, matching := ?_ }
        intro q d hq
        obtain ⟨rfl⟩ : p = q := by simpa using (congrArg Eval.phase (Option.some.inj hq))
        exact matchProfile_active hp
      simpa [State.auth] using hmatch
  · dsimp only
    split
    · exact startWipe_ok (s := { s with cred.eval := none }) hnone hstart
    · split
      · simpa [State.auth, enterBackoff] using hidle .backoff
      · simpa [State.auth] using hidle .locked

theorem comparisonEnds_ok {s : State} (h : s.auth.Ok) (c : Comparison) : (comparisonEnds c s).auth.Ok := by
  unfold comparisonEnds
  split
  · split
    · next e he =>
      split
      · exact evaluationResult_ok h (by simp [he]) c.digits
      · exact h
    · exact h
  · split
    · next e he =>
      split
      · next hs =>
        have hdrive := (h.enroll e he).1.resolve_right (by simp [hs])
        exact duplicateResult_ok h he hdrive (by simp [hs]) c.digits
      · exact h
    · exact h

/-! ### Keys -/

theorem keyFactory_ok {s : State} (h : s.auth.Ok) (hd : s.ctl.drive = .factory) (k : Key) :
    (keyFactory k s).auth.Ok := by
  have hdrive : s.auth.drive = .factory := hd
  have hzero : s.cred.removal[(0 : ProfIx)] = false := by
    by_contra hr
    exact (h.removal 0 (Bool.eq_true_of_not_eq_false hr)).2 rfl
  unfold keyFactory
  split
  · split
    · simpa [State.auth] using h
    · split
      · simpa [State.auth] using h
      · have := startEnroll_ok h .admin (o := .factory) (x := .first) (by simp [hdrive]) (by simp [hdrive])
          (by simp [hdrive]) (by simp [hdrive]) hzero (by simp)
          (fun _ => ⟨h.profile_none (by simp [hdrive]) (by simp [hdrive]), rfl⟩)
        simpa [State.auth] using this
  · exact h

theorem keyLocked_ok {s : State} (h : s.auth.Ok) (hd : s.ctl.drive = .locked) (k : Key) : (keyLocked k s).auth.Ok := by
  have hdrive : s.auth.drive = .locked := hd
  unfold keyLocked
  split
  · have := h.moved .entry (by simp [hdrive]) (by simp [hdrive]) (by simp [hdrive]) (by simp [hdrive])
      (by simp [hdrive]) (by simp [hdrive])
    simpa [State.auth] using this
  · exact h

theorem keyEntry_ok {s : State} (h : s.auth.Ok) (hd : s.ctl.drive = .entry) (k : Key) : (keyEntry k s).auth.Ok := by
  have hdrive : s.auth.drive = .entry := hd
  have hmoved (d : DriveState) := h.moved d (by simp [hdrive]) (by simp [hdrive]) (by simp [hdrive]) (by simp [hdrive])
    (by simp [hdrive]) (by simp [hdrive])
  have hevaluating (d : List Digit) :
      Auth.Ok { s.auth with drive := .evaluating, eval := some ⟨d, .counting⟩ } :=
    { hmoved .evaluating with eval := fun _ => rfl, matching := by simp }
  unfold keyEntry
  split
  · split
    · simpa [State.auth] using h
    · simpa [State.auth] using hmoved .locked
  · simpa [State.auth] using hmoved .locked
  · split
    · simpa [State.auth] using hmoved .locked
    · simpa [State.auth, startEvaluation] using hevaluating _

theorem cancelFactoryEnroll_ok {s : State} (h : s.auth.Ok) {e : Enroll} (he : s.cred.enroll = some e)
    (hd : s.ctl.drive = .enrolling) (ho : e.origin = .factory) : (cancelFactoryEnroll e s).auth.Ok := by
  unfold cancelFactoryEnroll
  split
  · next hs => exact h.enrollNotes (f := { e with cancelled := true }) he rfl rfl (fun _ => rfl) hs hs
  · have := h.enrollEnds hd (d := .factory) (.inr ((h.enroll e he).2.2 ho).1)
    simpa [State.auth] using this

theorem enrollKey_ok {s : State} (h : s.auth.Ok) {e : Enroll} (he : s.cred.enroll = some e)
    (hd : s.ctl.drive = .enrolling) {k : Key} (hk : enrollAccepts e k s = true) : (enrollKey e k s).auth.Ok := by
  unfold enrollKey
  split
  · unfold enrollOpen
    split
    · unfold handOn
      split
      · next hs =>
        exact firstEntry_ok (s := endCollection s) (by simpa [State.auth] using h) (by simpa using he)
            (by simpa using hd)
          (by simp [hs]) _
      · next hs =>
        exact secondEntry_ok (s := endCollection s) (by simpa [State.auth] using h) (by simpa using he)
          (by simpa using hd) (by simp [hs]) _
      · simpa [State.auth] using h
    · next hphase =>
      split
      · next hs => exact h.enrollStep (f := { e with step := .first }) he hd rfl rfl (by simp [hs]) (by simp)
      · next hs =>
        have hsecond : e.step = .waitSecond := by simpa [enrollAccepts, hphase, hs] using hk
        exact h.enrollStep (f := { e with step := .second }) he hd rfl rfl (by simp [hsecond]) (by simp)
  · unfold enrollDigit
    split
    · simpa [State.auth] using h
    · exact failEnroll_ok h he hd .overflow
  · unfold cancelEnroll
    split
    · exact lockTrigger_ok h
    · next ho => exact cancelFactoryEnroll_ok h he hd ho

theorem keyEnrolling_ok {s : State} (h : s.auth.Ok) (hd : s.ctl.drive = .enrolling) (k : Key) :
    (keyEnrolling k s).auth.Ok := by
  unfold keyEnrolling
  split
  · exact h
  · next e he =>
    split
    · next hk =>
      split
      · refine enrollKey_ok (s := restartInactivity s) ((restartInactivity_auth s).symm ▸ h) (by simpa using he)
            (by simpa using hd) ?_
        simpa [enrollAccepts] using hk
      · exact enrollKey_ok h he hd hk
    · exact h

theorem keyPress_ok {s : State} (h : s.auth.Ok) (k : Key) : (keyPress k s).auth.Ok := by
  unfold keyPress
  split
  · next hd => exact keyFactory_ok h hd k
  · next hd => exact keyLocked_ok h hd k
  · next hd => exact keyEntry_ok h hd k
  · unfold keyOpened
    split
    · exact lockTrigger_ok ((restartInactivity_auth s).symm ▸ h)
    · exact h
  · next hd => exact keyEnrolling_ok h hd k
  all_goals exact h

theorem pressAfter_ok {s : State} (h : s.auth.Ok) (was now : Vector KeyState 12) : (pressAfter was now s).auth.Ok := by
  have hpress (i : KeyIx) : (press i s).auth =
      (keyPress (keyAt i) { s with power.idle := idleAtPress s.power.idle }).auth := by
    rw [press, standbyCheck_auth, withdrawRaced_auth]
  unfold pressAfter
  split
  · rw [hpress]
    exact keyPress_ok (s := { s with power.idle := idleAtPress s.power.idle }) h _
  · exact h

end Sys2Proof.Machine
end

section
/-! SUPPORT. Every step keeps the laws of the contexts, of the profiles and of the key slots (R67, R133, R134, R140,
R144). -/

namespace Sys2Proof.Machine

open Sys2Proof

/-! ### Requests -/

theorem takeLock_ok {s : State} (h : s.auth.Ok) : (takeLock s).2.2.auth.Ok := by
  unfold takeLock
  split
  · exact h
  · next hd =>
    have hdrive : s.auth.drive = .entry := hd
    have := h.moved .locked (by simp [hdrive]) (by simp [hdrive]) (by simp [hdrive]) (by simp [hdrive])
      (by simp [hdrive]) (by simp [hdrive])
    simpa [answer, State.auth] using this
  · show (standbyCheck (lockTrigger s)).auth.Ok
    rw [standbyCheck_auth]
    exact lockTrigger_ok h

/-- With admin open, a profile is open, and the drive is OPEN or in an enrollment. -/
theorem drive_of_adminOpen {s : State} (h : s.auth.Ok) (ha : s.adminOpen = true) :
    s.auth.drive = .opened ∨ s.auth.drive = .enrolling := by
  have hp : s.ctl.openProfile = some 0 := by simpa [State.adminOpen] using ha
  exact h.opened (by simp [State.auth, hp])

theorem takeEnroll_ok {s : State} (h : s.auth.Ok) (slot kind : Byte) : (takeEnroll slot kind s).2.2.auth.Ok := by
  unfold takeEnroll
  split
  · exact h
  · next ha =>
    split
    · exact h
    · next hne =>
      have hdrive : s.auth.drive = .opened := (drive_of_adminOpen h (by simpa using ha)).resolve_right hne
      split
      · next p k _ _ =>
        split
        · exact h
        · split
          · exact h
          · split
            · exact h
            · next hr =>
              refine startEnroll_ok h k (by simp [hdrive]) (by simp [hdrive]) (by simp [hdrive]) (by simp [hdrive]) ?_
                (by simp) (by simp)
              by_contra hremoval
              have hremoval := Bool.eq_true_of_not_eq_false hremoval
              exact hr ⟨(h.removal p hremoval).2, hremoval⟩
      · exact h

theorem takeRemoveProfile_ok {s : State} (h : s.auth.Ok) (slot : Byte) : (takeRemoveProfile slot s).2.2.auth.Ok := by
  unfold takeRemoveProfile
  split
  · exact h
  · next ha =>
    split
    · exact h
    · next hne =>
      have hdrive : s.auth.drive = .opened := (drive_of_adminOpen h (by simpa using ha)).resolve_right hne
      have hopen : s.ctl.openProfile = some 0 := by simpa [State.adminOpen] using ha
      split
      · exact h
      · next r _ =>
        split
        · exact h
        · next hr =>
          split
          · exact h
          · have hr0 : r ≠ 0 := fun h0 => hr (.inl h0)
            have hkept {p : ProfIx} (hp : r ≠ p) :
                (s.cred.profiles.set r none)[p] = s.cred.profiles[p] := by
              simp [Vector.getElem_set, Fin.val_ne_of_ne hp]
            have hremoved : Auth.Ok { s.auth with
                profiles := s.cred.profiles.set r none, removal := s.cred.removal.set r true } := by
              refine { h with
                active := ?_, matching := fun p d hp => ?_, removal := fun p hp => ?_, enroll := fun e he => ?_ }
              · intro p hp
                obtain rfl : 0 = p := Option.some.inj (hopen.symm.trans hp)
                simp only [hkept hr0]
                exact h.active 0 hopen
              · exact absurd hp (by simp [h.eval_none (by simp [hdrive])])
              · by_cases hpr : r = p
                · subst hpr
                  exact ⟨by simp, hr0⟩
                · have hp' : s.auth.removal[p] = true := by
                    simpa [State.auth, Vector.getElem_set, Fin.val_ne_of_ne hpr] using hp
                  exact ⟨(hkept hpr).trans (h.removal p hp').1, (h.removal p hp').2⟩
              · obtain ⟨hc, hcan, ho⟩ := h.calm (by simp [hdrive]) he
                exact ⟨.inr ⟨hc, hcan, ho⟩, fun hn => absurd hc hn, fun hf => by simp [ho] at hf⟩
            simpa [answer, State.auth] using hremoved

theorem takeSelfTestCipher_ok {s : State} (h : s.auth.Ok) {k : RunKind} (hk : k ≠ .startUp) :
    (takeSelfTestCipher k s).2.2.auth.Ok := by
  unfold takeSelfTestCipher
  split
  · exact h
  · split
    · exact h
    · have : Auth.Ok { s.auth with startUp := false } := { h with startUp := by simp }
      simpa [answer, State.auth, beq_false_of_ne hk] using this

theorem takeWipeAll_ok {s : State} (h : s.auth.Ok) : (takeWipeAll s).2.2.auth.Ok := by
  unfold takeWipeAll
  split
  · next ha =>
    refine startWipe_ok h (h.startUp_false ?_ ?_) <;> rcases drive_of_adminOpen h ha with hd | hd <;> simp [hd]
  · exact h

theorem faultGate_ok {take : State → Taken} (h : ∀ {s : State}, s.auth.Ok → (take s).2.2.auth.Ok) {s : State}
    (hs : s.auth.Ok) : (faultGate take s).2.2.auth.Ok := by
  unfold faultGate
  split
  · exact hs
  · exact h hs

/-- A taking that leaves the contexts and the profiles. -/
theorem faultGate_kept {take : State → Taken} (h : ∀ s : State, (take s).2.2.auth = s.auth) {s : State}
    (hs : s.auth.Ok) : (faultGate take s).2.2.auth.Ok :=
  faultGate_ok (fun {s} hs => (h s).symm ▸ hs) hs

theorem takingOf_ok (c : Instr) {s : State} (h : s.auth.Ok) : (takingOf c s).2.2.auth.Ok := by
  cases c with
  | readTable | stageRegion | setSlotMask | clearPending | applyTable | eraseRegion | cancelSweep | setOptions
  | selfTestMedia => exact faultGate_kept (by simp [State.auth]) h
  | lock => exact faultGate_ok takeLock_ok h
  | enroll => exact faultGate_ok (fun h => takeEnroll_ok h _ _) h
  | removeProfile => exact faultGate_ok (fun h => takeRemoveProfile_ok h _) h
  | selfTestCipher | selfTestCipherInject => exact faultGate_ok (fun h => takeSelfTestCipher_ok h (by simp)) h
  | wipeAll => exact faultGate_ok takeWipeAll_ok h
  | _ => exact h

theorem takeSector_ok (x : Sector) {s : State} (h : s.auth.Ok) : (takeSector x s).2.2.auth.Ok := by
  generalize htake : takeSector x = take
  unfold takeSector at htake
  split at htake
  case h_13 =>
    split at htake <;> subst htake
    · exact faultGate_ok (fun h => takeSelfTestCipher_ok h (by simp)) h
    · exact faultGate_ok (fun h => takeSelfTestCipher_ok h (by simp)) h
    · exact faultGate_kept (by simp [State.auth]) h
    · exact faultGate_kept (fun _ => rfl) h
  case h_2 => exact htake ▸ faultGate_ok takeLock_ok h
  case h_10 => exact htake ▸ faultGate_ok (fun h => takeEnroll_ok h _ _) h
  case h_11 => exact htake ▸ faultGate_ok (fun h => takeRemoveProfile_ok h _) h
  case h_14 => exact htake ▸ faultGate_ok takeWipeAll_ok h
  case h_1 | h_15 => exact htake ▸ h
  all_goals exact htake ▸ faultGate_kept (by simp [State.auth]) h

theorem windowRequest_ok {take : State → Taken} (h : ∀ {s : State}, s.auth.Ok → (take s).2.2.auth.Ok) (tag : Tag)
    (seq code : Byte) {s : State} (hs : s.auth.Ok) : (windowRequest tag seq code take s).auth.Ok := by
  have harrived : (reportArrival s).auth.Ok := (reportArrival_auth s).symm ▸ hs
  unfold windowRequest
  split
  · exact hs
  · dsimp only
    split
    · exact harrived
    · exact h harrived

theorem arrivalChecks_ok (kind : Byte) (tag : Tag) (start count : Nat) (x : Sector) {s : State} (h : s.auth.Ok) :
    (arrivalChecks kind tag start count x s).auth.Ok := by
  unfold arrivalChecks
  split
  · exact h
  · split
    · exact h
    · split
      · split
        · exact h
        · split
          · unfold windowAccess windowSector
            split
            · split
              · exact takeSector_ok x h
              · exact h
            · split <;> exact h
          · exact h
      · exact h

/-! ### Media link -/

theorem sizeResult_ok (ok : Bool) (span : Nat) {s : State} (h : s.auth.Ok) : (sizeResult ok span s).auth.Ok := by
  unfold sizeResult
  split
  · simpa [State.auth] using h
  · split
    · simpa [State.auth] using h
    · have hfault := enterFault_ok (s := { s with media.state := .notReady, media.capacity := none }) h .mediaSmall
      simpa [State.auth] using hfault

theorem deliverResult_ok (c : Command) (ok : Bool) (span : Nat) (data : List Content) {s : State} (h : s.auth.Ok) :
    (deliverResult c ok span data s).auth.Ok := by
  have himage : (imageResult c ok s).auth.Ok := by simpa [State.auth] using h
  unfold deliverResult
  dsimp only
  split
  · simpa [State.auth] using h
  · simpa [State.auth] using h
  · simpa [State.auth] using h
  · exact sizeResult_ok ok span himage

theorem failAll_ok (l : List Command) {s : State} (h : s.auth.Ok) : (failAll l s).auth.Ok := by
  unfold failAll
  induction l generalizing s with
  | nil => exact h
  | cons c l ih => exact ih (deliverResult_ok c false 0 [] h)

/-! ### The opening of a profile and the clearing of mask bits, on the slots -/

/-- The slots of a state obey R67 once a profile is opened from none (R68). -/
theorem openSlots_ok {p : ProfIx} {k : KeySlot} (h : k.ok none) :
    KeySlot.ok (some p) (if k.state = .closed ∧ maskHas k.mask p then { k with state := .opened } else k) := by
  obtain ⟨hempty, hopened⟩ := h
  have hnot : k.state ≠ .opened := by simpa using hopened
  cases hs : k.state with
  | opened => exact absurd hs hnot
  | empty =>
    have hkey := hempty.mp hs
    simp [KeySlot.ok, hs, hkey]
  | closed =>
    have hkey : k.key ≠ none := fun h => by simpa [hs] using hempty.mpr h
    cases hm : maskHas k.mask p <;> simp_all [KeySlot.ok, maskHas]

theorem openDrive_slots {s : State} (h : s.core.slotsOk) (hp : s.ctl.openProfile = none) (p : ProfIx) (accept : Bool) :
    (openDrive p accept s).core.slotsOk := by
  by_cases hf : s.ctl.drive = .fault ∨ s.ctl.drive = .wiping
  · rwa [openDrive_of_fault hf]
  · have hcore : (openDrive p accept s).core = (openSlots p { s with ctl.openProfile := some p }).core := by
      unfold openDrive
      rw [if_neg hf]
      by_cases ha : s.ctl.attached = true <;> cases accept <;> simp [State.core, openSlots, startInactivity, ha]
    rw [hcore]
    refine ⟨fun e he k hk => ?_, fun k => ?_⟩
    · have hkey := h.1 e he k hk
      simp only [State.core, openSlots, Fin.getElem_fin, Vector.getElem_map] at hkey ⊢
      split <;> exact hkey
    · have hslot : s.cipher.slots[k].ok none := hp ▸ h.2 k
      simp only [State.core, openSlots, Fin.getElem_fin, Vector.getElem_map]
      exact openSlots_ok hslot

/-- A clearing of mask bits that leaves the open profile's keeps the law of R67. -/
theorem slotMasks_slots {s : State} (h : s.core.slotsOk) {f : Byte → Byte}
    (hf : ∀ (r : ProfIx) (m : Byte), s.ctl.openProfile = some r → (f m).getLsbD r.val = m.getLsbD r.val) :
    ({ s with cipher.slots := s.cipher.slots.map (fun k => { k with mask := f k.mask }) } : State).core.slotsOk := by
  refine ⟨fun e he k hk => ?_, fun k => ?_⟩
  · have hkey := h.1 e he k hk
    simpa [State.core] using hkey
  · obtain ⟨hempty, hopened⟩ : s.cipher.slots[k].ok s.ctl.openProfile := h.2 k
    simp only [State.core, Fin.getElem_fin, Vector.getElem_map]
    refine ⟨hempty, hopened.trans (and_congr_right (fun _ => exists_congr (fun r => and_congr_right (fun hr => ?_))))⟩
    rw [hf r _ hr]
    rfl

theorem maskClear_getLsbD {m : Byte} {p r : Fin 8} (h : p ≠ r) : (maskClear m p).getLsbD r.val = m.getLsbD r.val := by
  have hbit : (maskOf p).getLsbD r.val = false := by
    rw [maskOf, BitVec.getLsbD_ofNat, Nat.testBit_two_pow_of_ne (Fin.val_ne_of_ne h), Bool.and_false]
  rw [maskClear, BitVec.getLsbD_and, BitVec.getLsbD_not, hbit]
  simp [r.isLt]

/-! ### Commits -/

/-- The contexts, the profiles and the key slots obey their laws. -/
structure State.Lawful (s : State) : Prop where
  auth  : s.auth.Ok
  slots : s.core.slotsOk

theorem State.Lawful.leads {s t : State} (h : s.Lawful) (hst : s.leads t) (ha : t.auth.Ok) : t.Lawful := by
  have key : ∀ {c : Core}, Relation.ReflTransGen Core.Move s.core c → c.slotsOk := by
    intro c hc
    induction hc with
    | refl => exact h.slots
    | tail _ hm ih => exact hm.keeps_slots ih
  exact ⟨ha, key hst⟩

/-- Operations that leave the contexts and the profiles. -/
theorem State.Lawful.kept {s t : State} (h : s.Lawful) (hst : s.leads t) (ha : t.auth = s.auth) : t.Lawful :=
  h.leads hst (ha ▸ h.auth)

theorem countStored_ok {s : State} (h : s.auth.Ok) : (countStored s).auth.Ok := by
  unfold countStored
  split
  · next e he =>
    split
    · have : Auth.Ok { s.auth with eval := some { e with phase := .comparing } } :=
        { h with eval := fun _ => h.eval (by simp [State.auth, he]), matching := by simp }
      simpa [State.auth, startComparison] using this
    · exact h
  · exact h

/-- The reset is stored: the profile that matched is opened (R144). -/
theorem resetStored_lawful {s : State} (h : s.Lawful) : (resetStored s).Lawful := by
  unfold resetStored
  split
  · next e he =>
    split
    · next p hp =>
      have hdrive : s.auth.drive = .evaluating := h.auth.eval (by simp [State.auth, he])
      have hprofile : s.ctl.openProfile = none := h.auth.profile_none (by simp [hdrive]) (by simp [hdrive])
      have hactive : s.cred.profiles[p] ≠ none := by
        refine h.auth.matching p e.digits ?_
        simp only [State.auth, he, ← hp]
      have hnone : Auth.Ok { s.auth with eval := none } := { h.auth with eval := by simp, matching := by simp }
      refine ⟨openDrive_ok (s := { s with cred.eval := none }) hnone rfl
        (h.auth.startUp_false (by simp [hdrive]) (by simp [hdrive]))
        (fun f hf => h.auth.calm (by simp [hdrive]) hf) hactive true, ?_⟩
      exact openDrive_slots (s := { s with cred.eval := none }) h.slots hprofile p true
    · exact h
  · exact h

/-- An enrollment in COMMITTING ends with OK (R137, R139). -/
theorem finishEnroll_lawful {s : State} (h : s.Lawful) {e f : Enroll} (he : s.cred.enroll = some f)
    (ho : e.origin = f.origin) (hc : e.cancelled = f.cancelled) (hs : f.step = .committing) :
    (finishEnroll e s).Lawful := by
  obtain ⟨hd, _, hfac⟩ := h.auth.enroll f he
  have hnone : Auth.Ok { s.auth with enroll := none } := { h.auth with enroll := by simp }
  have hslots : ({ s with cred.enroll := none, cred.lastEnroll := .ok } : State).core.slotsOk := h.slots
  have hends {d : DriveState} (hdrive : s.auth.drive = .enrolling) (hp : d = .opened ∨ s.auth.profile = none) :
      State.Lawful (setDrive d { s with cred.enroll := none, cred.lastEnroll := .ok }) :=
    ⟨by simpa [State.auth] using h.auth.enrollEnds hdrive hp, by rwa [setDrive_core]⟩
  unfold finishEnroll
  split
  · next hcan =>
    exact hends (hd.resolve_right (fun hn => by simp [← hc, hcan] at hn)) (.inl rfl)
  · exact ⟨hnone, hslots⟩
  · next hor hcan =>
    obtain ⟨hp, _, hactive⟩ := hfac (ho ▸ hor)
    have hdrive : s.auth.drive = .enrolling := hd.resolve_right (fun hn => by simp [← hc, hcan] at hn)
    exact ⟨openDrive_ok (s := { s with cred.enroll := none, cred.lastEnroll := .ok }) hnone
      (h.auth.eval_none (by simp [hdrive])) (h.auth.startUp_false (by simp [hdrive]) (by simp [hdrive]))
      (fun _ hn => by simp at hn) (hactive hs) false, openDrive_slots hslots hp 0 false⟩
  · next hor _ =>
    obtain ⟨hp, _, _⟩ := hfac (ho ▸ hor)
    exact hends (hd.resolve_right (fun hn => by simp [← ho, hor] at hn)) (.inr hp)

theorem enrollStored_lawful {s : State} (h : s.Lawful) (profile : Bool) : (enrollStored profile s).Lawful := by
  unfold enrollStored
  split
  · exact h
  · next e he =>
    split
    · exact h
    · next hs =>
      have hs : e.step = .committing := not_not.mp hs
      dsimp only
      generalize hf : (if profile = true then { e with profileDone := true } else { e with mapDone := true }) = f
      have hkept : f.target = e.target ∧ f.origin = e.origin ∧ f.cancelled = e.cancelled ∧ f.step = e.step := by
        subst hf
        split <;> exact ⟨rfl, rfl, rfl, rfl⟩
      obtain ⟨htarget, horigin, hcancelled, hstep⟩ := hkept
      split
      · exact finishEnroll_lawful h he horigin hcancelled hs
      · refine ⟨?_, h.slots⟩
        exact h.auth.enrollNotes he htarget horigin (fun hc => hcancelled.trans hc) hs (hstep.trans hs)

/-- The bits of a removed profile go: it is not the open one, which is ACTIVE (R37, R140). -/
theorem removalStored_lawful {s : State} (h : s.Lawful) (r : ProfIx) : (removalStored r s).Lawful := by
  unfold removalStored
  split
  · next hr =>
    have hnone : s.auth.profiles[r] = none := (h.auth.removal r hr).1
    have hremoval : Auth.Ok { s.auth with removal := s.cred.removal.set r false } := by
      have hfewer (p : ProfIx) (hp : (s.cred.removal.set r false)[p] = true) : s.auth.removal[p] = true := by
        by_cases hpr : r = p
        · subst hpr
          simp at hp
        · simpa [State.auth, Vector.getElem_set, Fin.val_ne_of_ne hpr] using hp
      refine { h.auth with
        removal := fun p hp => h.auth.removal p (hfewer p hp)
        enroll := fun e he => ⟨(h.auth.enroll e he).1, fun hs => ?_, (h.auth.enroll e he).2.2⟩ }
      by_contra hp
      have := hfewer _ (Bool.eq_true_of_not_eq_false hp)
      exact absurd (((h.auth.enroll e he).2.1 hs).symm.trans this) (by simp)
    refine ⟨by simpa [State.auth] using hremoval, ?_⟩
    have hmasks := slotMasks_slots (s := s) h.slots (f := fun m => maskClear m r) (fun p m hp => maskClear_getLsbD ?_)
    · refine State.Lawful.slots ((State.Lawful.mk (s := { s with
        cipher.slots := s.cipher.slots.map (fun k => { k with mask := maskClear k.mask r }) }) h.auth hmasks).leads
          (t := clearRemoved r { s with cred.removal := s.cred.removal.set r false }) ?_ ?_)
      · exact (snapshotMasks_leads _ (fun n => n.masks.map (fun m => maskClear m r))).trans
          ((requestCommit_leads ..).after rfl)
      · simpa [State.auth] using hremoval
    · rintro rfl
      exact h.auth.active r hp hnone
  · exact h

theorem wipeRequest_ok {s : State} (h : s.auth.Ok) (hd : s.ctl.drive = .wiping) (k : Nat) :
    (wipeRequest k s).auth.Ok := by
  have hstep : Auth.Ok { s.auth with wipeStep := some k } := { h with wiping := fun _ => hd }
  unfold wipeRequest
  dsimp only
  split <;> simpa [State.auth] using hstep

theorem wipeStepDone_lawful {s : State} (h : s.Lawful) (k : Nat) : (wipeStepDone k s).Lawful := by
  refine h.leads (wipeStepDone_leads k s) ?_
  unfold wipeStepDone
  split
  · exact h.auth
  · next hk =>
    have hdrive : s.auth.drive = .wiping := h.auth.wiping (by simp [State.auth, not_not.mp hk])
    have hprofile : s.auth.profile = none := h.auth.profile_none (by simp [hdrive]) (by simp [hdrive])
    have heval : s.auth.eval = none := h.auth.eval_none (by simp [hdrive])
    have hcalm := fun e he => h.auth.calm (a := s.auth) (by simp [hdrive]) (e := e) he
    split
    · refine wipeRequest_ok ?_ ‹_› 2
      refine { h.auth with active := ?_, matching := ?_, removal := ?_, enroll := fun e he => ?_ }
      · exact fun p hp => absurd (hprofile.symm.trans hp) (by simp)
      · exact fun p d hp => absurd (heval.symm.trans hp) (by simp)
      · exact fun r hr => absurd hr (by simp [State.auth])
      · obtain ⟨hs, hcan, ho⟩ := hcalm e he
        exact ⟨.inr ⟨hs, hcan, ho⟩, fun hn => absurd hs hn, fun hf => by simp [ho] at hf⟩
    · refine wipeRequest_ok ?_ (by simpa using (show s.ctl.drive = .wiping from hdrive)) 3
      simpa [State.auth] using h.auth
    · have := Auth.Ok.idle (a := { s.auth with wipeStep := none }) (d := .factory) { h.auth with wiping := by simp }
          hprofile
        heval rfl (h.auth.startUp_false (by simp [hdrive]) (by simp [hdrive])) hcalm
      simpa [State.auth] using this
    · exact wipeRequest_ok h.auth hdrive _

theorem tellWaiter_lawful {s : State} (h : s.Lawful) (w : Waiter) : (tellWaiter w s).Lawful := by
  unfold tellWaiter
  split
  · exact h.kept (applyStored_leads s) (by simp [State.auth])
  · exact h.kept (eraseMapStored_leads s) (by simp [State.auth])
  · exact h.kept (eraseSweepStored_leads s) (by simp [State.auth])
  · exact h.leads (.of_core (countStored_core s)) (countStored_ok h.auth)
  · exact resetStored_lawful h
  · exact enrollStored_lawful h true
  · exact enrollStored_lawful h false
  · exact removalStored_lawful h _
  · exact wipeStepDone_lawful h _

theorem foldl_lawful {β : Type} {g : State → β → State} (hg : ∀ {s : State}, s.Lawful → ∀ x, (g s x).Lawful)
    (l : List β) {s : State} (h : s.Lawful) : (l.foldl g s).Lawful := by
  induction l generalizing s with
  | nil => exact h
  | cons x l ih => exact ih (hg h x)

theorem tellRequesters_lawful {s : State} (h : s.Lawful) (c : Commit) : (tellRequesters c s).Lawful := by
  unfold tellRequesters
  dsimp only
  refine foldl_lawful (fun h w => tellWaiter_lawful h w) _ ?_
  split
  · exact h.kept (sweepStored_leads ..) (by simp [State.auth])
  · exact h

theorem commitVerified_lawful {s : State} (h : s.Lawful) {c : Commit} (hc : s.store.busy = some c) :
    (commitVerified c s).Lawful := by
  have hwritten : State.Lawful { s with store := s.store.write c.content } := h.kept (write_leads hc) rfl
  unfold commitVerified
  dsimp only
  split
  · exact hwritten.kept (busyNone_leads _) rfl
  · have htold := tellRequesters_lawful hwritten c
    have hfree : State.Lawful { tellRequesters c { s with store := s.store.write c.content } with store.busy := none
        } :=
      htold.kept (busyNone_leads _) rfl
    exact hfree.kept (startNext_leads _) (by simp [State.auth])

theorem commitFailed_lawful {s : State} (h : s.Lawful) (c : Commit) : (commitFailed c s).Lawful := by
  refine h.leads (commitFailed_leads c s) ?_
  exact enterFault_ok (s := { s with store := { s.store.spoil c.content with busy := none } }) h.auth .storeWrite

/-! ### Start-up -/

/-- Start-up chooses a drive state from one that holds no context (R198). -/
theorem chooseState_ok {s : State} (h : s.auth.Ok) (hidle : ∀ d, Auth.Ok { s.auth with drive := d })
    (hs : s.auth.startUp = false) : (chooseState s).auth.Ok := by
  unfold chooseState
  split
  · simpa [State.auth] using hidle .factory
  · split
    · exact startWipe_ok h hs
    · split
      · simpa [State.auth, enterBackoff] using hidle .backoff
      · simpa [State.auth] using hidle .locked

theorem clearEmptyMasks_lawful {s : State} (h : s.Lawful) (hp : s.ctl.openProfile = none) :
    (clearEmptyMasks s).Lawful := by
  have hmasks := slotMasks_slots (s := s) h.slots (f := maskActive s.cred.profiles)
    (fun p m hpm => absurd (hp.symm.trans hpm) (by simp))
  have hlawful : State.Lawful { s with
      cipher.slots := s.cipher.slots.map (fun k => { k with mask := maskActive s.cred.profiles k.mask }) } :=
    ⟨h.auth, hmasks⟩
  unfold clearEmptyMasks
  dsimp only
  split
  · exact hlawful.kept (.of_core rfl) rfl
  · exact hlawful.kept ((requestCommit_leads ..).after rfl) (by simp [State.auth])

theorem restored_lawful {s : State} (h : s.Lawful) (r : SweepRecord) :
    State.Lawful (if s.ctl.drive = .wiping then s else restoreErase r s) := by
  split
  · exact h
  · exact h.kept (restoreErase_leads r s) (by simp [State.auth])

theorem startUpRest_lawful {s : State} (h : s.Lawful) (hp : s.ctl.openProfile = none)
    (hidle : ∀ d, Auth.Ok { s.auth with drive := d }) (hs : s.auth.startUp = false) : (startUpRest s).Lawful := by
  have hauth : (clearEmptyMasks s).auth = s.auth := by simp [State.auth]
  have hclear := clearEmptyMasks_lawful h hp
  have hstate : State.Lawful (if (clearEmptyMasks s).ctl.wipeFlag then startWipe (clearEmptyMasks s)
      else chooseState (clearEmptyMasks s)) := by
    split
    · exact hclear.leads (startWipe_leads _) (startWipe_ok hclear.auth (hauth ▸ hs))
    · exact hclear.leads (chooseState_leads _) (chooseState_ok hclear.auth (hauth.symm ▸ hidle) (hauth ▸ hs))
  unfold startUpRest
  dsimp only
  exact (restored_lawful hstate ((s.store.sweep.load sweepLaw).getD .delivered)).kept (.of_core (startUpEnd_core _))
    (by simp [State.auth])

theorem enterFault_lawful {s : State} (h : s.Lawful) (c : FaultCause) : (enterFault c s).Lawful :=
  h.leads (enterFault_leads c s) (enterFault_ok h.auth c)

/-- The start-up run ends (R197, R198): the drive had no state yet, or was in FAULT. -/
theorem cipherEnd_startUp_lawful {s : State} (h : s.Lawful) (hs : s.auth.startUp = false)
    (hd : s.auth.drive = .starting ∨ s.auth.drive = .fault) (mismatches : BitVec 16) :
    (cipherEnd .startUp mismatches s).Lawful := by
  have hother (d : DriveState) (h1 : d ≠ .starting) (h2 : d ≠ .fault) : s.auth.drive ≠ d := by
    rcases hd with hd | hd <;> rw [hd]
    · exact h1.symm
    · exact h2.symm
  have hprofile := h.auth.profile_none (hother _ (by simp) (by simp)) (hother _ (by simp) (by simp))
  unfold cipherEnd
  dsimp only
  split
  · refine startUpRest_lawful h hprofile (fun d => ?_) hs
    exact h.auth.idle hprofile (h.auth.eval_none (hother _ (by simp) (by simp)))
      (h.auth.wipeStep_none (hother _ (by simp) (by simp))) hs
      (fun _ he => h.auth.calm (hother _ (by simp) (by simp)) he)
  · exact (enterFault_lawful h _).kept (.of_core (startUpEnd_core _)) (by simp [State.auth])

theorem cipherEnd_lawful {s : State} (h : s.Lawful) {k : RunKind} (hk : k ≠ .startUp) (mismatches : BitVec 16) :
    (cipherEnd k mismatches s).Lawful := by
  have hresult (r : CipherResult) : State.Lawful { s with cipher.result := r } := ⟨h.auth, h.slots⟩
  unfold cipherEnd
  split
  · exact absurd rfl hk
  · split
    · exact hresult .pass
    · exact enterFault_lawful (hresult .fail) _
  · split
    · exact hresult .injectDetected
    · exact enterFault_lawful (hresult .fail) _

theorem execCipherTestEnd_lawful {mismatches : BitVec 16} {s t : State} (h : s.Lawful)
    (ht : execCipherTestEnd mismatches s = .next t) : t.Lawful := by
  obtain rfl := Host.Outcome.next.inj ht
  split
  · exact h
  · next r hr =>
    have hended : State.Lawful { s with cipher.run := none } :=
      ⟨{ h.auth with startUp := by simp [State.auth] }, h.slots⟩
    refine State.Lawful.kept ?_ (standbyCheck_leads _) (standbyCheck_auth _)
    by_cases hk : r.kind = .startUp
    · rw [hk]
      exact cipherEnd_startUp_lawful hended rfl (h.auth.startUp (by simp [State.auth, hr, hk])) mismatches
    · exact cipherEnd_lawful hended hk mismatches

theorem execCommitCompletion_lawful {verified : Bool} {s t : State} (h : s.Lawful)
    (ht : execCommitCompletion verified s = .next t) : t.Lawful := by
  obtain rfl := Host.Outcome.next.inj ht
  split
  · exact h
  · next hbusy =>
    refine State.Lawful.kept ?_ (standbyCheck_leads _) (standbyCheck_auth _)
    split
    · exact commitVerified_lawful h hbusy
    · exact commitFailed_lawful h _

/-! ### The commands and the step -/

theorem execMediaReady_ok {s t : State} (h : s.auth.Ok) (ht : execMediaReady s = .next t) : t.auth.Ok := by
  obtain rfl := Host.Outcome.next.inj ht
  split
  · exact h
  · split
    · simpa [State.auth] using h
    · have hfailed := failAll_ok ((busyCommands s.media.tags).filter (fun c => c.requester != .size))
        (s := { freeTags s with media.sizeWaiting := false }) h
      simpa [State.auth] using hfailed

theorem execMediaCompletion_ok {tag : Tag} {status : Byte} {span : BitVec 32} {data : MediaData} {s t : State}
    (h : s.auth.Ok) (ht : execMediaCompletion tag status span data s = .next t) : t.auth.Ok := by
  obtain rfl := Host.Outcome.next.inj ht
  split
  · exact h
  · simpa [State.auth] using h
  · next c _ =>
    have hresult := deliverResult_ok c (statusIsOk status) span.toNat (mediaSectors data c)
      (s := { s with media.tags := s.media.tags.set tag .free }) h
    simpa [State.auth] using hresult

theorem execTagTimeout_ok {tag : Tag} {s t : State} (h : s.auth.Ok) (ht : execTagTimeout tag s = .next t) :
    t.auth.Ok := by
  obtain rfl := Host.Outcome.next.inj ht
  split
  · next c _ =>
    have hresult := deliverResult_ok c false 0 []
      (s := { s with media.tags := s.media.tags.set tag .retired, media.retired := s.media.retired + 1 }) h
    dsimp only
    split
    · have hreset : ∀ {u : State}, u.auth.Ok → (mediaLinkReset u).auth.Ok := fun {u} hu =>
        failAll_ok _ (s := { freeTags u with mediaOut := u.mediaOut ++ [.linkReset] }) hu
      simpa [State.auth] using hreset hresult
    · exact hresult
  · exact h

theorem execEntryTimerExpiry_ok {s t : State} (h : s.auth.Ok) (ht : execEntryTimerExpiry s = .next t) :
    t.auth.Ok := by
  obtain rfl := Host.Outcome.next.inj ht
  split
  · exact h
  · split
    · exact h
    · rw [standbyCheck_auth]
      split
      · next hd =>
        have hdrive : s.auth.drive = .entry := hd
        have := h.moved .locked (by simp [hdrive]) (by simp [hdrive]) (by simp [hdrive]) (by simp [hdrive])
          (by simp [hdrive]) (by simp [hdrive])
        simpa [State.auth] using this
      · next hd he => exact failEnroll_ok (s := endCollection s) h he hd .timeout
      · exact h

theorem execKeypadScan_ok {pressed : BitVec 12} {s t : State} (h : s.auth.Ok)
    (ht : execKeypadScan pressed s = .next t) : t.auth.Ok := by
  obtain rfl := Host.Outcome.next.inj ht
  split
  · exact pressAfter_ok (s := { s with keypad.keys := debounceAll pressed s.keypad.keys }) h _ _
  · split
    · exact pressAfter_ok (s := { s with power.lastScan := none }) h _ _
    · exact h

theorem attachTaken_auth (s : State) : (attachTaken s).auth = s.auth := by
  have hbackground (u : State) : (selectBackground u).auth = u.auth := by simp [State.auth]
  unfold attachTaken
  dsimp only
  rw [hbackground]
  split <;> split <;> rfl

/-- Every command but a commit's completion, a cipher test's end and those of power keeps the laws of the contexts and
the profiles. -/
theorem exec_ok {c : Instr} (hc : c.isPower = false) (hcommit : ∀ v, c ≠ .commitCompletion v)
    (htest : ∀ m, c ≠ .cipherTestEnd m) {s t : State} (h : s.auth.Ok) (ht : exec c s = .next t) : t.auth.Ok := by
  cases c with
  | powerOn | powerLoss => exact absurd hc.symm Bool.false_ne_true
  | commitCompletion v => exact absurd rfl (hcommit v)
  | cipherTestEnd m => exact absurd rfl (htest m)
  | status | lock | readTable | stageRegion | setSlotMask | clearPending | applyTable | eraseRegion | cancelSweep
  | enroll | removeProfile | setOptions | selfTestCipher | selfTestCipherInject | selfTestMedia | wipeAll
  | unknownRequest =>
    rw [exec_request rfl] at ht
    obtain rfl := Host.Outcome.next.inj ht
    exact windowRequest_ok (takingOf_ok _) _ _ _ h
  | mediaReady => exact execMediaReady_ok h ht
  | mediaCompletion => exact execMediaCompletion_ok h ht
  | tagTimeout => exact execTagTimeout_ok h ht
  | entryTimerExpiry => exact execEntryTimerExpiry_ok h ht
  | keypadScan => exact execKeypadScan_ok h ht
  | frontRequestArrival =>
    obtain rfl := Host.Outcome.next.inj ht
    split
    · exact arrivalChecks_ok _ _ _ _ _ ((reportArrival_auth s).symm ▸ h)
    · exact h
  | detach =>
    obtain rfl := Host.Outcome.next.inj ht
    split
    · unfold detachTaken
      dsimp only
      have hlocked : ∀ {u : State}, u.auth = s.auth → (standbyCheck (selectBackground (lockTrigger u))).auth.Ok := by
        intro u hu
        have hlock := lockTrigger_ok (hu ▸ h)
        simpa [State.auth] using hlock
      exact hlocked (by simp [State.auth])
    · exact h
  | comparisonResult =>
    obtain rfl := Host.Outcome.next.inj ht
    split
    · exact h
    · rw [standbyCheck_auth]
      exact comparisonEnds_ok (s := { s with cred.comparison := none }) h _
  | backoffTimerExpiry =>
    obtain rfl := Host.Outcome.next.inj ht
    split
    · exact h
    · rw [standbyCheck_auth]
      split
      · next hd =>
        have hdrive : s.auth.drive = .backoff := hd
        have := h.moved .locked (by simp [hdrive]) (by simp [hdrive]) (by simp [hdrive]) (by simp [hdrive])
          (by simp [hdrive]) (by simp [hdrive])
        simpa [State.auth] using this
      · exact h
  | attachWindowExpiry =>
    obtain rfl := Host.Outcome.next.inj ht
    split
    · exact h
    · rw [standbyCheck_auth]
      exact lockTrigger_ok (s := { s with ctl.window := none }) h
  | inactivityExpiry =>
    obtain rfl := Host.Outcome.next.inj ht
    split
    · exact h
    · split
      · exact h
      · rw [standbyCheck_auth]
        exact lockTrigger_ok (s := { s with ctl.inactivity := none }) h
  | standbyIdleTimerExpiry =>
    obtain rfl := Host.Outcome.next.inj ht
    split
    · unfold idleExpires
      rwa [standbyCheck_auth]
    all_goals exact h
  | admission =>
    obtain rfl := Host.Outcome.next.inj ht
    split
    · exact h
    · split
      · simpa [State.auth] using h
      · exact h
  | attach =>
    obtain rfl := Host.Outcome.next.inj ht
    split
    · rwa [attachTaken_auth]
    · exact h
  | slotGrant | patternStepExpiry =>
    obtain rfl := Host.Outcome.next.inj ht
    split
    · split <;> simpa [State.auth] using h
    · exact h
  | _ =>
    obtain rfl := Host.Outcome.next.inj ht
    split <;> simpa [State.auth] using h

theorem exec_lawful {c : Instr} (hc : c.isPower = false) {s t : State} (h : s.Lawful) (ht : exec c s = .next t) :
    t.Lawful := by
  by_cases hcommit : ∃ v, c = .commitCompletion v
  · obtain ⟨v, rfl⟩ := hcommit
    exact execCommitCompletion_lawful h ht
  · by_cases htest : ∃ m, c = .cipherTestEnd m
    · obtain ⟨m, rfl⟩ := htest
      exact execCipherTestEnd_lawful h ht
    · exact h.leads (exec_leads hc (not_exists.mp hcommit) (not_exists.mp htest) ht)
        (exec_ok hc (not_exists.mp hcommit) (not_exists.mp htest) h.auth ht)

/-- A part without power holds no context and no key. -/
theorem powerDown_lawful (s : State) : (powerDown s).Lawful := by
  refine ⟨⟨by simp [State.auth, powerDown, State.blank], ?_, ?_, ?_, ?_, ?_, ?_, ?_⟩, ?_⟩ <;>
    simp [State.auth, powerDown, State.blank, Core.slotsOk, KeySlot.ok, State.core]

/-- The load brings the profiles and the slots of the records (R84, R197). -/
theorem loadRecords_lawful (s : State) (d : BitVec 24) : (loadRecords (s.restarted d)).Lawful := by
  have hslot (x : StoredSlot) : x.toSlot.ok none := by
    unfold StoredSlot.toSlot KeySlot.ok
    cases hx : x.key <;> simp
  have hload : ∀ e ∈ (((s.restarted d).store.map.load mapLaw).getD .delivered).table, ∀ k : SlotIx, e.slot = some k →
      (((s.restarted d).store.map.load mapLaw).getD .delivered).slots[k].key ≠ none := by
    cases hl : (s.restarted d).store.map.load mapLaw with
    | none => exact fun e he => absurd he (by simp [MapRecord.delivered])
    | some m =>
      have hlaw := (load_some hl).1
      simp only [mapLaw, Bool.and_eq_true, List.all_eq_true] at hlaw
      intro e he k hk
      have hkey := hlaw.2 e he
      rw [hk] at hkey
      exact Option.isSome_iff_ne_none.mp hkey
  refine ⟨?_, fun e he k hk => ?_, fun k => ?_⟩
  · refine ⟨?_, ?_, ?_, ?_, ?_, ?_, ?_, ?_⟩ <;>
      simp [State.auth, State.restarted, loadRecords, copyPending, powerDown, State.blank]
  · have hkey := hload e he k hk
    simpa [loadRecords_core, StoredSlot.toSlot] using hkey
  · have := hslot (((s.restarted d).store.map.load mapLaw).getD .delivered).slots[k]
    rw [loadRecords_core, restarted_core, powerDown_core]
    simpa [State.core, State.blank] using this

theorem startUp_lawful (s : State) (d : BitVec 24) : (startUp (s.restarted d)).Lawful := by
  have hload := loadRecords_lawful s d
  refine hload.leads (startUp_leads _) ?_
  unfold startUp
  dsimp only
  split
  · have := enterFault_ok hload.auth .storeCheck
    simpa [State.auth] using this
  · exact { hload.auth with startUp := fun _ => .inl rfl }

theorem tick_auth (s : State) : (tick s).auth = s.auth := by
  have hrun : (s.cipher.run.map (fun r => { r with left := r.left - 1 })).any (fun r => r.kind == .startUp) =
      s.cipher.run.any (fun r => r.kind == .startUp) := by
    cases s.cipher.run <;> rfl
  simp [State.auth, tick, hrun]

theorem step_lawful {s t : State} (hs : s.Lawful) (h : step s = .next t) : t.Lawful := by
  by_cases hp : ∀ c ∈ s.pending.head?, c.isPower = false
  · unfold step at h
    split at h
    · obtain rfl := Host.Outcome.next.inj h
      exact hs.kept (.of_core rfl) (tick_auth s)
    · next c rest hq =>
      exact exec_lawful (hp c (by simp [hq])) (s := { s with pending := rest }) ⟨hs.auth, hs.slots⟩ h
  · obtain ⟨rest, rfl | ⟨d, rfl⟩⟩ := step_power h hp
    · exact powerDown_lawful _
    · exact startUp_lawful _ d

theorem State.lawful_iff (s : State) : s.Lawful ↔ s.modeInv ∧ s.profilesInv ∧ s.slotsInv := by
  rw [← and_assoc, s.auth_ok]
  exact ⟨fun h => ⟨h.auth, h.slots⟩, fun h => ⟨h.1, h.2⟩⟩

end Sys2Proof.Machine

namespace Sys2Proof.Proofs

open Sys2Proof Sys2Proof.Machine

/-- Settles O55: the first and the third law by the moves of the core, the second with the contexts that the openings
of a profile rest on. -/
theorem keysStayClosedWithoutProfile : Obligations.KeysStayClosedWithoutProfile :=
  ⟨fun _ _ => step_keysInv,
    fun s t hmode hprofiles hslots h =>
      (State.lawful_iff t).mp (step_lawful ((State.lawful_iff s).mpr ⟨hmode, hprofiles, hslots⟩) h),
    fun _ _ => step_tableInv⟩

end Sys2Proof.Proofs
end

section
/-! SUPPORT. The requests of the control window: what the bytes of a request name, each request's taking by its cases,
and the answers that follow. -/

namespace Sys2Proof.Machine

open Sys2Proof

/-! ### The bytes of a request -/

theorem posOfByte_of_gt {b : Byte} (h : 15 < b.toNat) : posOfByte b = none := dif_neg (by omega)

theorem posOfByte_of_eq {b : Byte} {p : Pos} (h : b.toNat = p.val) : posOfByte b = some p := by
  have hlt : b.toNat < 16 := by omega
  simp [posOfByte, hlt, h]

theorem slotOfByte_of_gt {b : Byte} (h : 7 < b.toNat) : slotOfByte b = none := dif_neg (by omega)

theorem slotOfByte_of_eq {b : Byte} {p : Fin 8} (h : b.toNat = p.val) : slotOfByte b = some p := by
  have hlt : b.toNat < 8 := by omega
  simp [slotOfByte, hlt, h]

theorem toNat_ne_of_ne {b c : Byte} (h : b ≠ c) : b.toNat ≠ c.toNat := fun heq => h (BitVec.eq_of_toNat_eq heq)

theorem classOfByte_of_ne {b : Byte} (h1 : b ≠ 1) (h2 : b ≠ 2) : classOfByte b = none := by
  have h1 : b.toNat ≠ 1 := toNat_ne_of_ne h1
  have h2 : b.toNat ≠ 2 := toNat_ne_of_ne h2
  unfold classOfByte
  split
  · contradiction
  · contradiction
  · rfl

theorem modeOfByte_of_ne {b : Byte} (h1 : b ≠ 1) (h2 : b ≠ 2) : modeOfByte b = none := by
  have h1 : b.toNat ≠ 1 := toNat_ne_of_ne h1
  have h2 : b.toNat ≠ 2 := toNat_ne_of_ne h2
  unfold modeOfByte
  split
  · contradiction
  · contradiction
  · rfl

theorem profileKindOfByte_of_out {b : Byte} (h : b = 0 ∨ 4 < b.toNat) : profileKindOfByte b = none := by
  have h : b.toNat = 0 ∨ 4 < b.toNat := h.imp_left (fun h => by rw [h]; rfl)
  unfold profileKindOfByte
  split
  · omega
  · omega
  · omega
  · omega
  · rfl

/-! ### Answers -/

/-- A heard request outside FAULT is answered with what its taking gives in the state that its arrival leaves. -/
theorem windowRequest_of_take {s t : State} {tag : Tag} {take : State → Taken} {r : Result} {l : List Byte}
    (hears : s.hears tag) (hd : s.ctl.drive ≠ .fault) (seq code : Byte) (h : take s.arrived = (r, l, t)) :
    windowRequest tag seq code (faultGate take) s = t.answered tag seq code r l := by
  rw [gatedRequest_of_hears hears hd, h]

theorem arrived_adminOpen {s : State} (h : s.ctl.openProfile = some 0) : s.arrived.adminOpen = true :=
  adminOpen_of_openProfile (s := s.arrived) h

/-! ### READ_TABLE -/

/-- A block of a list that is put together of blocks of one length. -/
theorem block_of_flatMap {α β : Type} {f : α → List β} {n : Nat} {l : List α} (hf : ∀ a ∈ l, (f a).length = n)
    {i : Nat} (hi : i < l.length) (rest : List β) : ((l.flatMap f ++ rest).drop (n * i)).take n = f l[i] := by
  induction l generalizing i with
  | nil => exact absurd hi (Nat.not_lt_zero i)
  | cons a l ih =>
    have ha : (f a).length = n := hf a List.mem_cons_self
    cases i with
    | zero => simp [List.take_left' ha]
    | succ i =>
      have hdrop : n * (i + 1) = n + n * i := by rw [Nat.mul_succ, Nat.add_comm]
      rw [List.flatMap_cons, List.append_assoc, hdrop, ← List.drop_drop, List.drop_left' ha]
      exact ih (fun b hb => hf b (List.mem_cons_of_mem a hb)) (Nat.lt_of_succ_lt_succ hi)

/-- The twelve bytes of a position in READ_TABLE. -/
def positionBytes (t : List Entry) (p : Nat) : List Byte :=
  match t[p]? with
  | some e => e.bytes
  | none => List.replicate 12 0

theorem positionBytes_length (t : List Entry) (p : Nat) : (positionBytes t p).length = 12 := by
  unfold positionBytes
  split <;> rfl

theorem tableBytes_eq (t : List Entry) : tableBytes t = (List.range 16).flatMap (positionBytes t) := rfl

theorem tableBytes_length (t : List Entry) : (tableBytes t).length = 192 := by
  simp [tableBytes_eq, List.length_flatMap, positionBytes_length]

theorem tablePayload_drop_8 (s : State) :
    s.tablePayload.drop 8 = tableBytes s.regions.table ++ s.cipher.slots.toList.flatMap KeySlot.bytes := by
  simp [State.tablePayload, le32]

theorem tablePayload_drop_200 (s : State) :
    s.tablePayload.drop 200 = s.cipher.slots.toList.flatMap KeySlot.bytes := by
  calc s.tablePayload.drop 200 = (s.tablePayload.drop 8).drop 192 := by rw [List.drop_drop]
    _ = _ := by rw [tablePayload_drop_8, List.drop_left' (tableBytes_length _)]

theorem slotBytes_length (k : KeySlot) : k.bytes.length = 8 := rfl

theorem tablePayload_length (s : State) : s.tablePayload.length = 264 := by
  have hcut := congrArg List.length (tablePayload_drop_8 s)
  simp [tableBytes_length, List.length_flatMap, slotBytes_length] at hcut
  omega

/-- The bytes of a position (R190). -/
theorem tablePayload_position (s : State) (p : Pos) :
    (s.tablePayload.drop (8 + 12 * p.val)).take 12 = positionBytes s.regions.table p.val := by
  rw [← List.drop_drop, tablePayload_drop_8, tableBytes_eq,
    block_of_flatMap (fun a _ => positionBytes_length _ a) (by simp)]
  simp

/-- The bytes of a key slot's record (R190). -/
theorem tablePayload_slot (s : State) (k : SlotIx) :
    (s.tablePayload.drop (200 + 8 * k.val)).take 8 = s.cipher.slots[k].bytes := by
  have h := block_of_flatMap (l := s.cipher.slots.toList) (fun a _ => slotBytes_length a) (i := k.val) (by simp) []
  rw [List.append_nil] at h
  rw [← List.drop_drop, tablePayload_drop_200, h]
  simp

theorem Entry.bytes_eq (e : Entry) :
    e.bytes = le32 e.base ++ le32 e.length ++
      ([(match e.cls with | .pub => 1 | .priv => 2), (if e.writable then 1 else 0),
       (match e.slot with | some k => BitVec.ofNat 8 k.val | none => 0xFF), 0] : List Byte) := by
  unfold Entry.bytes RegionClass.code byteOfBool
  rfl

theorem KeySlot.bytes_eq (k : KeySlot) :
    k.bytes = [(match k.state with | .empty => 0 | .closed => 1 | .opened => 2), k.mask, 0, 0] ++ le32 k.gen := by
  unfold KeySlot.bytes SlotState.code
  rfl

theorem takeReadTable_of_adminOpen {s : State} (h : s.adminOpen = true) :
    takeReadTable s = (.ok, s.tablePayload, s) := if_pos h

/-! ### STAGE_REGION and SET_SLOT_MASK -/

theorem bne_eq_decide_ne (a b : Byte) : (a != b) = decide (a ≠ b) := by
  by_cases h : a = b <;> simp [h]

theorem stagedEntry_pub (w slot : Byte) (base length : BitVec 32) :
    stagedEntry 1 w slot base length = some ⟨base.toNat, length.toNat, .pub, decide (w ≠ 0), none⟩ := by
  rw [← bne_eq_decide_ne]
  rfl

theorem stagedEntry_priv_noSlot (w : Byte) (base length : BitVec 32) :
    stagedEntry 2 w 0xFF base length = some ⟨base.toNat, length.toNat, .priv, decide (w ≠ 0), none⟩ := by
  rw [← bne_eq_decide_ne]
  rfl

theorem stagedEntry_priv_badSlot {slot : Byte} (h : 7 < slot.toNat) (hne : slot ≠ 0xFF) (w : Byte)
    (base length : BitVec 32) : stagedEntry 2 w slot base length = none := by
  have hcls : classOfByte 2 = some .priv := rfl
  unfold stagedEntry
  rw [hcls]
  simp [show slot ≠ 255#8 from hne, slotOfByte_of_gt h]

theorem stagedEntry_priv_slot {slot : Byte} {k : SlotIx} (h : slot.toNat = k.val) (w : Byte)
    (base length : BitVec 32) :
    stagedEntry 2 w slot base length = some ⟨base.toNat, length.toNat, .priv, decide (w ≠ 0), some k⟩ := by
  have hcls : classOfByte 2 = some .priv := rfl
  have hne : slot ≠ 0xFF := by
    rintro rfl
    have : k.val = 255 := h.symm
    omega
  unfold stagedEntry
  rw [hcls]
  simp [show slot ≠ 255#8 from hne, slotOfByte_of_eq h, bne_eq_decide_ne]

theorem stagedEntry_badClass {cls : Byte} (h1 : cls ≠ 1) (h2 : cls ≠ 2) (w slot : Byte) (base length : BitVec 32) :
    stagedEntry cls w slot base length = none := by
  simp [stagedEntry, classOfByte_of_ne h1 h2]

section Stage

variable {s : State} (ha : s.adminOpen = true) {position present cls writable slot : Byte} {base length : BitVec 32}

include ha

theorem takeStageRegion_badPosition (h : 15 < position.toNat) :
    takeStageRegion position present cls writable slot base length s = (.badField, [], s) := by
  simp [takeStageRegion, ha, posOfByte_of_gt h, answer]

theorem takeStageRegion_absent {p : Pos} (h : position.toNat = p.val) (hp : present = 0) :
    takeStageRegion position present cls writable slot base length s =
      (.ok, [], { s with regions.pending := s.regions.pending.set p none }) := by
  simp [takeStageRegion, ha, posOfByte_of_eq h, hp, answer]

theorem takeStageRegion_badEntry {p : Pos} (h : position.toNat = p.val) (hp : present ≠ 0)
    (he : stagedEntry cls writable slot base length = none) :
    takeStageRegion position present cls writable slot base length s = (.badField, [], s) := by
  have hp : present ≠ 0#8 := hp
  simp [takeStageRegion, ha, posOfByte_of_eq h, hp, he, answer]

theorem takeStageRegion_entry {p : Pos} {e : Entry} (h : position.toNat = p.val) (hp : present ≠ 0)
    (he : stagedEntry cls writable slot base length = some e) :
    takeStageRegion position present cls writable slot base length s =
      (.ok, [], { s with regions.pending := s.regions.pending.set p (some e) }) := by
  have hp : present ≠ 0#8 := hp
  simp [takeStageRegion, ha, posOfByte_of_eq h, hp, he, answer]

theorem takeSetSlotMask_badSlot {mask : Byte} (h : 7 < slot.toNat) :
    takeSetSlotMask slot mask s = (.badField, [], s) := by
  simp [takeSetSlotMask, ha, slotOfByte_of_gt h, answer]

theorem takeSetSlotMask_slot {mask : Byte} {k : SlotIx} (h : slot.toNat = k.val) :
    takeSetSlotMask slot mask s = (.ok, [], { s with regions.masks := s.regions.masks.set k mask }) := by
  simp [takeSetSlotMask, ha, slotOfByte_of_eq h, answer]

end Stage

end Sys2Proof.Machine

namespace Sys2Proof.Proofs

open Sys2Proof Sys2Proof.Machine

/-- Settles O5: the answer by the request's taking, the bytes by cutting the payload into its blocks. -/
theorem readTableAnswers : Obligations.ReadTableAnswers := by
  refine ⟨fun s tag seq hears hd ho => ?_, fun s => ⟨tablePayload_length s, ?_, fun p => ?_, fun k => ?_⟩⟩
  · exact congrArg _ (windowRequest_of_take hears hd seq 3 (takeReadTable_of_adminOpen (arrived_adminOpen ho)))
  · rw [← applyByte_eq_ite]
    rfl
  · exact tablePayload_position s p
  · exact (tablePayload_slot s k).trans (KeySlot.bytes_eq _)

/-- Settles O6: each case of the two takings. -/
theorem stagingEditsPending : Obligations.StagingEditsPending := by
  refine ⟨fun s tag seq position present cls writable slot base length hears hd ho => ?_,
    fun s tag seq slot mask hears hd ho => ?_⟩
  · have ha := arrived_adminOpen ho
    have taken {r : Result} {t : State}
        (h : takeStageRegion position present cls writable slot base length s.arrived = (r, [], t)) :
        exec (.stageRegion tag seq position present cls writable slot base length) s =
          .next (t.answered tag seq 0x04 r []) := congrArg _ (windowRequest_of_take hears hd seq 4 h)
    refine ⟨fun h => taken (takeStageRegion_badPosition ha h), fun p hp h0 => taken (takeStageRegion_absent ha hp h0),
      fun p hp h1 => ⟨fun hpub hpriv => ?_, fun hcls => ?_, fun hcls hslot => ?_, fun hcls hne hslot => ?_,
        fun k hcls hslot => ?_⟩⟩
    · exact taken (takeStageRegion_badEntry ha hp h1 (stagedEntry_badClass hpub hpriv ..))
    · subst hcls
      exact taken (takeStageRegion_entry ha hp h1 (stagedEntry_pub ..))
    · subst hcls hslot
      exact taken (takeStageRegion_entry ha hp h1 (stagedEntry_priv_noSlot ..))
    · subst hcls
      exact taken (takeStageRegion_badEntry ha hp h1 (stagedEntry_priv_badSlot hslot hne ..))
    · subst hcls
      exact taken (takeStageRegion_entry ha hp h1 (stagedEntry_priv_slot hslot ..))
  · have ha := arrived_adminOpen ho
    have taken {r : Result} {t : State} (h : takeSetSlotMask slot mask s.arrived = (r, [], t)) :
        exec (.setSlotMask tag seq slot mask) s = .next (t.answered tag seq 0x05 r []) :=
      congrArg _ (windowRequest_of_take hears hd seq 5 h)
    exact ⟨fun h => taken (takeSetSlotMask_badSlot ha h), fun k h => taken (takeSetSlotMask_slot ha h)⟩

end Sys2Proof.Proofs
end

section
/-! SUPPORT. What a change of the drive state does to the keypad unit; the gates of the requests; APPLY_TABLE,
ERASE_REGION, CANCEL_SWEEP, ENROLL, REMOVE_PROFILE and SET_OPTIONS by their cases. -/

namespace Sys2Proof.Machine

open Sys2Proof

/-! ### The drive state and the background (R127, R154) -/

/-- A change of the drive state touches the keypad unit besides. -/
theorem setDrive_eq (d : DriveState) (s : State) :
    setDrive d s = { s with ctl := { s.ctl with drive := d }, keypad := (setDrive d s).keypad } := by
  unfold setDrive selectBackground
  split
  · rfl
  · split <;> rfl

/-- Of the keypad unit, a change of the drive state touches the background alone. -/
theorem setDrive_keypad (d : DriveState) (s : State) :
    (setDrive d s).keypad.keys = s.keypad.keys ∧ (setDrive d s).keypad.buffer = s.keypad.buffer ∧
      (setDrive d s).keypad.phase = s.keypad.phase ∧ (setDrive d s).keypad.timer = s.keypad.timer ∧
      (setDrive d s).keypad.oneShot = s.keypad.oneShot ∧ (setDrive d s).keypad.withdrawn = s.keypad.withdrawn := by
  unfold setDrive selectBackground
  split
  · exact ⟨rfl, rfl, rfl, rfl, rfl, rfl⟩
  · split <;> exact ⟨rfl, rfl, rfl, rfl, rfl, rfl⟩

theorem setDrive_selection {d : DriveState} {s : State} {p : Pattern} (h : backgroundFor d s.ctl.attached = some p) :
    (setDrive d s).keypad.selection = p := by
  unfold setDrive selectBackground
  simp only [h]
  split
  · next heq => exact heq.symm
  · rfl

/-! ### The gates (R176, section 9.2) -/

theorem takingOf_fault {c : Instr} {tag : Tag} {seq code : Byte} (hr : c.request = some (tag, seq, code))
    (hw : c.wf = true) (hlo : 2 ≤ code.toNat) (hhi : code.toNat ≤ 14) {s : State} (hd : s.ctl.drive = .fault) :
    takingOf c s = (.notNow, [], s) := by
  cases c with
  | status =>
    cases hr
    exact absurd hlo (by decide)
  | unknownRequest =>
    cases hr
    simp [Instr.wf, codeIsUnknown] at hw
    omega
  | _ => cases hr <;> exact faultGate_fault hd _

theorem takingOf_denied {c : Instr} (hp : c.privileged = true) {s : State} (hd : s.ctl.drive ≠ .fault)
    (ha : s.adminOpen = false) : takingOf c s = (.denied, [], s) := by
  cases c <;> cases hp <;>
    simp [takingOf, faultGate, hd, ha, answer, takeReadTable, takeStageRegion, takeSetSlotMask, takeClearPending,
      takeApplyTable, takeEraseRegion, takeCancelSweep, takeEnroll, takeRemoveProfile, takeSetOptions,
      takeSelfTestMedia, takeWipeAll]

/-- A heard request row is answered with what its taking gives in the state that its arrival leaves. -/
theorem exec_request_of_take {c : Instr} {tag : Tag} {seq code : Byte} (hr : c.request = some (tag, seq, code))
    {s t : State} {r : Result} {l : List Byte} (hears : s.hears tag) (h : takingOf c s.arrived = (r, l, t)) :
    exec c s = .next (t.answered tag seq code r l) := by
  rw [exec_request hr, windowRequest_of_hears hears, h]

/-! ### APPLY_TABLE (R29, R32) -/

theorem applyExhausts_iff (s : State) : applyExhausts s = true ↔
    ∃ k : SlotIx, positionsName s.regions.pending k ≠ tableNames s.regions.table k ∧
      s.cipher.slots[k].gen = 4294967295 := by
  simp [applyExhausts, Config.maxGen]

theorem takeSnapshot_eq (s : State) : takeSnapshot s =
    { entries := s.regions.pending, masks := s.regions.masks, swapped := false
      copies := Vector.ofFn (fun k =>
        if tableNames s.regions.table k = true ∧ positionsName s.regions.pending k = true ∧
            s.regions.masks[k] ≠ s.cipher.slots[k].mask ∧ s.cipher.slots[k].state = .opened then
          s.cipher.slots[k].key
        else none) } := by
  simp [takeSnapshot, and_assoc]

theorem testBusy_iff (s : State) :
    s.testBusy = true ↔ s.cipher.test.state = .draining ∨ s.cipher.test.state = .running := by
  simp [State.testBusy]

theorem testBusy_false {s : State} (hd : s.cipher.test.state ≠ .draining) (hr : s.cipher.test.state ≠ .running) :
    s.testBusy = false := by
  simp [State.testBusy, hd, hr]

/-- With fragments in flight the holder of a quiesce is told nothing (R44). -/
theorem drainCheck_of_total {s : State} (h : s.filter.total ≠ 0) : drainCheck s = s := if_pos h

section Apply

variable {s : State} (ha : s.adminOpen = true)

include ha

theorem takeApplyTable_busy (h : s.regions.apply = .draining ∨ s.erase.queue ≠ [] ∨ s.cipher.test.state = .draining ∨
    s.cipher.test.state = .running) : takeApplyTable s = (.busy, [], s) := by
  rw [← testBusy_iff] at h
  rcases h with h | h | h <;> simp [takeApplyTable, ha, h, answer]

variable (hi : s.regions.apply = .idle) (hq : s.erase.queue = []) (ht : s.testBusy = false)

include hi hq ht

theorem takeApplyTable_invalid {r : Reason} {p : Nat} (h : validate s = some (r, p)) :
    takeApplyTable s = (.invalidTable, [r.code, BitVec.ofNat 8 p], s) := by
  simp [takeApplyTable, ha, hi, hq, ht, h]

theorem takeApplyTable_exhausted (h : validate s = none) (hx : applyExhausts s = true) :
    takeApplyTable s = (.eraseLimit, [], s) := by
  simp [takeApplyTable, ha, hi, hq, ht, h, hx, answer]

theorem takeApplyTable_accepted (h : validate s = none) (hx : applyExhausts s = false) :
    takeApplyTable s = (.accepted, [], drainCheck { s with
      regions.snapshot := some (takeSnapshot s), regions.apply := .draining, filter.quiesce := .apply }) := by
  simp [takeApplyTable, ha, hi, hq, ht, h, hx, answer]

end Apply

/-! ### ERASE_REGION (R86) -/

theorem sharesKey_iff (s : State) (p : Pos) (e : Entry) : sharesKey s p e = true ↔
    ∃ (k : SlotIx) (q : Pos) (f : Entry), e.slot = some k ∧ q ≠ p ∧ s.regions.table[q.val]? = some f ∧
      f.slot = some k := by
  have heq : sharesKey s p e = (e.slot.isSome &&
      (List.finRange 16).any (fun q => q != p && (s.entryAt q).any (fun f => f.slot == e.slot))) := by
    unfold sharesKey
    congr
    funext q
    cases s.entryAt q <;> rfl
  rw [heq]
  cases hs : e.slot with
  | none => simp
  | some k => simp [Option.any_eq_true, State.entryAt]

theorem atHighestGen_iff (s : State) (e : Entry) : atHighestGen s e = true ↔
    ∃ k : SlotIx, e.cls = .priv ∧ e.slot = some k ∧ s.cipher.slots[k].gen = 4294967295 := by
  cases hc : e.cls <;> cases hs : e.slot <;> simp [atHighestGen, State.instanceOf, hc, hs, Config.maxGen]

theorem hasJob_iff (l : List Job) (p : Pos) : l.any (fun j => j.pos == p) = true ↔ ∃ j ∈ l, j.pos = p := by
  simp

section Erase

variable {s : State} (ha : s.adminOpen = true) {position mode : Byte}

theorem entryAt_of_position {p : Pos} (h : position.toNat = p.val) :
    s.regions.table[position.toNat]? = s.entryAt p := by
  rw [State.entryAt, h]

include ha

theorem takeEraseRegion_badField (h : (mode ≠ 1 ∧ mode ≠ 2) ∨ 15 < position.toNat ∨
      s.regions.table[position.toNat]? = none ∨
      (mode = 1 ∧ ∃ e, s.regions.table[position.toNat]? = some e ∧ e.cls = .pub)) :
    takeEraseRegion position mode s = (.badField, [], s) := by
  by_cases hm : mode ≠ 1 ∧ mode ≠ 2
  · simp [takeEraseRegion, ha, modeOfByte_of_ne hm.1 hm.2, answer]
  · by_cases hp : 15 < position.toNat
    · simp [takeEraseRegion, ha, posOfByte_of_gt hp, answer]
    · have hpos : posOfByte position = some ⟨position.toNat, by omega⟩ := posOfByte_of_eq rfl
      have hat : s.entryAt ⟨position.toNat, by omega⟩ = s.regions.table[position.toNat]? := rfl
      rcases (h.resolve_left hm).resolve_left hp with hnone | ⟨rfl, e, he, hpub⟩
      · have hmatch : s.entryAt ⟨position.toNat, by omega⟩ = none := hat.trans hnone
        cases hmode : modeOfByte mode <;> simp [takeEraseRegion, ha, hpos, hmode, hmatch, answer]
      · simp [takeEraseRegion, ha, hpos, hat, he, hpub, answer, show modeOfByte 1#8 = some .quick from rfl]

theorem takeEraseRegion_accept {p : Pos} {e : Entry} {m : EraseMode} (hp : position.toNat = p.val)
    (he : s.regions.table[p.val]? = some e)
    (hm : mode = 1 ∧ m = .quick ∧ e.cls = .priv ∨ mode = 2 ∧ m = .full) :
    takeEraseRegion position mode s = acceptErase p e m s := by
  have hat : s.entryAt p = some e := he
  rcases hm with ⟨rfl, rfl, hc⟩ | ⟨rfl, rfl⟩
  · simp [takeEraseRegion, ha, posOfByte_of_eq hp, hat, hc, show modeOfByte 1#8 = some .quick from rfl]
  · simp [takeEraseRegion, ha, posOfByte_of_eq hp, hat, show modeOfByte 2#8 = some .full from rfl]

end Erase

section Accept

variable {s : State} {p : Pos} {e : Entry} {m : EraseMode}

theorem acceptErase_sharedKey (h : sharesKey s p e = true) : acceptErase p e m s = (.sharedKey, [], s) := if_pos h

variable (hs : sharesKey s p e = false)

include hs

theorem acceptErase_exists (h : ∃ j ∈ s.erase.queue, j.pos = p) : acceptErase p e m s = (.exists, [], s) := by
  rw [← hasJob_iff] at h
  simp only [acceptErase, hs, h, Bool.false_eq_true, ↓reduceIte]
  rfl

variable (hj : ∀ j ∈ s.erase.queue, j.pos ≠ p)

include hj

theorem acceptErase_busy (h : 4 ≤ s.erase.queue.length ∨ s.regions.apply = .draining) :
    acceptErase p e m s = (.busy, [], s) := by
  have hany : s.erase.queue.any (fun j => j.pos == p) = false := by simpa using hj
  have h : Config.jobMax ≤ s.erase.queue.length ∨ s.regions.apply = .draining := h
  simp only [acceptErase, hs, hany, h, Bool.false_eq_true, ↓reduceIte]
  rfl

variable (hl : s.erase.queue.length < 4) (hi : s.regions.apply = .idle)

include hl hi

theorem acceptErase_limit (h : atHighestGen s e = true) : acceptErase p e m s = (.eraseLimit, [], s) := by
  have hany : s.erase.queue.any (fun j => j.pos == p) = false := by simpa using hj
  have hfull : ¬(Config.jobMax ≤ s.erase.queue.length ∨ s.regions.apply = .draining) := by
    simp only [hi, reduceCtorEq, or_false]
    exact Nat.not_le.mpr hl
  simp only [acceptErase, hs, hany, hfull, h, Bool.false_eq_true, ↓reduceIte]
  rfl

theorem acceptErase_accepted (h : atHighestGen s e = false) :
    acceptErase p e m s = (.accepted, [],
      if s.erase.queue.isEmpty then
        startHead (requestCommit .sweep [] { s with erase.queue := s.erase.queue ++ [⟨p, m⟩] })
      else requestCommit .sweep [] { s with erase.queue := s.erase.queue ++ [⟨p, m⟩] }) := by
  have hany : s.erase.queue.any (fun j => j.pos == p) = false := by simpa using hj
  have hfull : ¬(Config.jobMax ≤ s.erase.queue.length ∨ s.regions.apply = .draining) := by
    simp only [hi, reduceCtorEq, or_false]
    exact Nat.not_le.mpr hl
  simp only [acceptErase, hs, hany, hfull, h, Bool.false_eq_true, ↓reduceIte]
  rfl

end Accept

/-! ### CANCEL_SWEEP (R100) -/

section Cancel

variable {s : State} (ha : s.adminOpen = true)

include ha

theorem takeCancelSweep_idle (h : s.erase.stage ≠ .sweeping) : takeCancelSweep s = (.notNow, [], s) := by
  simp [takeCancelSweep, ha, State.sweeping, h, answer]

variable {x : Sweep} (hs : s.erase.stage = .sweeping) (hx : s.erase.sweep = some x)

include hs hx

theorem takeCancelSweep_busy (h : x.phase ≠ .running) : takeCancelSweep s = (.busy, [], s) := by
  simp [takeCancelSweep, ha, State.sweeping, hs, hx, h, answer]

theorem takeCancelSweep_onTag {k : Chunk} (h : x.phase = .running) (hk : x.chunk = some k) (ht : k.onTag = true) :
    takeCancelSweep s = (.accepted, [], { s with erase.sweep := some { x with phase := .cancelling } }) := by
  simp [takeCancelSweep, ha, State.sweeping, hs, hx, h, hk, ht, answer, setSweep]

theorem takeCancelSweep_noChunk (h : x.phase = .running) (hk : x.chunk = none) :
    takeCancelSweep s = (.accepted, [], requestCommit .sweep []
      { s with erase.sweep := some { x with q := x.w, phase := .ending, outcome := .cancelled } }) := by
  simp [takeCancelSweep, ha, State.sweeping, hs, hx, h, hk, answer, cancelNow, beginEnding, dropChunk,
    releaseChunkHolds, setSweep]

end Cancel

/-! ### ENROLL (R133) -/

theorem otherWipe_iff (s : State) (p : ProfIx) : otherWipe s p = true ↔
    ∃ (r : ProfIx) (x : Profile), r ≠ p ∧ s.cred.profiles[r] = some x ∧ x.kind = .wipe := by
  simp [otherWipe, Option.any_eq_true]

theorem profileKindOfByte_of_kind {b : Byte} {k : ProfileKind}
    (h : b = 1 ∧ k = .admin ∨ b = 2 ∧ k = .user ∨ b = 3 ∧ k = .reader ∨ b = 4 ∧ k = .wipe) :
    profileKindOfByte b = some k := by
  rcases h with ⟨rfl, rfl⟩ | ⟨rfl, rfl⟩ | ⟨rfl, rfl⟩ | ⟨rfl, rfl⟩ <;> rfl

theorem profileKindOfByte_admin {b : Byte} {k : ProfileKind} (h : profileKindOfByte b = some k) :
    (k = .admin) = (b = 1) := by
  have hb : b = 1 ↔ b.toNat = 1 := ⟨fun h => by rw [h]; rfl, fun h => BitVec.eq_of_toNat_eq h⟩
  unfold profileKindOfByte at h
  rw [hb, eq_iff_iff]
  split at h <;> cases h <;> simp_all

theorem byte_index_eq_zero {b : Byte} (h : b.toNat < 8) : (⟨b.toNat, h⟩ : Fin 8) = 0 ↔ b = 0 := by
  rw [Fin.ext_iff]
  exact ⟨fun h => BitVec.eq_of_toNat_eq h, fun h => congrArg BitVec.toNat (a₂ := (0 : Byte)) h⟩

section EnrollRequest

variable {s : State} (ha : s.adminOpen = true) {slot kind : Byte}

include ha

theorem takeEnroll_enrolling (h : s.ctl.drive = .enrolling) : takeEnroll slot kind s = (.busy, [], s) := by
  simp [takeEnroll, ha, h, answer]

variable (hd : s.ctl.drive ≠ .enrolling)

include hd

theorem takeEnroll_badField (h : 7 < slot.toNat ∨ kind = 0 ∨ 4 < kind.toNat ∨ (slot = 0 ∧ kind ≠ 1) ∨
    (slot ≠ 0 ∧ kind = 1)) : takeEnroll slot kind s = (.badField, [], s) := by
  by_cases hp : 7 < slot.toNat
  · simp [takeEnroll, ha, hd, slotOfByte_of_gt hp, answer]
  · have hslot : slotOfByte slot = some ⟨slot.toNat, by omega⟩ := slotOfByte_of_eq rfl
    have hzero : (⟨slot.toNat, by omega⟩ : ProfIx) = 0 ↔ slot = 0 := byte_index_eq_zero (by omega)
    cases hk : profileKindOfByte kind with
    | none => simp [takeEnroll, ha, hd, hslot, hk, answer]
    | some k =>
      have hkind := profileKindOfByte_admin hk
      have hout : ¬(kind = 0 ∨ 4 < kind.toNat) := fun h => by simp [profileKindOfByte_of_out h] at hk
      have hne : (k = .admin) ≠ ((⟨slot.toNat, by omega⟩ : ProfIx) = 0) := by
        rw [hkind, hzero, ne_eq, eq_iff_iff]
        tauto
      simp only [takeEnroll, ha, hd, hslot, hk, hne, Bool.not_true, Bool.false_eq_true, not_false_eq_true, ne_eq,
        ↓reduceIte]
      rfl

variable {p : ProfIx} {k : ProfileKind} (hp : slotOfByte slot = some p) (hk : profileKindOfByte kind = some k)
  (hadmin : k = .admin ↔ p = 0)

include hp hk hadmin

theorem takeEnroll_exists (h : (p ≠ 0 ∧ s.cred.profiles[p] ≠ none) ∨ (k = .wipe ∧ otherWipe s p = true)) :
    takeEnroll slot kind s = (.exists, [], s) := by
  have hsame : ¬((k = .admin) ≠ (p = 0)) := not_not.mpr (propext hadmin)
  have h : (p ≠ 0 ∧ s.cred.profiles[p].isSome = true) ∨ (k = .wipe ∧ otherWipe s p = true) := by
    rwa [Option.isSome_iff_ne_none]
  simp only [takeEnroll, ha, hd, hp, hk, hsame, h, Bool.not_true, Bool.false_eq_true, ↓reduceIte]
  rfl

variable (hnew : ¬((p ≠ 0 ∧ s.cred.profiles[p] ≠ none) ∨ (k = .wipe ∧ otherWipe s p = true)))

include hnew

theorem takeEnroll_removing (h0 : p ≠ 0) (h : s.cred.removal[p] = true) :
    takeEnroll slot kind s = (.busy, [], s) := by
  have hsame : ¬((k = .admin) ≠ (p = 0)) := not_not.mpr (propext hadmin)
  rw [← Option.isSome_iff_ne_none] at hnew
  have h : (p ≠ 0 ∧ s.cred.removal[p] = true) = True := eq_true ⟨h0, h⟩
  simp only [takeEnroll, ha, hd, hp, hk, hsame, hnew, h, Bool.not_true, Bool.false_eq_true, ↓reduceIte]
  rfl

theorem takeEnroll_accepted (h : p ≠ 0 → s.cred.removal[p] = false) :
    takeEnroll slot kind s = (.accepted, [], startEnroll p k .opened .waitFirst s) := by
  have hsame : ¬((k = .admin) ≠ (p = 0)) := not_not.mpr (propext hadmin)
  rw [← Option.isSome_iff_ne_none] at hnew
  have h : ¬(p ≠ 0 ∧ s.cred.removal[p] = true) := fun hr => by simp [h hr.1] at hr
  simp only [takeEnroll, ha, hd, hp, hk, hsame, hnew, h, Bool.not_true, Bool.false_eq_true, ↓reduceIte]
  rfl

end EnrollRequest

/-! ### REMOVE_PROFILE (R140) -/

theorem lastHolder_of_slot {s : State} {r : ProfIx} (h : ∃ k : SlotIx, tableNames s.regions.table k = true ∧
    s.cipher.slots[k].mask &&& ~~~(BitVec.ofNat 8 (2 ^ r.val)) = 0) : lastHolder s r = true := by
  obtain ⟨k, hn, hm⟩ := h
  have hm : maskClear s.cipher.slots[k].mask r = 0 := hm
  simp only [lastHolder, List.any_eq_true, Bool.or_eq_true, Bool.and_eq_true, beq_iff_eq]
  exact ⟨k, List.mem_finRange k, .inl ⟨hn, hm⟩⟩

theorem lastHolder_of_idle {s : State} {r : ProfIx} (hi : s.regions.apply = .idle)
    (h : ∀ k : SlotIx, tableNames s.regions.table k = true →
      s.cipher.slots[k].mask &&& ~~~(BitVec.ofNat 8 (2 ^ r.val)) ≠ 0) : lastHolder s r = false := by
  rw [Bool.eq_false_iff, ne_eq, lastHolder, List.any_eq_true]
  rintro ⟨k, -, hk⟩
  rw [Bool.or_eq_true, Bool.and_eq_true, beq_iff_eq] at hk
  rcases hk with ⟨hn, hm⟩ | hk
  · exact h k hn hm
  · split at hk
    · simp [hi] at hk
    · cases hk

section Remove

variable {s : State} (ha : s.adminOpen = true) {slot : Byte}

include ha

theorem takeRemoveProfile_enrolling (h : s.ctl.drive = .enrolling) : takeRemoveProfile slot s = (.busy, [], s) := by
  simp [takeRemoveProfile, ha, h, answer]

variable (hd : s.ctl.drive ≠ .enrolling)

include hd

theorem takeRemoveProfile_badSlot (h : slot = 0 ∨ 7 < slot.toNat) :
    takeRemoveProfile slot s = (.badField, [], s) := by
  rcases h with rfl | h
  · simp [takeRemoveProfile, ha, hd, answer, show slotOfByte 0#8 = some 0 from rfl]
  · simp [takeRemoveProfile, ha, hd, answer, slotOfByte_of_gt h]

variable {r : ProfIx} (hr : slotOfByte slot = some r)

include hr

theorem takeRemoveProfile_empty (h : s.cred.profiles[r] = none) : takeRemoveProfile slot s = (.badField, [], s) := by
  have hbad : r = 0 ∨ s.cred.profiles[r].isNone = true := .inr (Option.isNone_iff_eq_none.mpr h)
  simp only [takeRemoveProfile, ha, hd, hr, hbad, Bool.not_true, Bool.false_eq_true, ↓reduceIte]
  rfl

variable (h0 : r ≠ 0) (hx : s.cred.profiles[r] ≠ none)

include h0 hx

theorem takeRemoveProfile_lastHolder (h : lastHolder s r = true) :
    takeRemoveProfile slot s = (.lastHolder, [], s) := by
  have hbad : ¬(r = 0 ∨ s.cred.profiles[r].isNone = true) := by simp only [h0, Option.isNone_iff_eq_none, hx, or_self,
    not_false_eq_true]
  simp only [takeRemoveProfile, ha, hd, hr, hbad, h, Bool.not_true, Bool.false_eq_true, ↓reduceIte]
  rfl

theorem takeRemoveProfile_accepted (h : lastHolder s r = false) :
    takeRemoveProfile slot s = (.accepted, [], requestCommit (.profile r) [.removal r]
      { s with cred.profiles := s.cred.profiles.set r none, cred.removal := s.cred.removal.set r true }) := by
  have hbad : ¬(r = 0 ∨ s.cred.profiles[r].isNone = true) := by simp only [h0, Option.isNone_iff_eq_none, hx, or_self,
    not_false_eq_true]
  simp only [takeRemoveProfile, ha, hd, hr, hbad, h, Bool.not_true, Bool.false_eq_true, ↓reduceIte]
  rfl

end Remove

/-! ### SET_OPTIONS (R184, R196) -/

theorem clamp_free (o : RawOptions) : o.clamp.free = max 1 (min 10 o.free.toNat) := by
  simp only [RawOptions.clamp]
  split_ifs <;> omega

theorem takeSetOptions_of_adminOpen {s : State} (h : s.adminOpen = true) (o : RawOptions) :
    takeSetOptions o s = (.accepted, [], requestCommit .options [] { s with window.staged := o }) := by
  simp [takeSetOptions, h, answer]

end Sys2Proof.Machine

namespace Sys2Proof.Proofs

open Sys2Proof Sys2Proof.Machine

/-- Settles O12: the window's checks before the taking, and what each taking gives in FAULT and without the admin. -/
theorem requestGates : Obligations.RequestGates := by
  refine ⟨fun s c tag seq code hr hw => ⟨fun hl => ?_, fun hl ht => ?_, fun hears hd hlo hhi => ?_,
    fun hears hd hp ho => ?_⟩, fun s tag seq code hears _ => ?_⟩
  · rw [exec_request hr, windowRequest_of_detached hl]
  · rw [exec_request hr, windowRequest_of_inUse hl ht]
  · exact exec_request_of_take hr hears (takingOf_fault hr hw hlo hhi hd)
  · have ha : s.arrived.adminOpen = false := by simpa [State.adminOpen, State.arrived] using ho
    exact exec_request_of_take hr hears (takingOf_denied hp hd ha)
  · exact exec_request_of_take (c := .unknownRequest tag seq code) rfl hears rfl

/-- Settles O8: each case of the taking; the snapshot of an accepted apply is read off in the state that the arrival
leaves, which has the tables and the slots of `s`. -/
theorem applyTableAnswers : Obligations.ApplyTableAnswers := by
  refine ⟨fun s tag seq hears hd ho => ⟨fun h => ?_, fun hi hq htd htr => ⟨fun r p h => ?_, fun h hx => ?_⟩⟩,
    fun s tag seq hears hd ho hi hq htd htr h hx htotal => ?_⟩
  · exact congrArg _ (windowRequest_of_take hears hd seq 7 (takeApplyTable_busy (arrived_adminOpen ho) h))
  · exact congrArg _ (windowRequest_of_take hears hd seq 7
      (takeApplyTable_invalid (s := s.arrived) (arrived_adminOpen ho) hi hq (testBusy_false (s := s) htd htr) h))
  · exact congrArg _ (windowRequest_of_take hears hd seq 7
      (takeApplyTable_exhausted (s := s.arrived) (arrived_adminOpen ho) hi hq (testBusy_false (s := s) htd htr) h
        ((applyExhausts_iff s).mpr hx)))
  · have hlow : applyExhausts s.arrived = false := by
      rw [← Bool.not_eq_true, applyExhausts_iff]
      exact fun ⟨k, hk, hg⟩ => hx k hk hg
    have htake := takeApplyTable_accepted (s := s.arrived) (arrived_adminOpen ho) hi hq
      (testBusy_false (s := s) htd htr) h hlow
    rw [drainCheck_of_total (s := { s.arrived with
      regions.snapshot := some (takeSnapshot s.arrived), regions.apply := .draining, filter.quiesce := .apply }) htotal,
      takeSnapshot_eq] at htake
    exact congrArg _ (windowRequest_of_take hears hd seq 7 htake)

/-- Settles O14: the refusals in the order of the taking's cases, and the acceptance behind other jobs. -/
theorem eraseRegionAnswers : Obligations.EraseRegionAnswers := by
  have none_shares {s : State} {p : Pos} {e : Entry} (h : ∀ (k : SlotIx) (q : Pos) (f : Entry), e.slot = some k →
      q ≠ p → s.regions.table[q.val]? = some f → f.slot ≠ some k) : sharesKey s.arrived p e = false := by
    rw [← Bool.not_eq_true, sharesKey_iff]
    exact fun ⟨k, q, f, hk, hq, hf, hs⟩ => h k q f hk hq hf hs
  refine ⟨fun s tag seq position mode hears hd ho => ?_,
    fun s tag seq position mode p e m hears hd ho hp hm he hshare hj hl hi hg hne => ?_⟩
  · have ha := arrived_adminOpen ho
    have taken {r : Result} {t : State} (h : takeEraseRegion position mode s.arrived = (r, [], t)) :
        exec (.eraseRegion tag seq position mode) s = .next (t.answered tag seq 0x08 r []) :=
      congrArg _ (windowRequest_of_take hears hd seq 8 h)
    refine ⟨fun h => taken (takeEraseRegion_badField ha h), fun p e hp he hm => ?_⟩
    obtain ⟨m, haccept⟩ : ∃ m, takeEraseRegion position mode s.arrived = acceptErase p e m s.arrived := by
      rcases hm with hm | ⟨hm, hc⟩
      · exact ⟨.full, takeEraseRegion_accept (s := s.arrived) ha hp he (.inr ⟨hm, rfl⟩)⟩
      · exact ⟨.quick, takeEraseRegion_accept (s := s.arrived) ha hp he (.inl ⟨hm, rfl, hc⟩)⟩
    refine ⟨fun h => taken (haccept.trans (acceptErase_sharedKey ((sharesKey_iff ..).mpr h))), fun hshare =>
      ⟨fun h => taken (haccept.trans (acceptErase_exists (none_shares hshare) h)), fun hj =>
        ⟨fun h => taken (haccept.trans (acceptErase_busy (none_shares hshare) hj h)), fun k hl hi hc hk hg =>
          taken (haccept.trans (acceptErase_limit (none_shares hshare) hj hl hi
            ((atHighestGen_iff ..).mpr ⟨k, hc, hk, hg⟩)))⟩⟩⟩
  · have hgen : atHighestGen s.arrived e = false := by
      rw [← Bool.not_eq_true, atHighestGen_iff]
      exact fun ⟨k, hc, hk, hx⟩ => hg k hc hk hx
    have hm : mode = 1 ∧ m = .quick ∧ e.cls = .priv ∨ mode = 2 ∧ m = .full := hm
    have htake := (takeEraseRegion_accept (s := s.arrived) (arrived_adminOpen ho) hp he hm).trans
      (acceptErase_accepted (none_shares hshare) hj hl hi hgen)
    have hempty : ¬(s.arrived.erase.queue.isEmpty = true) := fun h => hne (List.isEmpty_iff.mp h)
    rw [if_neg hempty] at htake
    exact congrArg _ (windowRequest_of_take hears hd seq 8 htake)

/-- Settles O16: each case of the taking. -/
theorem cancelSweepAnswers : Obligations.CancelSweepAnswers := by
  intro s tag seq hears hd ho
  have ha := arrived_adminOpen ho
  have taken {r : Result} {t : State} (h : takeCancelSweep s.arrived = (r, [], t)) :
      exec (.cancelSweep tag seq) s = .next (t.answered tag seq 0x09 r []) :=
    congrArg _ (windowRequest_of_take hears hd seq 9 h)
  exact ⟨fun h => taken (takeCancelSweep_idle ha h), fun x hs hx =>
    ⟨fun h => taken (takeCancelSweep_busy ha hs hx h), fun k h hk ht => taken (takeCancelSweep_onTag ha hs hx h hk ht),
      fun h hk => taken (takeCancelSweep_noChunk ha hs hx h hk)⟩⟩

/-- Settles O17: each case of the taking; the drive state's change touches the keypad's background alone. -/
theorem enrollAnswers : Obligations.EnrollAnswers := by
  intro s tag seq slot kind hears hd ho
  have ha := arrived_adminOpen ho
  have taken {r : Result} {t : State} (h : takeEnroll slot kind s.arrived = (r, [], t)) :
      exec (.enroll tag seq slot kind) s = .next (t.answered tag seq 0x0A r []) :=
    congrArg _ (windowRequest_of_take hears hd seq 10 h)
  refine ⟨fun h => taken (takeEnroll_enrolling ha h), fun hne => ⟨fun h => taken (takeEnroll_badField ha hne h),
    fun p k hp hk hadmin => ⟨fun h => ?_, fun hfree hwipe => ?_⟩⟩⟩
  · rw [← otherWipe_iff] at h
    exact taken (takeEnroll_exists ha hne (slotOfByte_of_eq hp) (profileKindOfByte_of_kind hk) hadmin h)
  · have hnew : ¬((p ≠ 0 ∧ s.arrived.cred.profiles[p] ≠ none) ∨ (k = .wipe ∧ otherWipe s.arrived p = true)) := by
      rw [otherWipe_iff]
      rintro (⟨h0, hx⟩ | ⟨hk, r, x, hr, hx, hw⟩)
      · exact hx (hfree h0)
      · exact hwipe r x hk hr hx hw
    have hp := slotOfByte_of_eq hp
    have hk := profileKindOfByte_of_kind hk
    refine ⟨fun h0 h => taken (takeEnroll_removing ha hne hp hk hadmin hnew h0 h), fun h => ?_⟩
    have htake := takeEnroll_accepted ha hne hp hk hadmin hnew h
    obtain ⟨hkeys, hbuffer, hphase, htimer, honeShot, -⟩ := setDrive_keypad .enrolling
      { s.arrived with
        cred.enroll := some ⟨p, k, .opened, .waitFirst, [], false, false, false⟩, cred.lastEnroll := .running }
    rw [startEnroll, setDrive_eq] at htake
    exact ⟨_, taken htake, setDrive_selection rfl, hkeys, hbuffer, hphase, htimer, honeShot⟩

/-- Settles O18: each case of the taking. -/
theorem removeProfileAnswers : Obligations.RemoveProfileAnswers := by
  intro s tag seq slot hears hd ho
  have ha := arrived_adminOpen ho
  have taken {r : Result} {t : State} (h : takeRemoveProfile slot s.arrived = (r, [], t)) :
      exec (.removeProfile tag seq slot) s = .next (t.answered tag seq 0x0B r []) :=
    congrArg _ (windowRequest_of_take hears hd seq 11 h)
  exact ⟨fun h => taken (takeRemoveProfile_enrolling ha h), fun hne =>
    ⟨fun h => taken (takeRemoveProfile_badSlot ha hne h), fun r hr h0 =>
      ⟨fun h => taken (takeRemoveProfile_empty ha hne (slotOfByte_of_eq hr) h), fun hx =>
        ⟨fun h => taken (takeRemoveProfile_lastHolder ha hne (slotOfByte_of_eq hr) h0 hx (lastHolder_of_slot h)),
          fun hi h => taken (takeRemoveProfile_accepted ha hne (slotOfByte_of_eq hr) h0 hx
            (lastHolder_of_idle hi h))⟩⟩⟩⟩

/-- Settles O19: the taking with admin open; the clamps as arithmetic. -/
theorem startOptions : Obligations.StartOptions := by
  refine ⟨fun s tag seq m f t v c p hears hd ho => ?_, fun o => ?_⟩
  · exact congrArg _ (windowRequest_of_take hears hd seq 12 (takeSetOptions_of_adminOpen (arrived_adminOpen ho) _))
  · have hzero : o.threshold.toNat = 0 ↔ o.threshold = 0 :=
      ⟨fun h => BitVec.eq_of_toNat_eq h, fun h => congrArg BitVec.toNat h⟩
    refine ⟨?_, clamp_free o, fun h => ?_, fun h => ?_, ?_, ?_, ?_⟩ <;> simp only [RawOptions.clamp]
    · split_ifs <;> omega
    · rw [if_pos (hzero.mpr h)]
    · rw [if_neg (mt hzero.mp h)]
      split_ifs <;> omega
    · split_ifs <;> omega
    · split_ifs <;> omega
    · split_ifs <;> omega

end Sys2Proof.Proofs
end

section
/-! SUPPORT. The moment in which a request arrives as the inactivity timer stands at 0 ms: what LOCK and WIPE_ALL leave
then. The arrivals of FRONT_REQUEST_ARRIVAL, the request sectors, ATTACH and the self tests. -/

namespace Sys2Proof.Machine

open Sys2Proof

/-! ### A request as the inactivity timer runs out (R160, R161) -/

/-- An OPEN drive whose inactivity timer stands at 0 ms, its expiry not yet taken. -/
def State.runningOut : State :=
  { State.reset with
    front.link := .attached
    power.source := .link
    ctl := ⟨.opened, some 0, true, none, some 0, none, none, false, false⟩ }

theorem runningOut_hears : State.runningOut.hears 0 := ⟨rfl, rfl⟩

theorem runningOut_withdrawn : State.runningOut.ctl.withdrawn = false := rfl

/-- The arrival of LOCK restarts the timer before the drive locks, and the mark of the withdrawn expiry stays
(R160). -/
theorem lock_runningOut_withdrawn {t : State} (h : exec (.lock 0 0) State.runningOut = .next t) :
    t.ctl.withdrawn = true := by
  obtain rfl := Host.Outcome.next.inj h
  decide

/-- The same for WIPE_ALL. -/
theorem wipeAll_runningOut_withdrawn {t : State} (h : exec (.wipeAll 0 0) State.runningOut = .next t) :
    t.ctl.withdrawn = true := by
  obtain rfl := Host.Outcome.next.inj h
  decide

/-! ### The keypad's background (R127) -/

theorem selectBackground_eq (s : State) :
    selectBackground s = { s with keypad := (selectBackground s).keypad } := by
  unfold selectBackground
  split
  · rfl
  · split <;> rfl

theorem selectBackground_keypad (s : State) :
    (selectBackground s).keypad.keys = s.keypad.keys ∧ (selectBackground s).keypad.buffer = s.keypad.buffer ∧
      (selectBackground s).keypad.phase = s.keypad.phase ∧ (selectBackground s).keypad.timer = s.keypad.timer ∧
      (selectBackground s).keypad.oneShot = s.keypad.oneShot := by
  unfold selectBackground
  split
  · exact ⟨rfl, rfl, rfl, rfl, rfl⟩
  · split <;> exact ⟨rfl, rfl, rfl, rfl, rfl⟩

theorem selectBackground_selection {s : State} {p : Pattern} (h : backgroundFor s.ctl.drive s.ctl.attached = some p) :
    (selectBackground s).keypad.selection = p := by
  unfold selectBackground
  simp only [h]
  split
  · next heq => exact heq.symm
  · rfl

/-! ### FRONT_REQUEST_ARRIVAL (R7, R8) -/

theorem tagOfByte_ofNat (tag : Tag) : tagOfByte (BitVec.ofNat 8 tag.val) = tag := by
  apply Fin.ext
  simp only [tagOfByte, BitVec.toNat_ofNat]
  omega

theorem exec_arrival_detached {s : State} (h : s.front.link = .detached) (kind tag : Byte) (start : BitVec 32)
    (count : BitVec 16) (x : Sector) : exec (.frontRequestArrival kind tag start count x) s = .next s := by
  have hlink : s.front.link ≠ .attached := by simp [h]
  exact congrArg _ (if_neg hlink)

theorem exec_arrival {s : State} (h : s.front.link = .attached) (kind : Byte) (tag : Tag) (start : BitVec 32)
    (count : BitVec 16) (x : Sector) :
    exec (.frontRequestArrival kind (BitVec.ofNat 8 tag.val) start count x) s =
      .next (arrivalChecks kind tag start.toNat count.toNat x s.arrived) := by
  rw [← reportArrival_eq_arrived]
  exact congrArg _ ((if_pos h).trans (by rw [tagOfByte_ofNat]))

section Checks

variable {s : State} {tag : Tag} {kind : Byte} {start count : Nat} {x : Sector}

theorem arrivalChecks_inUse (h : s.front.tags[tag] ≠ .free) :
    arrivalChecks kind tag start count x s = s.replied tag .tagInUse := if_pos h

variable (hfree : s.front.tags[tag] = .free)

include hfree

theorem arrivalChecks_badKind (h : kindOfByte kind = none) :
    arrivalChecks kind tag start count x s = s.replied tag .badRequest := by
  unfold arrivalChecks
  rw [if_neg (not_not.mpr hfree), h]
  rfl

theorem arrivalChecks_of_kind {k : Kind} (h : kindOfByte kind = some k) :
    arrivalChecks kind tag start count x s =
      if k.ranged then
        if rangeIsBad start count then s.replied tag .badRequest
        else if Config.windowBase ≤ start then windowAccess k tag start count x s
        else enqueueRequest k tag start count s
      else enqueueRequest k tag start count s := by
  unfold arrivalChecks
  rw [if_neg (not_not.mpr hfree), h]
  rfl

variable {k : Kind} (hk : kindOfByte kind = some k)

include hk

theorem arrivalChecks_unranged (h : k.ranged = false) :
    arrivalChecks kind tag start count x s = enqueueRequest k tag start count s := by
  rw [arrivalChecks_of_kind hfree hk, h, if_neg Bool.false_ne_true]

variable (hr : k.ranged = true)

include hr

theorem arrivalChecks_badRange (h : rangeIsBad start count = true) :
    arrivalChecks kind tag start count x s = s.replied tag .badRequest := by
  rw [arrivalChecks_of_kind hfree hk, if_pos hr, if_pos h]

variable (hg : rangeIsBad start count = false)

include hg

theorem arrivalChecks_window (h : Config.windowBase ≤ start) :
    arrivalChecks kind tag start count x s = windowAccess k tag start count x s := by
  rw [arrivalChecks_of_kind hfree hk, if_pos hr, hg, if_neg Bool.false_ne_true, if_pos h]

theorem arrivalChecks_queued (h : start < Config.windowBase) :
    arrivalChecks kind tag start count x s = enqueueRequest k tag start count s := by
  rw [arrivalChecks_of_kind hfree hk, if_pos hr, hg, if_neg Bool.false_ne_true, if_neg (Nat.not_le.mpr h)]

end Checks

theorem kindOfByte_out {b : Byte} (h : b = 0 ∨ 5 < b.toNat) : kindOfByte b = none := by
  have h : b.toNat = 0 ∨ 5 < b.toNat := h.imp_left (fun h => by rw [h]; rfl)
  unfold kindOfByte
  split
  · omega
  · omega
  · omega
  · omega
  · omega
  · rfl

/-- The kind bytes that name a range of sectors. -/
theorem kindOfByte_ranged {b : Byte} (h : b = 1 ∨ b = 2 ∨ b = 3) :
    ∃ k : Kind, kindOfByte b = some k ∧ k.ranged = true ∧ (k = .write ↔ b = 2) ∧ (k = .read ↔ b = 1) := by
  rcases h with rfl | rfl | rfl
  · exact ⟨.read, rfl, rfl, by decide, by decide⟩
  · exact ⟨.write, rfl, rfl, by decide, by decide⟩
  · exact ⟨.discard, rfl, rfl, by decide, by decide⟩

theorem rangeIsBad_iff (start count : Nat) : rangeIsBad start count = true ↔
    count = 0 ∨ 256 < count ∨ 4294967296 < start + count ∨
      (start < 4294967232 ∧ 4294967232 < start + count) := by
  simp [rangeIsBad, Config.maxCount, Config.lbaLimit, Config.windowBase, or_assoc]

theorem toNat_eq_zero_iff {w : Nat} (b : BitVec w) : b.toNat = 0 ↔ b = 0 :=
  ⟨fun h => BitVec.eq_of_toNat_eq (by simpa using h), fun h => by simp [h]⟩

/-! ### Request sectors (R189) -/

/-- The one sector at W that carries a signed request is a request row's arrival with that sector's taking (R8). -/
theorem exec_signed {x : Sector} (hx : requestSigned x = true) (s : State) (tag : Tag) :
    exec (.frontRequestArrival 2 (BitVec.ofNat 8 tag.val) 4294967232 1 x) s =
      .next (windowRequest tag (requestSeq x) (requestCode x) (takeSector x) s) := by
  cases hl : s.front.link with
  | detached => rw [exec_arrival_detached hl, windowRequest_of_detached hl]
  | attached =>
    rw [exec_arrival hl]
    refine congrArg _ ?_
    by_cases ht : s.front.tags[tag] = .free
    · have ht' : s.arrived.front.tags[tag] = .free := ht
      rw [arrivalChecks_window ht' (show kindOfByte 2 = some .write from rfl) rfl (by decide) (by decide),
        windowRequest_of_hears ⟨hl, ht⟩, windowAccess, if_pos ⟨rfl, rfl, rfl⟩, windowSector, if_pos hx]
      rfl
    · have ht' : s.arrived.front.tags[tag] ≠ .free := ht
      rw [arrivalChecks_inUse ht', windowRequest_of_inUse hl ht]

/-- The row that a request sector stands for has its sequence, its code and its taking; a sector without a row carries
a SELF_TEST whose selection names no test. -/
theorem requestRow_cases (tag : Tag) (x : Sector) :
    (∃ c, requestRow tag x = some c ∧ c.request = some (tag, requestSeq x, requestCode x) ∧
      takingOf c = takeSector x) ∨
    (requestRow tag x = none ∧ requestCode x = 0x0D ∧ takeSector x = faultGate (answer .badField)) := by
  obtain ⟨n, hn⟩ : ∃ n, (requestCode x).toNat = n := ⟨_, rfl⟩
  have hcode : requestCode x = BitVec.ofNat 8 n := by rw [← hn, BitVec.ofNat_toNat, BitVec.setWidth_eq]
  unfold requestRow takeSector
  rw [hn]
  rcases n with _ | _ | _ | _ | _ | _ | _ | _ | _ | _ | _ | _ | _ | _ | _ | n
  case succ.succ.succ.succ.succ.succ.succ.succ.succ.succ.succ.succ.succ.zero =>
    generalize (sectorByte x 8).toNat = m
    rcases m with _ | _ | _ | _ | m
    · exact .inr ⟨rfl, hcode, rfl⟩
    · exact .inl ⟨_, rfl, by rw [hcode]; rfl, rfl⟩
    · exact .inl ⟨_, rfl, by rw [hcode]; rfl, rfl⟩
    · exact .inl ⟨_, rfl, by rw [hcode]; rfl, rfl⟩
    · exact .inr ⟨rfl, hcode, rfl⟩
  all_goals exact .inl ⟨_, rfl, by rw [hcode]; rfl, rfl⟩

end Sys2Proof.Machine

namespace Sys2Proof.Proofs

open Sys2Proof Sys2Proof.Machine

/-- Refutes O4: LOCK as the inactivity timer stands at 0 ms marks the timer's expiry withdrawn, where the statement
leaves the mark as it was. -/
theorem not_lockRequestLocks : ¬ Obligations.LockRequestLocks := by
  intro h
  obtain ⟨k, hexec, -⟩ := h.1 State.runningOut 0 0 runningOut_hears rfl rfl rfl
  have hmark := lock_runningOut_withdrawn hexec
  exact Bool.false_ne_true (runningOut_withdrawn.symm.trans hmark)

/-- Refutes O21: WIPE_ALL as the inactivity timer stands at 0 ms marks the timer's expiry withdrawn, where the
statement leaves the mark as it was. -/
theorem not_wipeAllStartsWipe : ¬ Obligations.WipeAllStartsWipe := by
  intro h
  obtain ⟨t, hexec, -, -, hctl, -⟩ := h State.runningOut 0 0 runningOut_hears (by decide) (by decide) rfl rfl rfl rfl
  have hmark := wipeAll_runningOut_withdrawn hexec
  rw [hctl] at hmark
  exact Bool.false_ne_true (runningOut_withdrawn.symm.trans hmark)

/-- Settles O11: the arrival of a signed sector is a request row's arrival with the sector's taking, which is the taking
of the row that the sector stands for. -/
theorem requestSectorIsItsRow : Obligations.RequestSectorIsItsRow := by
  intro s tag x hx
  refine ⟨fun c hc => ?_, fun hnone hears => ?_⟩
  · obtain ⟨_, hc', hr, htake⟩ := (requestRow_cases tag x).resolve_right (fun h => by simp [h.1] at hc)
    obtain rfl := Option.some.inj (hc.symm.trans hc')
    rw [exec_signed hx, exec_request hr, htake]
  · obtain ⟨-, hcode, htake⟩ := (requestRow_cases tag x).resolve_left (fun ⟨c, hc, _⟩ => by simp [hc] at hnone)
    rw [exec_signed hx, hcode, htake, windowRequest_of_hears hears]
    by_cases hd : s.ctl.drive = .fault
    · rw [faultGate_fault (s := s.arrived) hd, if_pos hd]
    · rw [faultGate_open (s := s.arrived) hd, if_neg hd]
      rfl

/-- Settles O23: the checks that the kind's range passes, or that SYNC and SIZE do not meet. -/
theorem arrivalQueues : Obligations.ArrivalQueues := by
  intro s kind k tag start count x hears hkind
  have hfree : s.arrived.front.tags[tag] = .free := hears.2
  rw [exec_arrival hears.1]
  refine congrArg _ ?_
  rcases hkind with ⟨hk, h0, hmax, hend⟩ | hk
  · have hk : kindOfByte kind = some k ∧ k.ranged = true := by
      rcases hk with ⟨rfl, rfl⟩ | ⟨rfl, rfl⟩ | ⟨rfl, rfl⟩ <;> exact ⟨rfl, rfl⟩
    have h0 : count.toNat ≠ 0 := mt (toNat_eq_zero_iff count).mp h0
    have hgood : rangeIsBad start.toNat count.toNat = false := by
      rw [← Bool.not_eq_true, rangeIsBad_iff]
      omega
    exact arrivalChecks_queued hfree hk.1 hk.2 hgood (Nat.lt_of_lt_of_le (by omega) hend)
  · have hk : kindOfByte kind = some k ∧ k.ranged = false := by
      rcases hk with ⟨rfl, rfl⟩ | ⟨rfl, rfl⟩ <;> exact ⟨rfl, rfl⟩
    exact arrivalChecks_unranged hfree hk.1 hk.2

/-- Settles O22: the checks in their order. -/
theorem arrivalChecks : Obligations.ArrivalChecks := by
  refine ⟨fun s kind tag start count x => ⟨fun hl => exec_arrival_detached hl .., fun hl ht => ?_,
    fun hears hbad => ?_⟩, fun s kind tag start count x hears hkind h0 hstart hend => ?_⟩
  · rw [exec_arrival hl]
    exact congrArg _ (arrivalChecks_inUse (s := s.arrived) ht)
  · have hfree : s.arrived.front.tags[tag] = .free := hears.2
    rw [exec_arrival hears.1]
    refine congrArg _ ?_
    rcases hbad with hkind | ⟨hkind, hrange⟩
    · exact arrivalChecks_badKind hfree (kindOfByte_out hkind)
    · obtain ⟨k, hk, hr, -⟩ := kindOfByte_ranged hkind
      rw [← toNat_eq_zero_iff] at hrange
      exact arrivalChecks_badRange hfree hk hr ((rangeIsBad_iff ..).mpr hrange)
  · have hfree : s.arrived.front.tags[tag] = .free := hears.2
    obtain ⟨k, hk, hr, hwrite, hread⟩ := kindOfByte_ranged hkind
    have h0 : count.toNat ≠ 0 := mt (toNat_eq_zero_iff count).mp h0
    have hcount : count.toNat = 1 ↔ count = 1 :=
      ⟨fun h => BitVec.eq_of_toNat_eq h, fun h => congrArg BitVec.toNat (a₂ := (1 : BitVec 16)) h⟩
    have hbase (a : BitVec 32) : start.toNat = a.toNat ↔ start = a :=
      ⟨fun h => BitVec.eq_of_toNat_eq h, fun h => congrArg BitVec.toNat h⟩
    have hgood : rangeIsBad start.toNat count.toNat = false := by
      rw [← Bool.not_eq_true, rangeIsBad_iff]
      omega
    rw [exec_arrival hears.1, arrivalChecks_window hfree hk hr hgood hstart]
    have hsector : (k = .write ∧ count.toNat = 1 ∧ start.toNat = Config.windowBase) ↔
        (kind = 2 ∧ start = 4294967232 ∧ count = 1) := by
      rw [hwrite, hcount, ← hbase 4294967232]
      tauto
    have hresponse : (k = .read ∧ count.toNat = 1 ∧ start.toNat = Config.windowBase + 1) ↔
        (kind = 1 ∧ start = 4294967233 ∧ count = 1) := by
      rw [hread, hcount, ← hbase 4294967233]
      tauto
    unfold windowAccess
    refine ⟨fun h1 h2 h3 => congrArg _ ?_, fun hw hr => congrArg _ ?_⟩
    · have hno : ¬(kind = 2 ∧ start = 4294967232 ∧ count = 1) := by
        rw [h1]
        exact fun h => absurd h.1 (by decide)
      rw [if_neg (mt hsector.mp hno), if_pos (hresponse.mpr ⟨h1, h2, h3⟩)]
      rfl
    · rw [if_neg (mt hresponse.mp (fun ⟨h1, h2, h3⟩ => hr.elim (· h1) (fun h => h.elim (· h2) (· h3))))]
      split_ifs with hin
      · obtain ⟨h1, h2, h3⟩ := hsector.mp hin
        have hunsigned : requestSigned x = false :=
          ((hw.resolve_left (not_not.mpr h1)).resolve_left (not_not.mpr h2)).resolve_left (not_not.mpr h3)
        rw [windowSector, hunsigned]
        rfl
      · rfl

end Sys2Proof.Proofs
end

section
/-! SUPPORT. Locking, the failure of an enrollment and the PRESS, in terms of the state that each leaves; the timers'
expiries, the scan, the patterns, STANDBY and the wake. -/

namespace Sys2Proof.Machine

open Sys2Proof

/-! ### The standby decision (R203) -/

/-- With the idle timer not expired the standby conditions fail. -/
theorem standbyCheck_of_idle {s : State} (h : s.power.idle ≠ .expired) : standbyCheck s = s := by
  simp [standbyCheck, State.standbyDue, h]

theorem standbyCheck_of_awake {s : State} (h : s.staysAwake) : standbyCheck s = s :=
  h.elim standbyCheck_of_link standbyCheck_of_idle

/-- While the standby conditions fail nothing happens. -/
theorem standbyCheck_of_not_due {s : State} (h : s.standbyDue = false) : standbyCheck s = s := by
  simp [standbyCheck, h]

theorem standbyCheck_of_due {s : State} (h : s.standbyDue = true) : standbyCheck s = { s with
    power := { s.power with mode := .standby, lastScan := some s.keypad.keys }
    keypad := { s.keypad with keys := Vector.replicate 12 ⟨false, 0⟩, player := none, oneShot := none } } := by
  simp [standbyCheck, h, leaveActive]

theorem standbyDue_iff (s : State) : s.standbyDue = true ↔
    s.power.on = true ∧ s.power.idle = .expired ∧ s.power.mode = .active ∧ s.power.source = .battery ∧
      (s.ctl.drive = .factory ∨ s.ctl.drive = .locked ∨ s.ctl.drive = .backoff ∨ s.ctl.drive = .fault) ∧
      s.store.busy = none ∧ (s.ctl.drive = .fault ∨ s.store.queue = []) := by
  simp [State.standbyDue, and_assoc, or_assoc]

/-! ### Locking (R139, R163) -/

theorem cancelEnrollAtLock_none {s : State} (h : s.cred.enroll = none) : cancelEnrollAtLock s = s := by
  simp [cancelEnrollAtLock, h]

/-- The state of a lock before the drive state is set. -/
def State.closing (s : State) : State :=
  { closeSlots s with ctl.openProfile := none, ctl.window := none, ctl.inactivity := none }

/-- A lock outside an enrollment. -/
theorem lockDrive_shut {s : State} (h : s.cred.enroll = none) :
    ∃ k : KeypadUnit, lockDrive s = s.shut k ∧ k.selection = .idleLocked ∧ k.keys = s.keypad.keys ∧
      k.buffer = s.keypad.buffer ∧ k.phase = s.keypad.phase ∧ k.timer = s.keypad.timer ∧
      k.oneShot = s.keypad.oneShot := by
  have hlock : lockDrive s = setDrive .locked s.closing :=
    congrArg (setDrive .locked) (cancelEnrollAtLock_none (s := s.closing) h)
  obtain ⟨hkeys, hbuffer, hphase, htimer, honeShot, -⟩ := setDrive_keypad .locked s.closing
  exact ⟨_, hlock.trans (setDrive_eq .locked s.closing), setDrive_selection rfl, hkeys, hbuffer, hphase, htimer,
    honeShot⟩

/-- A lock in an enrollment from OPEN. -/
theorem lockDrive_lockedFrom {s : State} {e : Enroll} (he : s.cred.enroll = some e) (ho : e.origin = .opened) :
    s.lockedFrom e (lockDrive s) := by
  have hcancel : cancelEnrollAtLock s.closing =
      if e.step = .committing then { s.closing with cred.enroll := some { e with cancelled := true } }
      else endCollection { s.closing with cred.enroll := none, cred.lastEnroll := .cancelled } := by
    have he' : s.closing.cred.enroll = some e := he
    simp [cancelEnrollAtLock, he', ho]
  by_cases hc : e.step = .committing
  · rw [if_pos hc] at hcancel
    have hlock : lockDrive s = setDrive .locked _ := congrArg (setDrive .locked) hcancel
    obtain ⟨hkeys, hbuffer, hphase, htimer, honeShot, -⟩ :=
      setDrive_keypad .locked { s.closing with cred.enroll := some { e with cancelled := true } }
    rw [setDrive_eq] at hlock
    refine ⟨_, ?_, setDrive_selection rfl, hkeys, honeShot, fun h => absurd hc h, fun _ => ⟨hbuffer, hphase, htimer⟩⟩
    rw [hlock, CredentialUnit.atLock, if_pos hc]
    rfl
  · rw [if_neg hc] at hcancel
    have hlock : lockDrive s = setDrive .locked _ := congrArg (setDrive .locked) hcancel
    obtain ⟨hkeys, hbuffer, hphase, htimer, honeShot, -⟩ :=
      setDrive_keypad .locked (endCollection { s.closing with cred.enroll := none, cred.lastEnroll := .cancelled })
    rw [setDrive_eq] at hlock
    refine ⟨_, ?_, setDrive_selection rfl, hkeys, honeShot, fun _ => ⟨hbuffer, hphase, htimer⟩, fun h => absurd h hc⟩
    rw [hlock, CredentialUnit.atLock, if_neg hc]
    rfl

theorem lockTrigger_of_opened {s : State} (h : s.ctl.drive = .opened) : lockTrigger s = lockDrive s := by
  simp [lockTrigger, State.lockable, h]

theorem lockTrigger_of_enrolling {s : State} {e : Enroll} (h : s.ctl.drive = .enrolling)
    (he : s.cred.enroll = some e) (ho : e.origin = .opened) : lockTrigger s = lockDrive s := by
  simp [lockTrigger, State.lockable, State.enrollingFrom, h, he, ho]

/-! ### The failure of an enrollment (R138) -/

theorem failEnroll_failedFrom {s : State} (hm : s.power.mode = .active) (e : Enroll) (r : EnrollResult) :
    s.failedFrom e r (failEnroll e r s) := by
  have hshot : requestOneShot .reject (endCollection { s with cred.enroll := none, cred.lastEnroll := r }) =
      { s with
        cred := { s.cred with enroll := none, lastEnroll := r }
        keypad := { s.keypad with
          buffer := [], phase := none, timer := none, oneShot := some ⟨.reject, 0, 100, 3⟩ } } := if_pos hm
  obtain ⟨hkeys, hbuffer, hphase, htimer, honeShot, -⟩ := setDrive_keypad e.origin.drive
    { s with
      cred := { s.cred with enroll := none, lastEnroll := r }
      keypad := { s.keypad with buffer := [], phase := none, timer := none, oneShot := some ⟨.reject, 0, 100, 3⟩ } }
  refine ⟨_, ?_, hbuffer, hphase, htimer, honeShot, hkeys⟩
  unfold failEnroll
  rw [hshot, setDrive_eq]
  cases e.origin <;> rfl

/-! ### ATTACH (R3, R158, R205) -/

/-- What an ATTACH that is taken sets, before the background follows. -/
def State.attaching (s : State) : State :=
  { s with
    front.link := .attached
    power := { s.power with
      source := .link
      mode := if s.power.mode = .standby then .settling else s.power.mode
      settling := if s.power.mode = .standby then some 16 else s.power.settling }
    ctl := { s.ctl with
      attached := true
      window := if s.ctl.drive = .opened then none else s.ctl.window
      inactivity :=
        if s.ctl.drive = .opened then
          (if s.store.effective.inactivity = 0 then none
           else some (60000 * 2 ^ (s.store.effective.inactivity - 1)))
        else s.ctl.inactivity } }

theorem attachTaken_eq (s : State) : attachTaken s = selectBackground s.attaching := by
  unfold attachTaken State.attaching startInactivity
  by_cases hm : s.power.mode = .standby <;> by_cases hd : s.ctl.drive = .opened <;> simp [hm, hd, inactivityMs]

/-! ### The scan (R113 to R115) -/

theorem debounceKey_eq (seen : Bool) (k : KeyState) : debounceKey seen k =
    if seen = k.down then ⟨k.down, 0⟩ else if 2 ≤ k.run then ⟨!k.down, 0⟩ else ⟨k.down, k.run + 1⟩ := by
  unfold debounceKey
  simp only [Nat.reduceLeDiff, show (3 ≤ k.run + 1) ↔ 2 ≤ k.run by omega]

theorem debounceAll_get (seen : BitVec 12) (keys : Vector KeyState 12) (i : KeyIx) :
    (debounceAll seen keys)[i] = debounceKey (seen.getLsbD i.val) keys[i] := by
  simp [debounceAll]

theorem pressOf_none {was now : Vector KeyState 12}
    (h : ∀ i : KeyIx, was[i].down = false → now[i].down = true → ∃ j : KeyIx, j ≠ i ∧ now[j].down = true) :
    pressOf was now = none := by
  unfold pressOf
  rw [List.find?_eq_none]
  intro i _ hi
  simp only [Bool.and_eq_true, Bool.not_eq_true', List.all_eq_true, List.mem_finRange, forall_const,
    Bool.or_eq_true, beq_iff_eq] at hi
  obtain ⟨⟨hwas, hnow⟩, hall⟩ := hi
  obtain ⟨j, hne, hj⟩ := h i hwas hnow
  have hup : now[j].down = false := (hall j).resolve_left hne
  exact absurd (hup.symm.trans hj) Bool.false_ne_true

theorem pressOf_some {was now : Vector KeyState 12} {i : KeyIx} (hwas : was[i].down = false)
    (hnow : now[i].down = true) (h : ∀ j : KeyIx, j ≠ i → now[j].down = false) : pressOf was now = some i := by
  cases hp : pressOf was now with
  | none =>
    refine absurd (List.find?_eq_none.mp hp i (List.mem_finRange i)) (not_not.mpr ?_)
    simp only [Bool.and_eq_true, Bool.not_eq_true', List.all_eq_true, List.mem_finRange, forall_const,
      Bool.or_eq_true, beq_iff_eq]
    exact ⟨⟨hwas, hnow⟩, fun j => or_iff_not_imp_left.mpr (h j)⟩
  | some j =>
    have hj := List.find?_some hp
    simp only [Bool.and_eq_true] at hj
    by_contra hne
    exact absurd ((h j (fun heq => hne (by rw [heq]))).symm.trans hj.1.2) Bool.false_ne_true

/-- A scan made in ACTIVE debounces every key, and its PRESS is taken. -/
theorem exec_scan {s : State} (hs : s.started = true) (hm : s.power.mode = .active) (seen : BitVec 12) :
    exec (.keypadScan seen) s = .next (pressAfter s.keypad.keys (debounceAll seen s.keypad.keys)
      { s with keypad.keys := debounceAll seen s.keypad.keys }) :=
  congrArg _ (if_pos ⟨hs, hm⟩)

/-- The PRESS of the scan of the moment of an entry into STANDBY is taken. -/
theorem exec_lastScan {s : State} {was : Vector KeyState 12} (hm : s.power.mode ≠ .active)
    (hl : s.power.lastScan = some was) (seen : BitVec 12) :
    exec (.keypadScan seen) s =
      .next (pressAfter was (debounceAll seen was) { s with power.lastScan := none }) := by
  have hno : ¬(s.started = true ∧ s.power.mode = .active) := fun h => hm h.2
  refine congrArg _ ((if_neg hno).trans ?_)
  rw [hl]

theorem pressAfter_none {was now : Vector KeyState 12} (h : pressOf was now = none) (s : State) :
    pressAfter was now s = s := by
  simp [pressAfter, h]

theorem pressAfter_some {was now : Vector KeyState 12} {i : KeyIx} (h : pressOf was now = some i) (s : State) :
    pressAfter was now s = press i s := by
  simp [pressAfter, h]

theorem idleAtPress_ne_expired (t : IdleTimer) : idleAtPress t ≠ .expired := by
  unfold idleAtPress
  split <;> simp

/-- A PRESS restarts the idle timer, so that no standby decision follows it. -/
theorem press_eq (i : KeyIx) (s : State) :
    press i s = withdrawRaced s (keyPress (keyAt i) { s with power.idle := s.idleAfterPress }) := by
  unfold press
  refine standbyCheck_of_idle ?_
  have hpower : (withdrawRaced s (keyPress (keyAt i)
      { s with power.idle := idleAtPress s.power.idle })).power.idle = idleAtPress s.power.idle := by
    simp [withdrawRaced]
  rw [hpower]
  exact idleAtPress_ne_expired _

/-- An event that leaves or stops the two timers withdraws no expiry. -/
theorem withdrawRaced_quiet {s t : State} (hk : raced s.keypad.timer t.keypad.timer = false)
    (hi : raced s.ctl.inactivity t.ctl.inactivity = false) : withdrawRaced s t = t := by
  simp [withdrawRaced, hk, hi]

theorem raced_stopped (t : Timer) : raced t none = false := by simp [raced]

/-- A scan whose PRESS is key `i`, made in ACTIVE: `b` is what the rule of the drive state finds. -/
theorem exec_scan_press {s : State} (hs : s.started = true) (hm : s.power.mode = .active) {seen : BitVec 12}
    {i : KeyIx} {keys : Vector KeyState 12} (hkeys : keys = debounceAll seen s.keypad.keys)
    (hwas : s.keypad.keys[i].down = false) (hnow : keys[i].down = true)
    (h : ∀ j : KeyIx, j ≠ i → keys[j].down = false) {b : State}
    (hb : b = { s with power.idle := s.idleAfterPress, keypad.keys := keys }) :
    exec (.keypadScan seen) s = .next (withdrawRaced s (keyPress (keyAt i) b)) := by
  subst hkeys hb
  rw [exec_scan hs hm, pressAfter_some (pressOf_some hwas hnow h), press_eq]
  rfl

/-! ### The patterns (R125) -/

theorem Player.next_step {p : Player} (h : p.step + 1 < p.pattern.steps.length) :
    p.next = some { p with step := p.step + 1, left := p.pattern.stepMs (p.step + 1) } := if_pos h

theorem Player.next_pass {p : Player} (h : p.pattern.steps.length ≤ p.step + 1) (hp : p.passes ≠ 1) :
    p.next = some { p with step := 0, left := p.pattern.stepMs 0, passes := p.passes - 1 } :=
  (if_neg (Nat.not_lt.mpr h)).trans (if_neg hp)

theorem Player.next_end {p : Player} (h : p.pattern.steps.length ≤ p.step + 1) (hp : p.passes = 1) :
    p.next = none := (if_neg (Nat.not_lt.mpr h)).trans (if_pos hp)

theorem exec_patternStep_oneShot {s : State} {p : Player} (h : s.keypad.oneShot = some p) :
    exec .patternStepExpiry s = .next (match p.next with
      | some q => { s with keypad.oneShot := some q }
      | none => startPlayer { s with keypad.oneShot := none }) := by
  cases hp : p.next <;> simp only [exec, execPatternStepExpiry, h, hp]

theorem exec_patternStep_background {s : State} {q : Option Player} (h : s.keypad.oneShot = none)
    (hq : s.keypad.player.bind Player.next = q) :
    exec .patternStepExpiry s = .next { s with keypad.player := q } := by
  simp only [exec, execPatternStepExpiry, h, hq]

/-- A pattern that repeats without end. -/
theorem Player.next_repeat {p : Player} (h : p.passes = 0) : p.next = some
    (if p.step + 1 < p.pattern.steps.length then
      { p with step := p.step + 1, left := p.pattern.stepMs (p.step + 1) }
     else { p with step := 0, left := p.pattern.stepMs 0 }) := by
  by_cases hs : p.step + 1 < p.pattern.steps.length
  · rw [if_pos hs, Player.next_step hs]
  · rw [if_neg hs, Player.next_pass (Nat.not_lt.mp hs) (by omega), h]
/-! ### The timers (R122, R149, R159, R161) -/

theorem exec_entryTimer_withdrawn {s : State} (ht : s.keypad.timer ≠ none) (hw : s.keypad.withdrawn = true) :
    exec .entryTimerExpiry s = .next { s with keypad.withdrawn := false } := by
  simp [exec, execEntryTimerExpiry, ht, hw]

/-- What leaves the power unit as it was in a part that stays awake meets no standby decision. -/
theorem standbyCheck_of_power {s t : State} (h : s.staysAwake) (hp : t.power = s.power) : standbyCheck t = t :=
  standbyCheck_of_awake (by rwa [State.staysAwake, hp])

theorem exec_entryTimer_entry {s : State} (hs : s.staysAwake) (ht : s.keypad.timer ≠ none)
    (hw : s.keypad.withdrawn = false) (hd : s.ctl.drive = .entry) :
    exec .entryTimerExpiry s = .next (setDrive .locked (endCollection s)) := by
  rw [← standbyCheck_of_power (t := setDrive .locked (endCollection s)) hs (by simp)]
  simp [exec, execEntryTimerExpiry, ht, hw, hd]

theorem exec_entryTimer_enrolling {s : State} {e : Enroll} (hs : s.staysAwake) (ht : s.keypad.timer ≠ none)
    (hw : s.keypad.withdrawn = false) (hd : s.ctl.drive = .enrolling) (he : s.cred.enroll = some e) :
    exec .entryTimerExpiry s = .next (failEnroll e .timeout (endCollection s)) := by
  rw [← standbyCheck_of_power (t := failEnroll e .timeout (endCollection s)) hs (by simp)]
  simp [exec, execEntryTimerExpiry, ht, hw, hd, he]

theorem exec_backoffTimer {s : State} (hs : s.staysAwake) (hb : s.cred.backoff ≠ none) (hd : s.ctl.drive = .backoff) :
    exec .backoffTimerExpiry s = .next (setDrive .locked { s with cred.backoff := none }) := by
  rw [← standbyCheck_of_power (t := setDrive .locked { s with cred.backoff := none }) hs (by simp)]
  simp [exec, execBackoffTimerExpiry, hb, hd]

/-- The two timers whose expiry is a lock trigger: one of them stops, and the drive locks where R162 says so. -/
theorem exec_lockTimer {s : State} {c : Instr} (h : c = .attachWindowExpiry ∧ s.ctl.window ≠ none ∨
    c = .inactivityExpiry ∧ s.ctl.inactivity ≠ none ∧ s.ctl.withdrawn = false) :
    ∃ b : State, exec c s = .next (standbyCheck (lockTrigger b)) ∧
      (b = { s with ctl.window := none } ∨ b = { s with ctl.inactivity := none }) := by
  rcases h with ⟨rfl, h⟩ | ⟨rfl, h, hw⟩
  · exact ⟨_, congrArg _ (if_neg (by simp [h])), .inl rfl⟩
  · exact ⟨_, congrArg _ ((if_neg (by simp [h])).trans (if_neg (by simp [hw]))), .inr rfl⟩

/-- An expiry that locks outside an enrollment. -/
theorem lockTimer_shut {s b : State} (hb : b = { s with ctl.window := none } ∨ b = { s with ctl.inactivity := none })
    (hd : s.ctl.drive = .opened) (he : s.cred.enroll = none) :
    ∃ k : KeypadUnit, lockTrigger b = s.shut k ∧ k.selection = .idleLocked ∧ k.keys = s.keypad.keys ∧
      k.buffer = s.keypad.buffer ∧ k.phase = s.keypad.phase ∧ k.timer = s.keypad.timer ∧
      k.oneShot = s.keypad.oneShot := by
  have hd' : b.ctl.drive = .opened := by rcases hb with rfl | rfl <;> exact hd
  rw [lockTrigger_of_opened hd']
  rcases hb with rfl | rfl <;> exact lockDrive_shut (by exact he)

/-- An expiry that locks in an enrollment from OPEN. -/
theorem lockTimer_lockedFrom {s b : State} {e : Enroll}
    (hb : b = { s with ctl.window := none } ∨ b = { s with ctl.inactivity := none })
    (hd : s.ctl.drive = .enrolling) (he : s.cred.enroll = some e) (ho : e.origin = .opened) :
    s.lockedFrom e (lockTrigger b) := by
  have hd' : b.ctl.drive = .enrolling := by rcases hb with rfl | rfl <;> exact hd
  have he' : b.cred.enroll = some e := by rcases hb with rfl | rfl <;> exact he
  rw [lockTrigger_of_enrolling hd' he' ho]
  rcases hb with rfl | rfl <;> exact lockDrive_lockedFrom he' ho

end Sys2Proof.Machine

namespace Sys2Proof.Proofs

open Sys2Proof Sys2Proof.Machine

/-- Settles O24: the settings of a taken ATTACH, and the background behind them. -/
theorem attachTaken : Obligations.AttachTaken := by
  refine fun s hs => ⟨fun hl => congrArg _ (if_neg (by simp [hl])), fun hl => ?_⟩
  have hexec : exec .attach s = .next (Machine.attachTaken s) := congrArg _ (if_pos ⟨hs, hl⟩)
  obtain ⟨hkeys, hbuffer, hphase, htimer, honeShot⟩ := selectBackground_keypad s.attaching
  rw [attachTaken_eq, selectBackground_eq] at hexec
  exact ⟨_, hexec, hkeys, hbuffer, hphase, htimer, honeShot, fun hd =>
    selectBackground_selection (s := s.attaching) (by simp [State.attaching, hd, backgroundFor])⟩

/-- Settles O49: a scan's PRESS is none where each key that goes down finds another DOWN. -/
theorem scanDebounces : Obligations.ScanDebounces := by
  refine fun s seen => ⟨fun hno hl => ?_, fun hs hm keys hkeys hpress => ?_⟩
  · have hscan : ¬(s.started = true ∧ s.power.mode = .active) := fun h =>
      hno.elim (fun hs => Bool.false_ne_true (hs.symm.trans h.1)) (fun hm => hm h.2)
    refine congrArg _ ((if_neg hscan).trans ?_)
    rw [hl]
  · have heq : debounceAll seen s.keypad.keys = keys := by
      refine Vector.ext fun i hi => ?_
      have hi' := hkeys ⟨i, hi⟩
      have hd := debounceAll_get seen s.keypad.keys ⟨i, hi⟩
      rw [debounceKey_eq] at hd
      exact hd.trans hi'.symm
    rw [exec_scan hs hm, heq, pressAfter_none (pressOf_none hpress)]

/-- Settles O51: the step, the pass and the end of the player that the expiry is of. -/
theorem patternSteps : Obligations.PatternSteps := by
  refine fun s => ⟨fun ho hp => ?_, fun p ho => ⟨fun h => ?_, fun h hpass => ?_, fun h hpass => ?_⟩,
    fun p ho hp hpass => ?_⟩
  · exact exec_patternStep_background ho (by rw [hp]; rfl)
  · rw [exec_patternStep_oneShot ho, Player.next_step h]
  · rw [exec_patternStep_oneShot ho, Player.next_pass h hpass]
  · rw [exec_patternStep_oneShot ho, Player.next_end h hpass]
    rfl
  · exact exec_patternStep_background ho (by rw [hp]; exact Player.next_repeat hpass)

/-- Settles O52: each expiry by the lock, the failure or the change of state that it leads to; the standby decision
fails. -/
theorem timersExpire : Obligations.TimersExpire := by
  refine ⟨fun s hs => ⟨fun ht => congrArg _ (if_pos (by simp [ht])), fun ht hw => exec_entryTimer_withdrawn ht hw,
    fun ht hw hd => ?_, fun e ht hw hd he hm => ?_, fun hb => congrArg _ (if_pos (by simp [hb])), fun hb hd => ?_⟩,
    fun s c => ⟨fun h => ?_, fun hc hi hw => ?_, fun h hs hd he => ?_⟩, fun s c e h hs hd he ho => ?_⟩
  · obtain ⟨hkeys, hbuffer, hphase, htimer, honeShot, -⟩ := setDrive_keypad .locked (endCollection s)
    exact ⟨_, (exec_entryTimer_entry hs ht hw hd).trans (congrArg _ (setDrive_eq ..)), hbuffer, hphase, htimer,
      setDrive_selection rfl, hkeys, honeShot⟩
  · obtain ⟨k, hk, hbuffer, hphase, htimer, honeShot, hkeys⟩ :=
      failEnroll_failedFrom (s := endCollection s) hm e .timeout
    exact ⟨k, (exec_entryTimer_enrolling hs ht hw hd he).trans (congrArg _ hk), hbuffer, hphase, htimer, honeShot,
      hkeys⟩
  · obtain ⟨hkeys, hbuffer, hphase, htimer, honeShot, -⟩ := setDrive_keypad .locked { s with cred.backoff := none }
    exact ⟨_, (exec_backoffTimer hs hb hd).trans (congrArg _ (setDrive_eq ..)), setDrive_selection rfl, honeShot,
      hkeys, hbuffer, hphase, htimer⟩
  · rcases h with ⟨rfl, h⟩ | ⟨rfl, h⟩ <;> exact congrArg _ (if_pos (by simp [h]))
  · subst hc
    simp [exec, execInactivityExpiry, hi, hw]
  · obtain ⟨b, hexec, hb⟩ := exec_lockTimer h
    obtain ⟨k, hk, hrest⟩ := lockTimer_shut hb hd he
    rw [hk, standbyCheck_of_power (t := s.shut k) hs rfl] at hexec
    exact ⟨k, hexec, hrest⟩
  · obtain ⟨b, hexec, hb⟩ := exec_lockTimer h
    have hfrom := lockTimer_lockedFrom hb hd he ho
    obtain ⟨k, hk, -⟩ := id hfrom
    rw [standbyCheck_of_power hs (by rw [hk]; rfl)] at hexec
    exact ⟨_, hfrom, hexec⟩

end Sys2Proof.Proofs
end

section
/-! SUPPORT. The keys by drive state: what each PRESS makes of the drive, of an entry and of an enrollment; STANDBY and
the wake. -/

namespace Sys2Proof.Machine

open Sys2Proof

/-! ### The keys of the matrix -/

theorem keyAt_openKey_iff (i : KeyIx) : keyAt i = .openKey ↔ i = 11 := by
  revert i
  decide

theorem keyAt_lockKey_iff (i : KeyIx) : keyAt i = .lockKey ↔ i = 9 := by
  revert i
  decide

theorem keyAt_digit {i : KeyIx} {d : Digit} (h : i.val + 1 = d.val ∧ i < 9 ∨ i = 10 ∧ d = 0) :
    keyAt i = .digit d := by
  revert i d
  decide

/-- A key that is neither OPEN nor LOCK is a digit. -/
theorem keyAt_digit_of_ne {i : KeyIx} (ho : i ≠ 11) (hl : i ≠ 9) : ∃ d, keyAt i = .digit d := by
  cases hk : keyAt i with
  | digit d => exact ⟨d, rfl⟩
  | lockKey => exact absurd ((keyAt_lockKey_iff i).mp hk) hl
  | openKey => exact absurd ((keyAt_openKey_iff i).mp hk) ho

/-! ### The background after a change of the drive state -/

/-- Of the keypad unit, a change of the drive state gives the selection and the player anew. -/
theorem setDrive_keypad_eq {d : DriveState} {s : State} {p : Pattern}
    (h : backgroundFor d s.ctl.attached = some p) :
    (setDrive d s).keypad = { s.keypad with selection := p, player := (setDrive d s).keypad.player } := by
  have hsel := setDrive_selection h
  obtain ⟨hkeys, hbuffer, hphase, htimer, honeShot, hwithdrawn⟩ := setDrive_keypad d s
  cases hk : (setDrive d s).keypad
  rw [hk] at hsel hkeys hbuffer hphase htimer honeShot hwithdrawn
  simp only at hsel hkeys hbuffer hphase htimer honeShot hwithdrawn
  simp [hsel, hkeys, hbuffer, hphase, htimer, honeShot, hwithdrawn]

/-- A stopped background player stays stopped (R129). -/
theorem setDrive_player_none (d : DriveState) {s : State} (h : s.keypad.player = none) :
    (setDrive d s).keypad.player = none := by
  unfold setDrive selectBackground
  split
  · exact h
  · split
    · exact h
    · simp [h]

/-- A change of the drive state while the background player is stopped. -/
theorem setDrive_of_stopped {d : DriveState} {s : State} {p : Pattern}
    (h : backgroundFor d s.ctl.attached = some p) (hp : s.keypad.player = none) :
    setDrive d s = { s with ctl := { s.ctl with drive := d }, keypad := { s.keypad with selection := p } } := by
  rw [setDrive_eq, setDrive_keypad_eq h, setDrive_player_none d hp, ← hp]

theorem lockDrive_of_no_enroll {s : State} (h : s.cred.enroll = none) : lockDrive s = setDrive .locked s.closing :=
  congrArg (setDrive .locked) (cancelEnrollAtLock_none (s := s.closing) h)

/-! ### What an event withdraws (R122, R161) -/

theorem raced_entryMs (t : Timer) : raced t (some Config.entryMs) = (t == some 0) := by
  simp [raced]

/-- An event that restarts the entry timer and leaves the inactivity timer. -/
theorem withdrawRaced_entry {s t : State} (ht : t.keypad.timer = some Config.entryMs)
    (hw : t.keypad.withdrawn = s.keypad.withdrawn) (hi : t.ctl.inactivity = s.ctl.inactivity) :
    withdrawRaced s t = { t with keypad := { t.keypad with withdrawn := s.entryRaced } } := by
  have hctl : t.ctl = { t.ctl with withdrawn := t.ctl.withdrawn || raced s.ctl.inactivity s.ctl.inactivity } := by
    rw [raced_self, Bool.or_false]
  rw [withdrawRaced, ht, hw, hi, raced_entryMs, ← hctl]
  rfl

/-- An event that leaves both timers. -/
theorem withdrawRaced_same {s t : State} (ht : t.keypad.timer = s.keypad.timer)
    (hi : t.ctl.inactivity = s.ctl.inactivity) : withdrawRaced s t = t :=
  withdrawRaced_quiet (by rw [ht, raced_self]) (by rw [hi, raced_self])

/-! ### Keys that a drive state does not accept (R117, R123) -/

theorem keyPress_ignored {k : Key} {s : State} (h : s.ctl.drive = .evaluating ∨ s.ctl.drive = .backoff ∨
    s.ctl.drive = .wiping ∨ s.ctl.drive = .fault ∨ s.ctl.drive = .factory ∧ k ≠ .openKey ∨
    s.ctl.drive = .locked ∧ k ≠ .openKey ∨ s.ctl.drive = .opened ∧ k ≠ .lockKey) : keyPress k s = s := by
  unfold keyPress
  rcases h with h | h | h | h | ⟨h, hk⟩ | ⟨h, hk⟩ | ⟨h, hk⟩ <;> rw [h]
  · cases k <;> simp [keyFactory] at hk ⊢
  · cases k <;> simp [keyLocked] at hk ⊢
  · cases k <;> simp [keyOpened] at hk ⊢

theorem keyPress_locked {s : State} (h : s.ctl.drive = .locked) :
    keyPress .openKey s = setDrive .entry (beginCollection .unlock s) := by
  simp [keyPress, h, keyLocked]

/-! ### STANDBY and the wake (R203 to R205) -/

theorem exec_idleTimer {s : State} {n : Nat} (h : s.power.idle = .running n) :
    exec .standbyIdleTimerExpiry s = .next (standbyCheck { s with power.idle := .expired }) := by
  simp [exec, execStandbyIdleTimerExpiry, h, idleExpires]

/-- The standby conditions fail on the link's power, outside ACTIVE, in a drive state at work, and with a commit in
progress or, outside FAULT, one queued. -/
theorem standbyDue_false {s : State} (h : s.power.source = .link ∨ s.power.mode ≠ .active ∨ s.ctl.drive = .opened ∨
    s.ctl.drive = .entry ∨ s.ctl.drive = .evaluating ∨ s.ctl.drive = .enrolling ∨ s.ctl.drive = .wiping ∨
    s.store.busy ≠ none ∨ s.store.queue ≠ [] ∧ s.ctl.drive ≠ .fault) : s.standbyDue = false := by
  rw [← Bool.not_eq_true, standbyDue_iff]
  rintro ⟨-, -, hm, hs, hd, hb, hq⟩
  rcases h with h | h | h | h | h | h | h | h | ⟨h, hf⟩
  · simp [h] at hs
  · exact h hm
  · simp [h] at hd
  · simp [h] at hd
  · simp [h] at hd
  · simp [h] at hd
  · simp [h] at hd
  · exact h hb
  · exact hq.elim hf h

/-- The PRESS of the scan of the moment of an entry into STANDBY, acted on in the drive state it finds. -/
theorem exec_lastScan_press {s : State} {was : Vector KeyState 12} {i : KeyIx} (hm : s.power.mode ≠ .active)
    (hl : s.power.lastScan = some was) {seen : BitVec 12} (hwas : was[i].down = false)
    (hnow : (debounceAll seen was)[i].down = true)
    (h : ∀ j : KeyIx, j ≠ i → (debounceAll seen was)[j].down = false) {b : State}
    (hb : b = { s with power := { s.power with idle := s.idleAfterPress, lastScan := none } }) :
    exec (.keypadScan seen) s = .next (withdrawRaced s (keyPress (keyAt i) b)) := by
  subst hb
  rw [exec_lastScan hm hl, pressAfter_some (pressOf_some hwas hnow h), press_eq]
  rfl

end Sys2Proof.Machine

namespace Sys2Proof.Proofs

open Sys2Proof Sys2Proof.Machine

/-- Settles O53: the expiries by the standby conditions, the PRESS of the moment's scan by the drive state, the wake. -/
theorem standbyAndWake : Obligations.StandbyAndWake := by
  refine fun s seen => ⟨fun h => ?_, fun h => ?_, fun n h hon hm hs hd hb hq => ?_, fun n h hno => ?_,
    fun hw hd he hi hon hm hs hb hq => ?_, fun was now i hm hl hp hnow hwas hdown hup =>
      ⟨fun hd hi => ?_, fun h => ?_, fun hd hi hr => ?_⟩, fun was hm hl hpress => ?_,
    fun h => congrArg _ (if_neg h), fun h => congrArg _ (if_pos h), fun h => congrArg _ (if_neg h),
    fun h => congrArg _ (if_pos h)⟩
  · rcases h with h | h <;> simp [exec, execStandbyIdleTimerExpiry, h]
  · simp [exec, execStandbyIdleTimerExpiry, h]
  · exact (exec_idleTimer h).trans (congrArg _ (standbyCheck_of_due
      ((standbyDue_iff { s with power.idle := .expired }).mpr ⟨hon, rfl, hm, hs, hd, hb, hq.symm⟩)))
  · rw [exec_idleTimer h, standbyCheck_of_not_due (standbyDue_false (s := { s with power.idle := .expired }) hno)]
  · have hlock : lockTrigger { s with ctl.window := none } = { s.closing with
        ctl := { s.closing.ctl with drive := .locked }
        keypad := { s.keypad with
          selection := .idleLocked, player := (setDrive .locked s.closing).keypad.player } } := by
      rw [lockTrigger_of_opened (s := { s with ctl.window := none }) hd,
        lockDrive_of_no_enroll (s := { s with ctl.window := none }) he]
      exact (setDrive_eq .locked s.closing).trans (by rw [setDrive_keypad_eq (s := s.closing) rfl]; rfl)
    refine congrArg _ ((if_neg (by simp [hw])).trans ?_)
    rw [hlock]
    exact standbyCheck_of_due ((standbyDue_iff _).mpr ⟨hon, hi, hm, hs, .inr (.inl rfl), hb, .inr hq⟩)
  · subst hnow hi
    rw [exec_lastScan_press hm hl hwas hdown hup rfl]
    refine congrArg _ ?_
    have hkey := keyPress_locked
      (s := { s with power := { s.power with idle := s.idleAfterPress, lastScan := none } }) hd
    rw [setDrive_of_stopped (s := beginCollection .unlock
      { s with power := { s.power with idle := s.idleAfterPress, lastScan := none } }) rfl hp] at hkey
    exact (congrArg (withdrawRaced s) hkey).trans (withdrawRaced_entry rfl rfl rfl)
  · subst hnow
    rw [exec_lastScan_press hm hl hwas hdown hup rfl, keyPress_ignored]
    · exact congrArg _ (withdrawRaced_same rfl rfl)
    · have hkey : i ≠ 11 → keyAt i ≠ .openKey := mt (keyAt_openKey_iff i).mp
      rcases h with ⟨hd, hi⟩ | hd | hd | ⟨hd, hi⟩
      · exact .inr (.inr (.inr (.inr (.inr (.inl ⟨hd, hkey hi⟩)))))
      · exact .inr (.inl hd)
      · exact .inr (.inr (.inr (.inl hd)))
      · exact .inr (.inr (.inr (.inr (.inl ⟨hd, hkey hi⟩))))
  · subst hnow hi
    rw [exec_lastScan_press hm hl hwas hdown hup rfl]
    refine congrArg _ ?_
    have hkey : keyPress .openKey { s with power := { s.power with idle := s.idleAfterPress, lastScan := none } } =
        { s with power := { s.power with idle := s.idleAfterPress, lastScan := none } } := by
      simp [keyPress, hd, keyFactory, hr, requestOneShot, hm]
    exact (congrArg (withdrawRaced s) hkey).trans (withdrawRaced_same rfl rfl)
  · rw [exec_lastScan hm hl, pressAfter_none (pressOf_none hpress)]

end Sys2Proof.Proofs
end

section
/-! SUPPORT. The keys of an entry and of an enrollment (R119 to R124, R134 to R139). -/

namespace Sys2Proof.Machine

open Sys2Proof

/-! ### One-shots (R128) -/

theorem requestOneShot_active {s : State} (hm : s.power.mode = .active) (p : Pattern) :
    requestOneShot p s = { s with keypad := { s.keypad with oneShot := some (Player.start p) } } := if_pos hm

/-! ### Keys in ENTRY (R120, R121) -/

section Entry

variable {s : State} (hd : s.ctl.drive = .entry)

include hd

theorem keyPress_entry_lock : keyPress .lockKey s = setDrive .locked (endCollection s) := by
  simp [keyPress, hd, keyEntry]

theorem keyPress_entry_digit {d : Digit} (h : s.keypad.buffer.length < 15) :
    keyPress (.digit d) s = appendDigit d s := by
  have h : s.keypad.buffer.length < Config.maxDigits := h
  simp [keyPress, hd, keyEntry, h]

theorem keyPress_entry_overflow {d : Digit} (h : 15 ≤ s.keypad.buffer.length) :
    keyPress (.digit d) s = setDrive .locked (requestOneShot .reject (endCollection s)) := by
  have h : ¬ s.keypad.buffer.length < Config.maxDigits := Nat.not_lt.mpr h
  simp [keyPress, hd, keyEntry, h]

theorem keyPress_entry_short (h : s.keypad.buffer.length < s.store.effective.minPin) :
    keyPress .openKey s = setDrive .locked (requestOneShot .short (endCollection s)) := by
  simp [keyPress, hd, keyEntry, h]

theorem keyPress_entry_evaluates (h : s.store.effective.minPin ≤ s.keypad.buffer.length) :
    keyPress .openKey s = startEvaluation s.keypad.buffer (endCollection s) := by
  simp [keyPress, hd, keyEntry, Nat.not_lt.mpr h]

variable (hm : s.power.mode = .active)

include hm

/-- The keys that end an entry, with the one-shot that each plays. -/
theorem keyPress_entry_discards {i : KeyIx} (h : i = 9 ∨ i ≠ 11 ∧ 15 ≤ s.keypad.buffer.length ∨
      i = 11 ∧ s.keypad.buffer.length < s.store.effective.minPin) :
    ∃ o : Option Player,
      keyPress (keyAt i) s = setDrive .locked
        { s with keypad := { s.keypad with buffer := [], phase := none, timer := none, oneShot := o } } ∧
      (i = 9 → o = s.keypad.oneShot) ∧ (i ≠ 9 → i ≠ 11 → o = some ⟨.reject, 0, 100, 3⟩) ∧
      (i = 11 → o = some ⟨.short, 0, 100, 2⟩) := by
  by_cases h9 : i = 9
  · subst h9
    exact ⟨_, keyPress_entry_lock hd, fun _ => rfl, fun h => absurd rfl h, fun h => absurd h (by decide)⟩
  · rcases h.resolve_left h9 with ⟨h11, hl⟩ | ⟨h11, hl⟩
    · obtain ⟨d, hkey⟩ := keyAt_digit_of_ne h11 h9
      rw [hkey, keyPress_entry_overflow hd hl, requestOneShot_active (s := endCollection s) hm]
      exact ⟨_, rfl, fun h => absurd h h9, fun _ _ => rfl, fun h => absurd h h11⟩
    · have hkey : keyAt i = .openKey := (keyAt_openKey_iff i).mpr h11
      rw [hkey, keyPress_entry_short hd hl, requestOneShot_active (s := endCollection s) hm]
      exact ⟨_, rfl, fun h => absurd h h9, fun _ h => absurd h11 h, fun _ => rfl⟩

end Entry

/-! ### Keys in FACTORY (R123, R134) -/

section Factory

variable {s : State} (hd : s.ctl.drive = .factory)

include hd

theorem keyPress_factory_notReady (hm : s.power.mode = .active) (hr : s.media.state ≠ .ready) :
    keyPress .openKey s = { s with keypad := { s.keypad with oneShot := some ⟨.reject, 0, 100, 3⟩ } } := by
  rw [show keyPress .openKey s = requestOneShot .reject s by simp [keyPress, hd, keyFactory, hr],
    requestOneShot_active hm]
  rfl

variable (hr : s.media.state = .ready)

include hr

theorem keyPress_factory_exhausted (hm : s.power.mode = .active) (he : s.cipher.slots[(0 : SlotIx)].state = .empty)
    (hg : s.cipher.slots[(0 : SlotIx)].gen = 4294967295) :
    keyPress .openKey s = { s with
      keypad := { s.keypad with oneShot := some ⟨.reject, 0, 100, 3⟩ }, cred.lastEnroll := .keyLimit } := by
  have hkey : keyPress .openKey s = requestOneShot .reject { s with cred.lastEnroll := .keyLimit } := by
    have hlimit : s.cipher.slots[(0 : SlotIx)].state = .empty ∧ s.cipher.slots[(0 : SlotIx)].gen = Config.maxGen :=
      ⟨he, hg⟩
    simp only [keyPress, hd, keyFactory, hr, ne_eq, not_true_eq_false, ↓reduceIte]
    exact if_pos hlimit
  exact hkey.trans (requestOneShot_active (s := { s with cred.lastEnroll := .keyLimit }) hm _)

theorem keyPress_factory_enrolls (h : s.cipher.slots[(0 : SlotIx)].state ≠ .empty ∨
      s.cipher.slots[(0 : SlotIx)].gen ≠ 4294967295) :
    keyPress .openKey s = beginCollection .enroll (startEnroll 0 .admin .factory .first s) := by
  have hlimit : ¬(s.cipher.slots[(0 : SlotIx)].state = .empty ∧ s.cipher.slots[(0 : SlotIx)].gen = Config.maxGen) :=
    fun h' => h.elim (fun hs => hs h'.1) (fun hg => hg h'.2)
  simp only [keyPress, hd, keyFactory, hr, ne_eq, not_true_eq_false, ↓reduceIte]
  exact if_neg hlimit

end Factory

/-! ### Keys in ENROLLING (R124) -/

/-- What an accepted key in ENROLLING finds: the inactivity timer of an enrollment from OPEN restarted (R160). -/
def State.keyed (s : State) (e : Enroll) : State := if e.origin = .opened then restartInactivity s else s

theorem keyPress_enrolling {s : State} {e : Enroll} {k : Key} (hd : s.ctl.drive = .enrolling)
    (he : s.cred.enroll = some e) (ha : enrollAccepts e k s = true) :
    keyPress k s = enrollKey e k (s.keyed e) := by
  simp only [keyPress, hd, keyEnrolling, he, ha, ↓reduceIte]
  rfl

theorem keyPress_enrolling_ignored {s : State} {e : Enroll} {k : Key} (hd : s.ctl.drive = .enrolling)
    (he : s.cred.enroll = some e) (ha : enrollAccepts e k s = false) : keyPress k s = s := by
  simp [keyPress, hd, keyEnrolling, he, ha]

@[simp] theorem keyed_keypad (s : State) (e : Enroll) : (s.keyed e).keypad = s.keypad := by
  unfold State.keyed
  split <;> simp

@[simp] theorem keyed_power (s : State) (e : Enroll) : (s.keyed e).power = s.power := by
  unfold State.keyed
  split <;> simp

@[simp] theorem keyed_cred (s : State) (e : Enroll) : (s.keyed e).cred = s.cred := by
  unfold State.keyed
  split <;> simp

@[simp] theorem keyed_media (s : State) (e : Enroll) : (s.keyed e).media = s.media := by
  unfold State.keyed
  split <;> simp

@[simp] theorem keyed_store (s : State) (e : Enroll) : (s.keyed e).store = s.store := by
  unfold State.keyed
  split <;> simp

theorem keyed_drive (s : State) (e : Enroll) : (s.keyed e).ctl.drive = s.ctl.drive := by
  unfold State.keyed restartInactivity startInactivity
  split <;> (try split) <;> rfl

/-- With what the restart withdraws, the key finds the state that the statement names. -/
theorem withdrawRaced_keyed {s b : State} (hk : b.keypad.timer = s.keypad.timer)
    (hi : b.ctl.inactivity = s.ctl.inactivity) (e : Enroll) :
    withdrawRaced s (b.keyed e) = if e.origin = .opened then b.arrived else b := by
  unfold State.keyed
  split
  · rw [← reportArrival_eq_arrived]
    simp [withdrawRaced, reportArrival, hk, hi]
  · exact withdrawRaced_same hk hi

/-- What an event withdraws, when it changes the credentials, the drive state and the keypad unit alone. -/
theorem withdrawRaced_change (s b : State) (c : CredentialUnit) (d : DriveState) (k : KeypadUnit) :
    withdrawRaced s { b with cred := c, ctl := { b.ctl with drive := d }, keypad := k } =
      { withdrawRaced s b with
        cred := c
        ctl := { (withdrawRaced s b).ctl with drive := d }
        keypad := { k with withdrawn := k.withdrawn || raced s.keypad.timer k.timer } } := rfl

/-- The same, from a state whose two timers stand as they stood. -/
theorem withdrawRaced_of_change {s b : State} (hk : b.keypad.timer = s.keypad.timer)
    (hi : b.ctl.inactivity = s.ctl.inactivity) (c : CredentialUnit) (d : DriveState) (k : KeypadUnit) :
    withdrawRaced s { b with cred := c, ctl := { b.ctl with drive := d }, keypad := k } =
      { b with
        cred := c
        ctl := { b.ctl with drive := d }
        keypad := { k with withdrawn := k.withdrawn || raced s.keypad.timer k.timer } } := by
  rw [withdrawRaced_change, withdrawRaced_same hk hi]

theorem failedFrom_withdrawRaced (s : State) {b t : State} {e : Enroll} {x : EnrollResult} (h : b.failedFrom e x t) :
    (withdrawRaced s b).failedFrom e x (withdrawRaced s t) := by
  obtain ⟨k, rfl, hrest⟩ := h
  exact ⟨_, withdrawRaced_change s b _ _ k, hrest⟩

/-! ### The accepted keys of an enrollment (R124, R135, R136, R139) -/

theorem enrollAccepts_openKey (e : Enroll) (s : State) : enrollAccepts e .openKey s = true ↔
    s.keypad.phase ≠ none ∨ e.step = .waitFirst ∨ e.step = .waitSecond := by
  simp [enrollAccepts, Option.isSome_iff_ne_none, or_assoc]

theorem enrollAccepts_digit (e : Enroll) (d : Digit) (s : State) :
    enrollAccepts e (.digit d) s = true ↔ s.keypad.phase ≠ none := by
  simp [enrollAccepts, Option.isSome_iff_ne_none]

/-- OPEN begins the collection of a step. -/
theorem enrollOpen_begins {e : Enroll} {p : EnrollStep} {s : State} (hp : s.keypad.phase = none)
    (h : e.step = .waitFirst ∧ p = .first ∨ e.step = .waitSecond ∧ p = .second) :
    enrollOpen e s = beginStep e p s := by
  rcases h with ⟨h, rfl⟩ | ⟨h, rfl⟩ <;> simp [enrollOpen, hp, h]

theorem enrollOpen_hands {e : Enroll} {s : State} (hp : s.keypad.phase ≠ none) : enrollOpen e s = handOn e s := by
  simp [enrollOpen, Option.isSome_iff_ne_none, hp]

theorem handOn_first {e : Enroll} (h : e.step = .first) (s : State) :
    handOn e s = firstEntry e s.keypad.buffer (endCollection s) := by
  simp [handOn, h]

theorem handOn_second {e : Enroll} (h : e.step = .second) (s : State) :
    handOn e s = secondEntry e s.keypad.buffer (endCollection s) := by
  simp [handOn, h]

/-- A lock in an enrollment from OPEN stops the inactivity timer that the key restarted (R160, R163). -/
theorem lockDrive_keyed {s b : State} {e : Enroll} (hk : b.keypad.timer = s.keypad.timer)
    (he : b.cred.enroll = some e) (ho : e.origin = .opened) :
    b.lockedFrom e (withdrawRaced s (lockDrive (b.keyed e))) := by
  obtain ⟨k, hlock, hsel, hkeys, honeShot, hopen, hcommit⟩ :=
    lockDrive_lockedFrom (s := b.keyed e) (e := e) (by simpa using he) ho
  have htimer : raced s.keypad.timer k.timer = false := by
    by_cases hc : e.step = .committing
    · obtain ⟨-, -, ht⟩ := hcommit hc
      rw [ht, keyed_keypad, hk, raced_self]
    · obtain ⟨-, -, ht⟩ := hopen hc
      rw [ht, raced_stopped]
  have hshut : { (b.keyed e).shut k with cred := (b.keyed e).cred.atLock e } =
      { b.shut k with cred := b.cred.atLock e } := by
    unfold State.keyed restartInactivity startInactivity
    split <;> (try split) <;> rfl
  rw [keyed_keypad] at hkeys honeShot hcommit
  rw [hlock, hshut, withdrawRaced_quiet htimer (raced_stopped _)]
  exact ⟨k, rfl, hsel, hkeys, honeShot, hopen, hcommit⟩

/-! ### What a PRESS leaves, its withdrawals counted (R117, R122) -/

section Press

variable {s b : State} (hk : b.keypad.timer = s.keypad.timer) (hw : b.keypad.withdrawn = s.keypad.withdrawn)
  (hi : b.ctl.inactivity = s.ctl.inactivity)

include hk hi

theorem pressed_ignored {k : Key} (h : keyPress k b = b) : withdrawRaced s (keyPress k b) = b := by
  rw [h, withdrawRaced_same hk hi]

theorem pressed_locked_open (hd : b.ctl.drive = .locked) :
    ∃ k : KeypadUnit, withdrawRaced s (keyPress .openKey b) =
        { b with ctl := { b.ctl with drive := .entry }, keypad := k } ∧
      k.keys = b.keypad.keys ∧ k.buffer = [] ∧ k.phase = some .unlock ∧ k.timer = some 10000 ∧
      k.selection = .entry ∧ k.oneShot = b.keypad.oneShot := by
  obtain ⟨hkeys, hbuffer, hphase, htimer, honeShot, -⟩ := setDrive_keypad .entry (beginCollection .unlock b)
  rw [keyPress_locked hd, setDrive_eq]
  exact ⟨_, withdrawRaced_of_change hk hi _ _ _, hkeys, hbuffer, hphase, htimer, setDrive_selection rfl, honeShot⟩

theorem pressed_entry_discards (hd : b.ctl.drive = .entry) (hm : b.power.mode = .active) {i : KeyIx}
    (h : i = 9 ∨ i ≠ 11 ∧ 15 ≤ b.keypad.buffer.length ∨
      i = 11 ∧ b.keypad.buffer.length < b.store.effective.minPin) :
    ∃ k : KeypadUnit, withdrawRaced s (keyPress (keyAt i) b) =
        { b with ctl := { b.ctl with drive := .locked }, keypad := k } ∧
      k.keys = b.keypad.keys ∧ k.buffer = [] ∧ k.phase = none ∧ k.timer = none ∧ k.selection = .idleLocked ∧
      (i = 9 → k.oneShot = b.keypad.oneShot) ∧ (i ≠ 9 → i ≠ 11 → k.oneShot = some ⟨.reject, 0, 100, 3⟩) ∧
      (i = 11 → k.oneShot = some ⟨.short, 0, 100, 2⟩) := by
  obtain ⟨o, hkey, hshot⟩ := keyPress_entry_discards hd hm h
  obtain ⟨hkeys, hbuffer, hphase, htimer, honeShot, -⟩ := setDrive_keypad .locked
    { b with keypad := { b.keypad with buffer := [], phase := none, timer := none, oneShot := o } }
  rw [hkey, setDrive_eq]
  refine ⟨_, withdrawRaced_of_change hk hi _ _ _, hkeys, hbuffer, hphase, htimer, setDrive_selection rfl, ?_⟩
  rw [honeShot]
  exact hshot

theorem pressed_entry_evaluates (hd : b.ctl.drive = .entry)
    (h : b.store.effective.minPin ≤ b.keypad.buffer.length) :
    ∃ k : KeypadUnit, withdrawRaced s (keyPress .openKey b) =
        requestCommit .attempts [.countAttempts] { b with
          ctl := { b.ctl with drive := .evaluating }, keypad := k
          cred := { b.cred with eval := some ⟨b.keypad.buffer, .counting⟩, n := min (b.cred.n + 1) 255 } } ∧
      k.keys = b.keypad.keys ∧ k.buffer = [] ∧ k.phase = none ∧ k.timer = none ∧ k.selection = .evaluating ∧
      k.oneShot = b.keypad.oneShot := by
  generalize hx : { endCollection b with
    cred.eval := some ⟨b.keypad.buffer, .counting⟩, cred.n := min (b.cred.n + 1) 255 } = x
  have hkey : keyPress .openKey b = requestCommit .attempts [.countAttempts] (setDrive .evaluating x) := by
    rw [keyPress_entry_evaluates hd h, ← hx]
    rfl
  obtain ⟨hkeys, hbuffer, hphase, htimer, honeShot, -⟩ := setDrive_keypad .evaluating x
  rw [hkey, withdrawRaced_quiet, setDrive_eq]
  · subst hx
    exact ⟨_, rfl, hkeys, hbuffer, hphase, htimer, setDrive_selection rfl, honeShot⟩
  · have hkeypad : (requestCommit .attempts [.countAttempts] (setDrive .evaluating x)).keypad.timer = none :=
      (congrArg KeypadUnit.timer (by simp)).trans (htimer.trans (by rw [← hx]; rfl))
    rw [hkeypad, raced_stopped]
  · have hctl : (requestCommit .attempts [.countAttempts] (setDrive .evaluating x)).ctl.inactivity =
        s.ctl.inactivity := by
      rw [← hi, show (requestCommit .attempts [.countAttempts] (setDrive .evaluating x)).ctl =
        (setDrive .evaluating x).ctl by simp, setDrive_ctl, ← hx]
      rfl
    rw [hctl, raced_self]

theorem pressed_opened_lock (hd : b.ctl.drive = .opened) (he : b.cred.enroll = none) :
    ∃ k : KeypadUnit, withdrawRaced s (keyPress .lockKey b) = b.shut k ∧ k.selection = .idleLocked ∧
      k.keys = b.keypad.keys ∧ k.buffer = b.keypad.buffer ∧ k.phase = b.keypad.phase ∧ k.timer = b.keypad.timer ∧
      k.oneShot = b.keypad.oneShot := by
  have hkey : keyPress .lockKey b = lockDrive (restartInactivity b) := by
    rw [← lockTrigger_of_opened (s := restartInactivity b) (by simpa using hd)]
    simp [keyPress, hd, keyOpened]
  obtain ⟨k, hlock, hsel, hkeys, hbuffer, hphase, htimer, honeShot⟩ :=
    lockDrive_shut (s := restartInactivity b) (by simpa using he)
  have hshut : (restartInactivity b).shut k = b.shut k := by
    unfold restartInactivity startInactivity
    split <;> rfl
  have hkeypad : (restartInactivity b).keypad = b.keypad := by simp
  rw [hkeypad] at hkeys hbuffer hphase htimer honeShot
  rw [hkey, hlock, hshut, withdrawRaced_quiet _ (raced_stopped _)]
  · exact ⟨k, rfl, hsel, hkeys, hbuffer, hphase, htimer, honeShot⟩
  · exact (congrArg _ (htimer.trans hk)).trans (raced_self _)

theorem pressed_factory_enrolls (hd : b.ctl.drive = .factory) (hr : b.media.state = .ready)
    (h : b.cipher.slots[(0 : SlotIx)].state ≠ .empty ∨ b.cipher.slots[(0 : SlotIx)].gen ≠ 4294967295) :
    ∃ k : KeypadUnit, withdrawRaced s (keyPress .openKey b) =
        { b with
          ctl := { b.ctl with drive := .enrolling }
          cred := { b.cred with
            enroll := some ⟨0, .admin, .factory, .first, [], false, false, false⟩, lastEnroll := .running }
          keypad := k } ∧
      k.keys = b.keypad.keys ∧ k.buffer = [] ∧ k.phase = some .enroll ∧ k.timer = some 10000 ∧
      k.selection = .enrolling ∧ k.oneShot = b.keypad.oneShot := by
  generalize hx : { b with
    cred.enroll := some ⟨0, .admin, .factory, .first, [], false, false, false⟩, cred.lastEnroll := .running } = x
  have hkey : keyPress .openKey b = beginCollection .enroll (setDrive .enrolling x) := by
    rw [keyPress_factory_enrolls hd hr h, ← hx]
    rfl
  obtain ⟨hkeys, -, -, -, honeShot, -⟩ := setDrive_keypad .enrolling x
  have hsel := setDrive_selection (d := .enrolling) (s := x) rfl
  rw [setDrive_eq] at hkey
  rw [hkey]
  subst hx
  exact ⟨_, withdrawRaced_of_change hk hi _ _ _, hkeys, rfl, rfl, rfl, hsel, honeShot⟩

include hw

theorem pressed_entry_digit (hd : b.ctl.drive = .entry) (hm : b.power.mode = .active) {d : Digit}
    (h : b.keypad.buffer.length < 15) :
    withdrawRaced s (keyPress (.digit d) b) = { b with keypad := { b.keypad with
      buffer := b.keypad.buffer ++ [d], timer := some 10000, oneShot := some ⟨.keyAck, 0, 50, 1⟩
      withdrawn := s.entryRaced } } := by
  have happend : appendDigit d b = { b with keypad := { b.keypad with
      buffer := b.keypad.buffer ++ [d], timer := some Config.entryMs, oneShot := some (Player.start .keyAck) } } :=
    requestOneShot_active (s := { b with keypad := { b.keypad with
      buffer := b.keypad.buffer ++ [d], timer := some Config.entryMs } }) hm .keyAck
  rw [keyPress_entry_digit hd h, happend]
  exact withdrawRaced_entry rfl hw hi

end Press

/-! ### What a PRESS in ENROLLING leaves (R124, R135, R136, R139) -/

section EnrollPress

variable {s b r : State} {e : Enroll} (hk : b.keypad.timer = s.keypad.timer)
  (hw : b.keypad.withdrawn = s.keypad.withdrawn) (hd : b.ctl.drive = .enrolling) (he : b.cred.enroll = some e)
  (hr : r = withdrawRaced s (b.keyed e))

/-- A collection that an accepted key restarts: `k` is the keypad unit that it leaves. -/
theorem withdrawRaced_enrolled (c : CredentialUnit) (k : KeypadUnit) :
    withdrawRaced s { b.keyed e with cred := c, keypad := k } =
      { withdrawRaced s (b.keyed e) with
        cred := c, keypad := { k with withdrawn := k.withdrawn || raced s.keypad.timer k.timer } } := rfl

include hk in
theorem withdrawRaced_keyed_keypad : (withdrawRaced s (b.keyed e)).keypad = b.keypad := by
  simp [withdrawRaced, ← hk]

theorem withdrawRaced_keyed_cred : (withdrawRaced s (b.keyed e)).cred = b.cred := keyed_cred b e

include hk hw in
/-- A key that leaves the entry timer at 10 s. -/
theorem withdrawRaced_enrolled_restart {v : State} {c : CredentialUnit} {k : KeypadUnit}
    (hv : v = { b.keyed e with cred := c, keypad := k }) (ht : k.timer = some Config.entryMs)
    (hkw : k.withdrawn = b.keypad.withdrawn) :
    withdrawRaced s v =
      { withdrawRaced s (b.keyed e) with cred := c, keypad := { k with withdrawn := s.entryRaced } } := by
  rw [hv, withdrawRaced_enrolled, ht, hkw, hw, raced_entryMs]
  rfl

include hd he

theorem pressed_enrolling_ignored (hi : b.ctl.inactivity = s.ctl.inactivity) (hk : b.keypad.timer = s.keypad.timer)
    {i : KeyIx} (h9 : i ≠ 9) (hp : b.keypad.phase = none)
    (h : i ≠ 11 ∨ e.step ≠ .waitFirst ∧ e.step ≠ .waitSecond) :
    withdrawRaced s (keyPress (keyAt i) b) = b := by
  have hno : enrollAccepts e (keyAt i) b = false := by
    rw [← Bool.not_eq_true]
    by_cases h11 : i = 11
    · rw [(keyAt_openKey_iff i).mpr h11, enrollAccepts_openKey]
      have hsteps := h.resolve_left (fun hne => hne h11)
      exact fun h' => h'.elim (fun hph => hph hp) (fun hst => hst.elim hsteps.1 hsteps.2)
    · obtain ⟨d, hkey⟩ := keyAt_digit_of_ne h11 h9
      rw [hkey, enrollAccepts_digit]
      exact fun hph => hph hp
  rw [keyPress_enrolling_ignored hd he hno, withdrawRaced_same hk hi]

theorem keyPress_enrolling_open (ha : b.keypad.phase ≠ none ∨ e.step = .waitFirst ∨ e.step = .waitSecond) :
    keyPress .openKey b = enrollOpen e (b.keyed e) :=
  keyPress_enrolling hd he ((enrollAccepts_openKey e b).mpr ha)

theorem keyPress_enrolling_digit (hp : b.keypad.phase ≠ none) (d : Digit) :
    keyPress (.digit d) b = enrollDigit e d (b.keyed e) :=
  keyPress_enrolling hd he ((enrollAccepts_digit e d b).mpr hp)

theorem keyPress_enrolling_lock : keyPress .lockKey b = cancelEnroll e (b.keyed e) :=
  keyPress_enrolling hd he rfl

include hr

/-- A failure under an accepted key, from the collection as it stands or from the ended one. -/
theorem failEnroll_keyed {x : EnrollResult} (hm : b.power.mode = .active) {v : State}
    (hv : v = b.keyed e ∨ v = endCollection (b.keyed e)) :
    r.failedFrom e x (withdrawRaced s (failEnroll e x v)) := by
  have hmode : v.power.mode = .active := by
    rcases hv with rfl | rfl
    · rw [keyed_power, hm]
    · exact (congrArg PowerUnit.mode (keyed_power b e)).trans hm
  have hfail : (b.keyed e).failedFrom e x (failEnroll e x v) := by
    rcases hv with rfl | rfl
    · exact failEnroll_failedFrom hmode e x
    · exact failEnroll_failedFrom (s := endCollection (b.keyed e)) hmode e x
  exact hr ▸ failedFrom_withdrawRaced s hfail

theorem pressed_enrolling_overflow (hm : b.power.mode = .active) (hp : b.keypad.phase ≠ none) {d : Digit}
    (h : 15 ≤ b.keypad.buffer.length) : r.failedFrom e .overflow (withdrawRaced s (keyPress (.digit d) b)) := by
  have hfull : ¬(b.keyed e).keypad.buffer.length < Config.maxDigits := by
    rw [keyed_keypad]
    exact Nat.not_lt.mpr h
  rw [keyPress_enrolling_digit hd he hp, enrollDigit, if_neg hfull]
  exact failEnroll_keyed hd he hr hm (.inl rfl)

/-- OPEN hands the first collection on (R135). -/
theorem keyPress_enrolling_first (hp : b.keypad.phase ≠ none) (hs : e.step = .first) :
    keyPress .openKey b = firstEntry e b.keypad.buffer (endCollection (b.keyed e)) := by
  rw [keyPress_enrolling_open hd he (.inl hp), enrollOpen_hands (by simpa using hp), handOn_first hs, keyed_keypad]

/-- OPEN hands the second collection on (R136). -/
theorem keyPress_enrolling_second (hp : b.keypad.phase ≠ none) (hs : e.step = .second) :
    keyPress .openKey b = secondEntry e b.keypad.buffer (endCollection (b.keyed e)) := by
  rw [keyPress_enrolling_open hd he (.inl hp), enrollOpen_hands (by simpa using hp), handOn_second hs, keyed_keypad]

theorem pressed_enrolling_short (hm : b.power.mode = .active) (hp : b.keypad.phase ≠ none) (hs : e.step = .first)
    (h : b.keypad.buffer.length < b.store.effective.minPin) :
    r.failedFrom e .short (withdrawRaced s (keyPress .openKey b)) := by
  have hshort : b.keypad.buffer.length < (endCollection (b.keyed e)).store.effective.minPin := by
    rw [show (endCollection (b.keyed e)).store = b.store from keyed_store b e]
    exact h
  rw [keyPress_enrolling_first hd he hr hp hs, firstEntry, if_pos hshort]
  exact failEnroll_keyed hd he hr hm (.inr rfl)

theorem pressed_enrolling_mismatch (hm : b.power.mode = .active) (hp : b.keypad.phase ≠ none) (hs : e.step = .second)
    (h : b.keypad.buffer ≠ e.first) : r.failedFrom e .mismatch (withdrawRaced s (keyPress .openKey b)) := by
  rw [keyPress_enrolling_second hd he hr hp hs, secondEntry, if_pos h]
  exact failEnroll_keyed hd he hr hm (.inr rfl)

theorem pressed_enrolling_noMedia (hm : b.power.mode = .active) (hp : b.keypad.phase ≠ none) (hs : e.step = .second)
    (h : b.keypad.buffer = e.first) (ho : e.origin = .factory) (hmedia : b.media.state ≠ .ready) :
    r.failedFrom e .noMedia (withdrawRaced s (keyPress .openKey b)) := by
  have hno : e.origin = .factory ∧ (endCollection (b.keyed e)).media.state ≠ .ready := by
    rw [show (endCollection (b.keyed e)).media = b.media from keyed_media b e]
    exact ⟨ho, hmedia⟩
  rw [keyPress_enrolling_second hd he hr hp hs, secondEntry, if_neg (fun hne => hne h), if_pos hno]
  exact failEnroll_keyed hd he hr hm (.inr rfl)

include hk

theorem pressed_enrolling_compares (hp : b.keypad.phase ≠ none) (hs : e.step = .second)
    (h : b.keypad.buffer = e.first) (hmedia : e.origin = .opened ∨ b.media.state = .ready) :
    withdrawRaced s (keyPress .openKey b) = { r with
      cred := { b.cred with
        enroll := some { e with step := .testing }, comparison := some ⟨.duplicate, e.first, 320⟩ }
      keypad := { r.keypad with buffer := [], phase := none, timer := none } } := by
  have hyes : ¬(e.origin = .factory ∧ (endCollection (b.keyed e)).media.state ≠ .ready) := by
    rw [show (endCollection (b.keyed e)).media = b.media from keyed_media b e]
    rintro ⟨ho, hm⟩
    exact hmedia.elim (fun h => by rw [ho] at h; cases h) hm
  have hstart : secondEntry e b.keypad.buffer (endCollection (b.keyed e)) = { b.keyed e with
      cred := { b.cred with
        enroll := some { e with step := .testing }, comparison := some ⟨.duplicate, e.first, 320⟩ }
      keypad := { b.keypad with buffer := [], phase := none, timer := none } } := by
    rw [secondEntry, if_neg (fun hne => hne h), if_neg hyes, ← keyed_cred b e, ← keyed_keypad b e]
    rfl
  rw [keyPress_enrolling_second hd he hr hp hs, hstart, withdrawRaced_enrolled, hr, withdrawRaced_keyed_keypad hk,
    raced_stopped, Bool.or_false]

include hw

theorem pressed_enrolling_begins {p : EnrollStep} (hp : b.keypad.phase = none)
    (h : e.step = .waitFirst ∧ p = .first ∨ e.step = .waitSecond ∧ p = .second) :
    withdrawRaced s (keyPress .openKey b) = { r with
      cred.enroll := some { e with step := p }
      keypad := { r.keypad with
        buffer := [], phase := some .enroll, timer := some 10000, withdrawn := s.entryRaced } } := by
  have hstep : e.step = .waitFirst ∨ e.step = .waitSecond := h.imp And.left And.left
  have hbegin : beginStep e p (b.keyed e) = { b.keyed e with
      cred := { b.cred with enroll := some { e with step := p } }
      keypad := { b.keypad with buffer := [], phase := some .enroll, timer := some Config.entryMs } } := by
    rw [← keyed_cred b e, ← keyed_keypad b e]
    rfl
  rw [keyPress_enrolling_open hd he (.inr hstep), enrollOpen_begins (by simpa using hp) h,
    withdrawRaced_enrolled_restart hk hw hbegin rfl rfl, hr, withdrawRaced_keyed_keypad hk, withdrawRaced_keyed_cred]

theorem pressed_enrolling_digit (hm : b.power.mode = .active) (hp : b.keypad.phase ≠ none) {d : Digit}
    (h : b.keypad.buffer.length < 15) :
    withdrawRaced s (keyPress (.digit d) b) = { r with
      keypad := { r.keypad with
        buffer := b.keypad.buffer ++ [d], timer := some 10000, oneShot := some ⟨.keyAck, 0, 50, 1⟩
        withdrawn := s.entryRaced } } := by
  have hroom : (b.keyed e).keypad.buffer.length < Config.maxDigits := by
    rw [keyed_keypad]
    exact h
  have hmode : (b.keyed e).power.mode = .active := by rw [keyed_power, hm]
  have happend : appendDigit d (b.keyed e) = { b.keyed e with
      cred := b.cred
      keypad := { b.keypad with
        buffer := b.keypad.buffer ++ [d], timer := some Config.entryMs, oneShot := some (Player.start .keyAck) } } := by
    rw [← keyed_cred b e, ← keyed_keypad b e]
    exact requestOneShot_active (s := { b.keyed e with
      keypad.buffer := (b.keyed e).keypad.buffer ++ [d], keypad.timer := some Config.entryMs }) hmode .keyAck
  rw [keyPress_enrolling_digit hd he hp, enrollDigit, if_pos hroom,
    withdrawRaced_enrolled_restart hk hw happend rfl rfl, hr, withdrawRaced_keyed_keypad hk, ← withdrawRaced_keyed_cred]
  rfl

theorem pressed_enrolling_kept (hm : b.power.mode = .active) (hp : b.keypad.phase ≠ none) (hs : e.step = .first)
    (h : b.store.effective.minPin ≤ b.keypad.buffer.length) :
    withdrawRaced s (keyPress .openKey b) = { r with
      cred.enroll := some { e with step := .waitSecond, first := b.keypad.buffer }
      keypad := { r.keypad with
        buffer := [], phase := none, timer := some 10000, oneShot := some ⟨.enrollStep, 0, 100, 2⟩
        withdrawn := s.entryRaced } } := by
  have hlong : ¬b.keypad.buffer.length < (endCollection (b.keyed e)).store.effective.minPin := by
    rw [show (endCollection (b.keyed e)).store = b.store from keyed_store b e]
    exact Nat.not_lt.mpr h
  have hmode : (b.keyed e).power.mode = .active := by rw [keyed_power, hm]
  have hkeep : firstEntry e b.keypad.buffer (endCollection (b.keyed e)) = { b.keyed e with
      cred := { b.cred with enroll := some { e with step := .waitSecond, first := b.keypad.buffer } }
      keypad := { b.keypad with
        buffer := [], phase := none, timer := some Config.entryMs, oneShot := some (Player.start .enrollStep) } } := by
    rw [firstEntry, if_neg hlong, ← keyed_cred b e, ← keyed_keypad b e]
    exact requestOneShot_active (s := { endCollection (b.keyed e) with
      cred.enroll := some { e with step := .waitSecond, first := (b.keyed e).keypad.buffer }
      keypad.timer := some Config.entryMs }) hmode .enrollStep
  rw [keyPress_enrolling_first hd he hr hp hs, withdrawRaced_enrolled_restart hk hw hkeep rfl rfl, hr,
    withdrawRaced_keyed_keypad hk, withdrawRaced_keyed_cred]
  rfl

end EnrollPress

section EnrollLock

variable {s b : State} {e : Enroll} (hk : b.keypad.timer = s.keypad.timer) (hd : b.ctl.drive = .enrolling)
  (he : b.cred.enroll = some e)

include hk hd he

theorem pressed_enrolling_lock (ho : e.origin = .opened) :
    b.lockedFrom e (withdrawRaced s (keyPress .lockKey b)) := by
  have hcancel : cancelEnroll e (b.keyed e) = lockDrive (b.keyed e) := by
    rw [cancelEnroll, ho]
    exact lockTrigger_of_enrolling (by rw [keyed_drive, hd]) (by rw [keyed_cred, he]) ho
  rw [keyPress_enrolling_lock hd he, hcancel]
  exact lockDrive_keyed hk he ho

variable (hi : b.ctl.inactivity = s.ctl.inactivity) (ho : e.origin = .factory)

include ho in
/-- LOCK in an enrollment from FACTORY restarts no timer. -/
theorem keyPress_enrolling_cancels : keyPress .lockKey b = cancelFactoryEnroll e b := by
  have hkeyed : b.keyed e = b := if_neg (by rw [ho]; simp)
  rw [keyPress_enrolling_lock hd he, hkeyed, cancelEnroll]
  split
  · next h => rw [ho] at h; cases h
  · rfl

include hi ho

theorem pressed_enrolling_cancelled_late (hs : e.step = .committing) :
    withdrawRaced s (keyPress .lockKey b) = { b with cred.enroll := some { e with cancelled := true } } := by
  have hcancel : keyPress .lockKey b = { b with cred.enroll := some { e with cancelled := true } } :=
    (keyPress_enrolling_cancels hk hd he ho).trans (if_pos hs)
  rw [hcancel]
  exact withdrawRaced_same hk hi

theorem pressed_enrolling_cancelled (hs : e.step ≠ .committing) :
    ∃ k : KeypadUnit, withdrawRaced s (keyPress .lockKey b) = { b with
        ctl := { b.ctl with drive := .factory }, cred := { b.cred with enroll := none, lastEnroll := .cancelled }
        keypad := k } ∧
      k.buffer = [] ∧ k.phase = none ∧ k.timer = none ∧ k.selection = .factory ∧ k.keys = b.keypad.keys ∧
      k.oneShot = b.keypad.oneShot := by
  have hcancel : keyPress .lockKey b =
      setDrive .factory (endCollection { b with cred.enroll := none, cred.lastEnroll := .cancelled }) :=
    (keyPress_enrolling_cancels hk hd he ho).trans (if_neg hs)
  obtain ⟨hkeys, hbuffer, hphase, htimer, honeShot, -⟩ := setDrive_keypad .factory
    (endCollection { b with cred.enroll := none, cred.lastEnroll := .cancelled })
  rw [hcancel, setDrive_eq]
  exact ⟨_, withdrawRaced_of_change hk hi _ _ _, hbuffer, hphase, htimer, setDrive_selection rfl, hkeys, honeShot⟩

end EnrollLock

end Sys2Proof.Machine

namespace Sys2Proof.Proofs

open Sys2Proof Sys2Proof.Machine

/-- Settles O50: each key by the drive state that the PRESS finds, and what the PRESS withdraws. -/
theorem pressInEntry : Obligations.PressInEntry := by
  refine ⟨fun s seen i keys hs hm hkeys hwas hnow hup => ?_, fun s seen i keys hs hm hkeys hwas hnow hup b hb => ?_,
    fun s seen i keys e hs hm hkeys hwas hnow hup hd he b r hb hr => ?_⟩
  · have press := exec_scan_press hs hm hkeys hwas hnow hup
      (b := { s with power.idle := s.idleAfterPress, keypad.keys := keys }) rfl
    refine ⟨fun hd hi => ?_, fun hd hi => ?_, fun d hd hi hl => ?_, fun hd h => ?_, fun hd hi hl => ?_⟩
    · subst hi
      obtain ⟨k, hk, hrest⟩ := pressed_locked_open (s := s)
        (b := { s with power.idle := s.idleAfterPress, keypad.keys := keys }) rfl rfl hd
      exact ⟨k, press.trans (congrArg _ hk), hrest⟩
    · exact press.trans (congrArg _ (pressed_ignored rfl rfl (keyPress_ignored
        (.inr (.inr (.inr (.inr (.inr (.inl ⟨hd, mt (keyAt_openKey_iff i).mp hi⟩)))))))))
    · rw [press, keyAt_digit hi]
      exact congrArg _ (pressed_entry_digit (s := s)
        (b := { s with power.idle := s.idleAfterPress, keypad.keys := keys }) rfl rfl rfl hd hm hl)
    · obtain ⟨k, hk, hrest⟩ := pressed_entry_discards (s := s)
        (b := { s with power.idle := s.idleAfterPress, keypad.keys := keys }) rfl rfl hd hm h
      exact ⟨k, press.trans (congrArg _ hk), hrest⟩
    · subst hi
      obtain ⟨k, hk, hrest⟩ := pressed_entry_evaluates (s := s)
        (b := { s with power.idle := s.idleAfterPress, keypad.keys := keys }) rfl rfl hd hl
      exact ⟨k, press.trans (congrArg _ hk), hrest⟩
  · have press := exec_scan_press hs hm hkeys hwas hnow hup hb
    have hk : b.keypad.timer = s.keypad.timer := by rw [hb]
    have hi : b.ctl.inactivity = s.ctl.inactivity := by rw [hb]
    have hdrive : b.ctl.drive = s.ctl.drive := by rw [hb]
    have hmode : b.power.mode = .active := by rw [hb, hm]
    refine ⟨fun h => ?_, fun hd hi9 he => ?_, fun hd hi11 => ⟨fun hr => ?_, fun hr hem hg => ?_, fun hr h => ?_⟩⟩
    · refine press.trans (congrArg _ (pressed_ignored hk hi (keyPress_ignored ?_)))
      rw [hdrive]
      simp only [ne_eq, keyAt_openKey_iff, keyAt_lockKey_iff]
      exact h.imp_right (Or.imp_right (Or.imp_right (Or.imp_right (Or.imp_right .inr))))
    · subst hi9
      obtain ⟨k, hpress, hrest⟩ := pressed_opened_lock hk hi (hdrive.trans hd) (by rw [hb, he])
      rw [hb] at hrest
      exact ⟨k, press.trans (congrArg _ hpress), hrest⟩
    · rw [press, (keyAt_openKey_iff i).mpr hi11, keyPress_factory_notReady (hdrive.trans hd) hmode (by rwa [hb])]
      exact congrArg _ (withdrawRaced_same hk hi)
    · rw [press, (keyAt_openKey_iff i).mpr hi11, keyPress_factory_exhausted (hdrive.trans hd) (by rwa [hb]) hmode
        (by rwa [hb]) (by rwa [hb])]
      exact congrArg _ (withdrawRaced_same hk hi)
    · rw [press, (keyAt_openKey_iff i).mpr hi11]
      obtain ⟨k, hpress, hrest⟩ := pressed_factory_enrolls hk hi (hdrive.trans hd) (by rwa [hb]) (by rwa [hb])
      rw [hb] at hrest
      exact ⟨k, (congrArg _ hpress).trans (by rw [hb]), hrest⟩
  · have press := exec_scan_press hs hm hkeys hwas hnow hup hb
    have hk : b.keypad.timer = s.keypad.timer := by rw [hb]
    have hw : b.keypad.withdrawn = s.keypad.withdrawn := by rw [hb]
    have hi : b.ctl.inactivity = s.ctl.inactivity := by rw [hb]
    have hdrive : b.ctl.drive = .enrolling := by rw [hb, hd]
    have he' : b.cred.enroll = some e := by rw [hb, he]
    have hcred : b.cred = s.cred := by rw [hb]
    have hmode : b.power.mode = .active := by rw [hb, hm]
    have hphase : b.keypad.phase = s.keypad.phase := by rw [hb]
    have hbuffer : b.keypad.buffer = s.keypad.buffer := by rw [hb]
    have hstore : b.store = s.store := by rw [hb]
    have hmedia : b.media = s.media := by rw [hb]
    rw [← withdrawRaced_keyed hk hi] at hr
    rw [← hphase, ← hbuffer, ← hstore, ← hmedia, ← hcred]
    refine ⟨fun h9 hp h => ?_, fun p h11 hp h => ?_, fun d hdig hp => ⟨fun hl => ?_, fun hl => ?_⟩,
      fun h11 hp hst => ⟨fun hl => ?_, fun hl => ?_⟩, fun h11 hp hst => ⟨fun hne => ?_, fun heq ho hnr => ?_,
      fun heq ho => ?_⟩, fun h9 ho => ?_, fun h9 ho hst => ?_, fun h9 ho hst => ?_⟩
    · rw [press, pressed_enrolling_ignored hdrive he' hi hk h9 hp h]
    · rw [press, (keyAt_openKey_iff i).mpr h11]
      exact congrArg _ (pressed_enrolling_begins hk hw hdrive he' hr hp h)
    · rw [press, keyAt_digit hdig]
      exact congrArg _ (pressed_enrolling_digit hk hw hdrive he' hr hmode hp hl)
    · rw [press, keyAt_digit hdig]
      exact ⟨_, rfl, pressed_enrolling_overflow hdrive he' hr hmode hp hl⟩
    · rw [press, (keyAt_openKey_iff i).mpr h11]
      exact ⟨_, rfl, pressed_enrolling_short hdrive he' hr hmode hp hst hl⟩
    · rw [press, (keyAt_openKey_iff i).mpr h11]
      exact congrArg _ (pressed_enrolling_kept hk hw hdrive he' hr hmode hp hst hl)
    · rw [press, (keyAt_openKey_iff i).mpr h11]
      exact ⟨_, rfl, pressed_enrolling_mismatch hdrive he' hr hmode hp hst hne⟩
    · rw [press, (keyAt_openKey_iff i).mpr h11]
      exact ⟨_, rfl, pressed_enrolling_noMedia hdrive he' hr hmode hp hst heq ho hnr⟩
    · rw [press, (keyAt_openKey_iff i).mpr h11]
      exact congrArg _ (pressed_enrolling_compares hk hdrive he' hr hp hst heq ho)
    · rw [press, (keyAt_lockKey_iff i).mpr h9]
      exact ⟨_, rfl, pressed_enrolling_lock hk hdrive he' ho⟩
    · rw [press, (keyAt_lockKey_iff i).mpr h9]
      exact congrArg _ (pressed_enrolling_cancelled_late hk hdrive he' hi ho hst)
    · rw [press, (keyAt_lockKey_iff i).mpr h9]
      obtain ⟨k, hpress, hrest⟩ := pressed_enrolling_cancelled hk hdrive he' hi ho hst
      rw [hb] at hrest
      exact ⟨k, congrArg _ hpress, hrest⟩

end Sys2Proof.Proofs
end

section
/-! SUPPORT. What the image holds after the operations on it (R73), and the reports of a fall of the counts where no
one waits for them (R64). -/

namespace Sys2Proof.Machine

open Sys2Proof

/-! ### Sectors that become unknown (R73) -/

section Forgetting

variable {α : Type} (range : α → Option Range) {g : List (Nat × Content) → α → List (Nat × Content)}
  (hg : ∀ l x, g l x = match range x with | some r => flashForget r l | none => l)

include hg

/-- A fold that forgets the ranges that its elements name leaves a sector of none of them. -/
theorem flashRead_foldl_kept {xs : List α} {a : Nat} (h : ∀ x ∈ xs, ∀ r, range x = some r → r.has a = false)
    (l : List (Nat × Content)) : flashRead (xs.foldl g l) a = flashRead l a := by
  induction xs generalizing l with
  | nil => rfl
  | cons x xs ih =>
    rw [List.foldl_cons, ih (fun y hy => h y (List.mem_cons_of_mem x hy)), hg]
    split
    · next r hr => rw [flashRead_forget, h x List.mem_cons_self r hr, if_neg Bool.false_ne_true]
    · rfl

/-- Once a sector is unknown, it stays so, whatever else is forgotten. -/
theorem flashRead_foldl_unknown (xs : List α) {a : Nat} {l : List (Nat × Content)} (h : flashRead l a = .unknown) :
    flashRead (xs.foldl g l) a = .unknown := by
  induction xs generalizing l with
  | nil => exact h
  | cons x xs ih =>
    refine ih ?_
    rw [hg]
    split
    · rw [flashRead_forget, h, ite_self]
    · exact h

/-- A sector of a range that an element names becomes unknown. -/
theorem flashRead_foldl_forgotten {xs : List α} {a : Nat} {x : α} (hx : x ∈ xs) {r : Range} (hr : range x = some r)
    (ha : r.has a = true) (l : List (Nat × Content)) : flashRead (xs.foldl g l) a = .unknown := by
  induction xs generalizing l with
  | nil => exact absurd hx List.not_mem_nil
  | cons y xs ih =>
    rcases List.mem_cons.mp hx with rfl | hx
    · refine flashRead_foldl_unknown range hg xs ?_
      rw [hg, hr]
      exact (flashRead_forget r a l).trans (if_pos ha)
    · exact ih hx _

end Forgetting

/-- The range that a dropped WRITE transaction leaves unknown (R73, R201). -/
def Txn.unwritten (t : Txn) : Option Range := if t.kind = .write ∧ t.dropped = false then some t.range else none

theorem Txn.unwritten_eq_some {t : Txn} {r : Range} :
    t.unwritten = some r ↔ (t.kind = .write ∧ t.dropped = false) ∧ t.range = r := by
  simp [Txn.unwritten]

theorem forgetWrites_step (l : List (Nat × Content)) (t : Txn) :
    (if t.kind = .write ∧ t.dropped = false then flashForget t.range l else l) =
      match t.unwritten with | some r => flashForget r l | none => l := by
  unfold Txn.unwritten
  split_ifs <;> rfl

/-- The range that the abandoned WRITE of a BUSY tag leaves unknown (R73). -/
def MediaTag.unwritten : MediaTag → Option Range
  | .busy c => if c.kind = .write then some c.range else none
  | _ => none

theorem MediaTag.unwritten_eq_some {t : MediaTag} {r : Range} :
    t.unwritten = some r ↔ ∃ c, t = .busy c ∧ c.kind = .write ∧ c.range = r := by
  cases t <;> simp [MediaTag.unwritten]

theorem forgetBusy_eq (tags : Vector MediaTag 16) (l : List (Nat × Content)) : forgetBusy tags l =
    tags.toList.foldl (fun l t => match t.unwritten with | some r => flashForget r l | none => l) l := by
  refine congrArg (fun g => tags.toList.foldl g l) (funext fun l => funext fun t => ?_)
  cases t with
  | busy c => by_cases hc : c.kind = .write <;> simp [MediaTag.unwritten, hc]
  | free => rfl
  | retired => rfl

theorem flashRead_forgetBusy_kept {tags : Vector MediaTag 16} {a : Nat}
    (h : ∀ (i : Tag) (c : Command), tags[i] = .busy c → c.kind = .write → c.range.has a = false)
    (l : List (Nat × Content)) : flashRead (forgetBusy tags l) a = flashRead l a := by
  rw [forgetBusy_eq]
  refine flashRead_foldl_kept MediaTag.unwritten (fun _ _ => rfl) (fun t ht r hr => ?_) l
  obtain ⟨c, rfl, hk, rfl⟩ := MediaTag.unwritten_eq_some.mp hr
  obtain ⟨i, hi, htag⟩ := List.mem_iff_getElem.mp ht
  exact h ⟨i, by simpa using hi⟩ c (by simpa using htag) hk

theorem flashRead_forgetBusy_unknown {tags : Vector MediaTag 16} {a : Nat} {i : Tag} {c : Command}
    (htag : tags[i] = .busy c) (hk : c.kind = .write) (ha : c.range.has a = true) (l : List (Nat × Content)) :
    flashRead (forgetBusy tags l) a = .unknown := by
  have hmem : tags[i] ∈ tags.toList := by simp
  rw [forgetBusy_eq]
  exact flashRead_foldl_forgotten MediaTag.unwritten (fun _ _ => rfl) hmem
    (MediaTag.unwritten_eq_some.mpr ⟨c, htag, hk, rfl⟩) ha l

/-! ### The reports of the counts where no one waits for them (R44, R64, R87) -/

/-- No drain and no head job waits for a fall of the in-flight counts. -/
def State.calm (s : State) : Prop :=
  (s.filter.quiesce = .none ∨ s.filter.quiesce = .test ∧ s.cipher.test.state ≠ .draining) ∧
  (s.ctl.drive = .fault ∨ s.erase.stage ≠ .waitCount)

theorem drainCheck_calm {s : State}
    (h : s.filter.quiesce = .none ∨ s.filter.quiesce = .test ∧ s.cipher.test.state ≠ .draining) :
    drainCheck s = s := by
  unfold drainCheck
  split
  · rfl
  · rcases h with h | ⟨h, ht⟩ <;> simp [h]
    exact fun hd => absurd hd ht

theorem headCheck_calm {s : State} (h : s.ctl.drive = .fault ∨ s.erase.stage ≠ .waitCount) : headCheck s = s := by
  unfold headCheck
  cases s.erase.queue with
  | nil => rfl
  | cons j rest => exact if_neg (fun hrun => h.elim hrun.2.2 (fun hs => hs hrun.1))

theorem notifyCounts_calm {s : State} (h : s.calm) : notifyCounts s = s := by
  rw [notifyCounts, drainCheck_calm h.1, headCheck_calm h.2]

/-- What the ends of fragments and transactions leave as it stands where no one waits for the counts. -/
def State.ground (s : State) : Store × CipherUnit × RegionMap × EraseEngine × LockController × Quiesce :=
  (s.store, s.cipher, s.regions, s.erase, s.ctl, s.filter.quiesce)

theorem State.calm.of_ground {s t : State} (h : s.calm) (hg : t.ground = s.ground) : t.calm := by
  simp only [State.ground, Prod.mk.injEq] at hg
  obtain ⟨-, hcipher, -, herase, hctl, hquiesce⟩ := hg
  rwa [State.calm, hcipher, herase, hctl, hquiesce]

theorem notifyCounts_ground {s : State} (h : s.calm) : (notifyCounts s).ground = s.ground := by
  rw [notifyCounts_calm h]

theorem endFrag_ground {s : State} (h : s.calm) (id : Nat) (st : FragState) : (endFrag id st s).ground = s.ground := by
  unfold endFrag
  split
  · rfl
  · rw [notifyCounts_ground]
    · rfl
    · exact h.of_ground rfl

theorem completeTxn_ground (id : Nat) (s : State) : (completeTxn id s).ground = s.ground := by
  have hquiesce : (completeTxn id s).filter.quiesce = s.filter.quiesce := by
    unfold completeTxn
    (repeat' split) <;> rfl
  simp [State.ground, hquiesce]

theorem readResult_ground {s : State} (h : s.calm) (t : Txn) (g : Frag) (ok : Bool) (data : List Content) :
    (readResult t g ok data s).ground = s.ground := by
  unfold readResult
  split
  · exact endFrag_ground (s := setTxn t.id _ s) (h.of_ground rfl) ..
  · split
    · exact endFrag_ground h ..
    · split
      · exact endFrag_ground (s := setFrag g.id _ { s with
          counters.unrelated := (deliver g.key g.zeros g.range.lo data s.counters.unrelated).2 }) (h.of_ground rfl) ..
      · exact endFrag_ground (s := setTxn t.id _ s) (h.of_ground rfl) ..

theorem fragResult_ground {s : State} (h : s.calm) (id : Nat) (ok : Bool) (data : List Content) :
    (fragResult id ok data s).ground = s.ground := by
  unfold fragResult
  split
  · rfl
  · rw [completeTxn_ground]
    split
    · exact endFrag_ground h ..
    · split
      · exact readResult_ground h ..
      · split
        · exact endFrag_ground h ..
        · exact endFrag_ground (s := setTxn _ _ s) (h.of_ground rfl) ..

/-- A fold of operations that keep the ground of a state where no one waits. -/
theorem foldl_ground {α : Type} {g : State → α → State} (hg : ∀ {s : State}, s.calm → ∀ x, (g s x).ground = s.ground)
    (l : List α) {s : State} (h : s.calm) : (l.foldl g s).ground = s.ground := by
  induction l generalizing s with
  | nil => rfl
  | cons x l ih => exact (ih (h.of_ground (hg h x))).trans (hg h x)

theorem joinIssue_ground {s : State} (h : s.calm) (id : Nat) : (joinIssue id s).ground = s.ground := by
  unfold joinIssue
  split
  · exact fragResult_ground h ..
  · rfl

theorem joinIfPulled_ground {s : State} (h : s.calm) (id : Nat) : (joinIfPulled id s).ground = s.ground := by
  unfold joinIfPulled
  split
  · rfl
  · split
    · exact joinIssue_ground h id
    · rfl

theorem failIssueQueue_ground {s : State} (h : s.calm) : (failIssueQueue s).ground = s.ground :=
  foldl_ground (fun h id => fragResult_ground h id false []) _ (s := { s with filter.issueQ := [] }) (h.of_ground rfl)

theorem releaseHolds_ground {s : State} (h : s.calm) (serial : Nat) : (releaseHolds serial s).ground = s.ground :=
  foldl_ground (fun {s} h id => joinIfPulled_ground (s := setFrag id _ s) (h.of_ground rfl) id) _ h

theorem releaseChunkHolds_ground {s : State} (h : s.calm) : (releaseChunkHolds s).ground = s.ground := by
  unfold releaseChunkHolds
  split
  · exact releaseHolds_ground h _
  · rfl

theorem releaseIdleHolds_ground {s : State} (h : s.calm) : (releaseIdleHolds s).ground = s.ground := by
  unfold releaseIdleHolds
  split
  · split
    · rfl
    · exact releaseHolds_ground h _
  · rfl

theorem endWaits_ground (picks : Txn → Bool) (s : State) : (endWaits picks s).ground = s.ground :=
  foldl_keeps State.ground _ (fun s id => completeTxn_ground id (setTxn id _ s)) _ s

theorem faultWaits_ground (s : State) : (faultWaits s).ground = s.ground :=
  foldl_keeps State.ground _ (fun s id => completeTxn_ground id (setTxn id _ s)) _ s

/-! ### Entry into FAULT (R170) -/

section Fault

variable {s : State} (h : s.ctl.drive ≠ .fault) (c : FaultCause)

/-- FAULT before the waits and the HOLD pieces are ended. -/
def State.faulted (s : State) (c : FaultCause) : State :=
  abortTest (endApply (endCollection (setDrive .fault { closeSlots s with
    ctl.openProfile := none, ctl.window := none, ctl.inactivity := none, ctl.cause := some c,
    ctl.wipeStep := none, cred.backoff := none, cred.eval := none, cred.enroll := none,
    cred.comparison := faultComparison s.cred.comparison })))

include h

theorem enterFault_eq : enterFault c s = releaseIdleHolds (faultWaits (s.faulted c)) := if_neg h

theorem enterFault_ctl : (enterFault c s).ctl = { s.ctl with
    drive := .fault, openProfile := none, window := none, inactivity := none, cause := some c, wipeStep := none } := by
  rw [enterFault_eq h]
  simp [State.faulted]

theorem enterFault_cred : (enterFault c s).cred = { s.cred with
    backoff := none, eval := none, enroll := none, comparison := faultComparison s.cred.comparison } := by
  rw [enterFault_eq h]
  simp [State.faulted]

theorem enterFault_keypad : (enterFault c s).keypad.selection = .fault ∧ (enterFault c s).keypad.buffer = [] ∧
    (enterFault c s).keypad.phase = none ∧ (enterFault c s).keypad.timer = none := by
  have hkeypad : (enterFault c s).keypad = (s.faulted c).keypad := by
    rw [enterFault_eq h]
    simp
  rw [hkeypad]
  simp only [State.faulted, abortTest_frame, endApply_frame]
  exact ⟨setDrive_selection rfl, rfl, rfl, rfl⟩

omit h in
/-- The test is aborted, so that no drain of its own is left. -/
theorem abortTest_not_draining (t : State) : (abortTest t).cipher.test.state ≠ .draining := by
  unfold abortTest
  split
  · simp
  · next hb => exact fun hd => hb (by simp [State.testBusy, hd])

omit h in
theorem abortTest_quiesce {t : State} (h : t.filter.quiesce ≠ .apply) : (abortTest t).filter.quiesce ≠ .apply := by
  unfold abortTest
  split
  · dsimp only
    split
    · simp
    · exact h
  · exact h

omit h in
/-- Where a quiesce for an apply stands only while one is DRAINING, none is left. -/
theorem endApply_quiesce {t : State} (h : t.filter.quiesce = .apply → t.regions.apply = .draining) :
    (endApply t).filter.quiesce ≠ .apply := by
  unfold endApply
  split
  · dsimp only
    split
    · simp
    · assumption
  · next hd => exact fun hq => hd (h hq)

omit h in
theorem faulted_quiesce (hq : s.filter.quiesce = .apply → s.regions.apply = .draining) :
    (s.faulted c).filter.quiesce ≠ .apply :=
  abortTest_quiesce (endApply_quiesce (by simpa using hq))

omit h in
theorem faulted_calm (hq : s.filter.quiesce = .apply → s.regions.apply = .draining) : (s.faulted c).calm := by
  refine ⟨?_, .inl (by simp [State.faulted])⟩
  cases hf : (s.faulted c).filter.quiesce with
  | none => exact .inl rfl
  | apply => exact absurd hf (faulted_quiesce c hq)
  | test => exact .inr ⟨rfl, abortTest_not_draining _⟩

omit h in
theorem faulted_slots : (s.faulted c).cipher.slots = (closeSlots s).cipher.slots := by
  simp [State.faulted]

omit h in
theorem faulted_regions : (s.faulted c).regions = (endApply s).regions := by
  have hend {t u : State} (ht : t.regions = u.regions) : (endApply t).regions = (endApply u).regions := by
    unfold endApply
    rw [ht]
    split <;> simp [ht]
  simpa [State.faulted] using hend (by simp)

variable (hq : s.filter.quiesce = .apply → s.regions.apply = .draining)

include hq

theorem enterFault_ground : (enterFault c s).ground = (s.faulted c).ground := by
  have hcalm : (faultWaits (s.faulted c)).calm := (faulted_calm c hq).of_ground (faultWaits_ground _)
  rw [enterFault_eq h, releaseIdleHolds_ground hcalm, faultWaits_ground]

theorem enterFault_store : (enterFault c s).store = s.store :=
  (congrArg (fun x => x.1) (enterFault_ground h c hq)).trans (by simp [State.ground, State.faulted])

theorem enterFault_slots : (enterFault c s).cipher.slots = (closeSlots s).cipher.slots :=
  (congrArg (fun x => x.2.1.slots) (enterFault_ground h c hq)).trans (faulted_slots c)

theorem enterFault_result : (enterFault c s).cipher.result = s.cipher.result := by
  refine (congrArg (fun x => x.2.1.result) (enterFault_ground h c hq)).trans ?_
  have habort (t : State) : (abortTest t).cipher.result = t.cipher.result := by
    unfold abortTest
    split <;> rfl
  simp [State.ground, State.faulted, habort, closeSlots]

theorem enterFault_regions : (enterFault c s).regions = (endApply s).regions :=
  (congrArg (fun x => x.2.2.1) (enterFault_ground h c hq)).trans (faulted_regions c)

end Fault

theorem endApply_regions (s : State) : (endApply s).regions.table = s.regions.table ∧
    (endApply s).regions.apply = .idle := by
  unfold endApply
  split
  · exact ⟨rfl, rfl⟩
  · next h =>
    refine ⟨rfl, ?_⟩
    cases ha : s.regions.apply with
    | idle => rfl
    | draining => exact absurd ha h

theorem closeSlots_slots (s : State) (k : SlotIx) : (closeSlots s).cipher.slots[k] =
    { s.cipher.slots[k] with
      state := if s.cipher.slots[k].state = .opened then .closed else s.cipher.slots[k].state } := by
  simp only [closeSlots, Fin.getElem_fin, Vector.getElem_map]
  split_ifs with hk
  · rfl
  · rfl

theorem closeSlots_not_opened (s : State) (k : SlotIx) : (closeSlots s).cipher.slots[k].state ≠ .opened := by
  rw [closeSlots_slots]
  dsimp only
  split_ifs with hk
  · simp
  · exact hk

/-! ### CIPHER_TEST_END (R78) -/

theorem exec_cipherTestEnd {s : State} {k : RunKind} {left : Nat} (h : s.cipher.run = some ⟨k, left⟩) (m : BitVec 16) :
    exec (.cipherTestEnd m) s = .next (standbyCheck (cipherEnd k m { s with cipher.run := none })) := by
  simp [exec, execCipherTestEnd, h]

/-- A failing run of the cipher test: FAIL for a SELF_TEST, and FAULT. -/
theorem cipherEnd_fails {k : RunKind} {m : BitVec 16} (h : k = .plain ∧ m ≠ 0 ∨ k = .inject ∧ m ≠ 1 ∨ k = .startUp ∧ m
    ≠ 0)
    (s : State) : cipherEnd k m s = if k = .startUp then startUpEnd (enterFault .cipherTest s)
      else enterFault .cipherTest { s with cipher.result := .fail } := by
  rcases h with ⟨rfl, h⟩ | ⟨rfl, h⟩ | ⟨rfl, h⟩ <;> exact if_neg h

end Sys2Proof.Machine

namespace Sys2Proof.Proofs

open Sys2Proof Sys2Proof.Machine

/-- Settles O42: the end of a run by its kind and the compares that differ. -/
theorem cipherTestEnds : Obligations.CipherTestEnds := by
  refine fun s m hs => ⟨fun h => by simp [exec, execCipherTestEnd, h], fun left h hm => ?_, fun left h hm => ?_,
    fun k left h hd hq hfail => ?_⟩
  · rw [exec_cipherTestEnd h, standbyCheck_of_power hs (by simp [cipherEnd, hm])]
    simp [cipherEnd, hm]
  · rw [exec_cipherTestEnd h, standbyCheck_of_power hs (by simp [cipherEnd, hm])]
    simp [cipherEnd, hm]
  · generalize hb : (if k = .startUp then { s with cipher.run := none } else
      { s with cipher.run := none, cipher.result := .fail } : State) = b
    have hdrive : b.ctl.drive ≠ .fault := by rw [← hb]; split_ifs <;> exact hd
    have hquiesce : b.filter.quiesce = .apply → b.regions.apply = .draining := by rw [← hb]; split_ifs <;> exact hq
    have hend : cipherEnd k m { s with cipher.run := none } =
        if k = .startUp then startUpEnd (enterFault .cipherTest b) else enterFault .cipherTest b := by
      rw [cipherEnd_fails hfail, ← hb]
      split_ifs <;> rfl
    have hfields : (cipherEnd k m { s with cipher.run := none }).ctl = (enterFault .cipherTest b).ctl ∧
        (cipherEnd k m { s with cipher.run := none }).cipher = (enterFault .cipherTest b).cipher ∧
        (cipherEnd k m { s with cipher.run := none }).store = (enterFault .cipherTest b).store ∧
        (cipherEnd k m { s with cipher.run := none }).flash = (enterFault .cipherTest b).flash ∧
        (cipherEnd k m { s with cipher.run := none }).cred = (enterFault .cipherTest b).cred ∧
        (cipherEnd k m { s with cipher.run := none }).regions = (enterFault .cipherTest b).regions := by
      rw [hend]
      split_ifs <;> simp
    obtain ⟨hctl, hcipher, hstore, hflash, hcred, hregions⟩ := hfields
    have hresult : b.cipher.result = if k = .startUp then s.cipher.result else .fail := by
      rw [← hb]
      split_ifs <;> rfl
    have hsame : b.cipher.run = none ∧ b.store = s.store ∧ b.flash = s.flash ∧ b.cred = s.cred ∧
        b.regions = s.regions := by
      rw [← hb]
      split_ifs <;> exact ⟨rfl, rfl, rfl, rfl, rfl⟩
    obtain ⟨hrun, hbstore, hbflash, hbcred, hbregions⟩ := hsame
    refine ⟨_, exec_cipherTestEnd h m, ?_⟩
    simp only [standbyCheck_frame, hctl, hcipher, hstore, hflash, hcred, hregions, enterFault_frame,
      enterFault_ctl hdrive, enterFault_store hdrive _ hquiesce, enterFault_slots hdrive _ hquiesce,
      enterFault_result hdrive _ hquiesce, enterFault_regions hdrive _ hquiesce, endApply_regions, hrun, hresult,
      hbstore, hbflash, hbcred, hbregions, true_and, and_true]
    exact closeSlots_not_opened b

end Sys2Proof.Proofs
end

section
/-! SUPPORT. The loss and the return of power (R192, R197, R201). -/

namespace Sys2Proof.Machine

open Sys2Proof

/-! ### Power loss (R201) -/

/-- What the commit cut short by a loss of power leaves of the record copies (R192). -/
theorem powerDown_store_eq (s : State) : (powerDown s).store = { State.blank.store with
    options := (s.store.busy.elim s.store (fun c => s.store.spoil c.content)).options
    profiles := (s.store.busy.elim s.store (fun c => s.store.spoil c.content)).profiles
    map := (s.store.busy.elim s.store (fun c => s.store.spoil c.content)).map
    attempts := (s.store.busy.elim s.store (fun c => s.store.spoil c.content)).attempts
    sweep := (s.store.busy.elim s.store (fun c => s.store.spoil c.content)).sweep } := by
  unfold powerDown
  cases s.store.busy <;> rfl

theorem forgetWrites_eq (ts : List Txn) (l : List (Nat × Content)) : forgetWrites ts l =
    ts.foldl (fun l t => match t.unwritten with | some r => flashForget r l | none => l) l :=
  congrArg (fun g => ts.foldl g l) (funext fun l => funext fun t => forgetWrites_step l t)

theorem flashRead_forgetWrites_kept {ts : List Txn} {a : Nat}
    (h : ∀ x ∈ ts, x.kind = .write → x.dropped = false → x.range.has a = false) (l : List (Nat × Content)) :
    flashRead (forgetWrites ts l) a = flashRead l a := by
  rw [forgetWrites_eq]
  refine flashRead_foldl_kept Txn.unwritten (fun _ _ => rfl) (fun t ht r hr => ?_) l
  obtain ⟨⟨hk, hd⟩, rfl⟩ := Txn.unwritten_eq_some.mp hr
  exact h t ht hk hd

theorem flashRead_forgetWrites_forgotten {ts : List Txn} {a : Nat} {x : Txn} (hx : x ∈ ts) (hk : x.kind = .write)
    (hd : x.dropped = false) (ha : x.range.has a = true) (l : List (Nat × Content)) :
    flashRead (forgetWrites ts l) a = .unknown := by
  rw [forgetWrites_eq]
  exact flashRead_foldl_forgotten Txn.unwritten (fun _ _ => rfl) hx (Txn.unwritten_eq_some.mpr ⟨⟨hk, hd⟩, rfl⟩) ha l

theorem flashRead_forgetWrites_unknown (ts : List Txn) {a : Nat} {l : List (Nat × Content)}
    (h : flashRead l a = .unknown) : flashRead (forgetWrites ts l) a = .unknown := by
  rw [forgetWrites_eq]
  exact flashRead_foldl_unknown Txn.unwritten (fun _ _ => rfl) ts h

/-! ### The load (R197) -/

theorem exec_powerOn (d : BitVec 24) (s : State) : exec (.powerOn d) s = .next (startUp (s.restarted d)) := rfl

/-- The copies that the load finds (R192, assumption 11). -/
def State.copiesAt (s : State) (d : BitVec 24) : Store :=
  (s.store.busy.elim s.store (fun c => s.store.spoil c.content)).decay d

theorem restarted_store (s : State) (d : BitVec 24) : (s.restarted d).store = { State.blank.store with
    options := (s.copiesAt d).options, profiles := (s.copiesAt d).profiles, map := (s.copiesAt d).map
    attempts := (s.copiesAt d).attempts, sweep := (s.copiesAt d).sweep } := by
  unfold State.restarted State.copiesAt
  rw [powerDown_store_eq]
  rfl

theorem checkFails_iff (st : Store) : st.checkFails = true ↔
    st.map.load mapLaw = none ∨ st.attempts.load attemptsLaw = none ∨ st.sweep.load sweepLaw = none ∨
      ∃ p : ProfIx, st.profiles[p].load (profileLaw p) = none := by
  simp only [Store.checkFails, Bool.or_eq_true, List.any_eq_true, List.mem_finRange, true_and,
      Option.isNone_iff_eq_none]
  tauto

theorem restarted_checkFails (s : State) (d : BitVec 24) :
    (s.restarted d).store.checkFails = (s.copiesAt d).checkFails := by
  rw [restarted_store]
  rfl

/-- Start-up with a record other than OPTIONS failing its check (R197). -/
theorem startUp_fails {s : State} (h : s.store.checkFails = true) :
    startUp s = startUpEnd (enterFault .storeCheck (loadRecords s)) := if_pos h

theorem startUp_runs {s : State} (h : s.store.checkFails = false) :
    startUp s = { loadRecords s with cipher.run := some ⟨.startUp, 5⟩ } :=
  if_neg (by rw [h]; exact Bool.false_ne_true)

/-- What start-up leaves of the loaded state, whether the cipher test then runs or FAULT is entered (R197). -/
structure State.startedFrom (b t : State) : Prop where
  on : t.power.on = b.power.on
  source : t.power.source = b.power.source
  mode : t.power.mode = b.power.mode
  settling : t.power.settling = b.power.settling
  openProfile : t.ctl.openProfile = none
  wipeFlag : t.ctl.wipeFlag = b.ctl.wipeFlag
  front : t.front = b.front
  media : t.media = b.media
  filter : t.filter = b.filter
  window : t.window = b.window
  store : t.store = b.store
  attempts : t.cred.n = b.cred.n
  profiles : t.cred.profiles = b.cred.profiles
  regions : t.regions = b.regions
  slots : t.cipher.slots = b.cipher.slots
  replies : t.replies = b.replies
  counters : t.counters = b.counters

/-- An entry into FAULT that finds no traffic, no sweep, no apply and no media test. -/
theorem enterFault_quiet {s : State} (h : s.ctl.drive ≠ .fault) (c : FaultCause) (htxns : s.filter.txns = [])
    (hsweep : s.erase.sweep = none) (happly : s.regions.apply = .idle) (htest : s.testBusy = false) :
    enterFault c s = endCollection (setDrive .fault { closeSlots s with
      ctl.openProfile := none, ctl.window := none, ctl.inactivity := none, ctl.cause := some c,
      ctl.wipeStep := none, cred.backoff := none, cred.eval := none, cred.enroll := none,
      cred.comparison := faultComparison s.cred.comparison }) := by
  have hend {t : State} (ht : t.regions.apply = .idle) : endApply t = t := if_neg (by simp [ht])
  have habort {t : State} (ht : t.cipher.test = s.cipher.test) : abortTest t = t := by
    refine if_neg ?_
    rw [State.testBusy, ht]
    rw [State.testBusy] at htest
    simp [htest]
  have hwaits {t : State} (ht : t.filter.txns = []) : faultWaits t = t := by simp [faultWaits, ht]
  have hholds {t : State} (ht : t.erase.sweep = none) : releaseIdleHolds t = t := by simp [releaseIdleHolds, ht]
  rw [enterFault_eq h, State.faulted, hend (by simp [happly]), habort, hwaits (by simp [htxns]),
    hholds (by simp [hsweep])]
  simp [closeSlots]

theorem closeSlots_of_none_opened {s : State} (h : ∀ k : SlotIx, s.cipher.slots[k].state ≠ .opened) :
    (closeSlots s).cipher.slots = s.cipher.slots := by
  refine Vector.ext fun i hi => ?_
  have hslot := closeSlots_slots s ⟨i, hi⟩
  rw [if_neg (h ⟨i, hi⟩)] at hslot
  exact hslot

theorem loadRecords_not_opened (s : State) (k : SlotIx) : (loadRecords s).cipher.slots[k].state ≠ .opened := by
  have hslot (x : StoredSlot) : x.toSlot.state ≠ .opened := by
    unfold StoredSlot.toSlot
    dsimp only
    split_ifs <;> simp
  simpa [loadRecords] using hslot _

/-- Start-up ends in FAULT (R197, R200). -/
theorem startUpEnd_enterFault {s : State} (h : s.ctl.drive ≠ .fault) (hr : s.cipher.run = none) (c : FaultCause) :
    (startUpEnd (enterFault c s)).ctl.drive = .fault ∧ (startUpEnd (enterFault c s)).ctl.cause = some c ∧
    (startUpEnd (enterFault c s)).cipher.run = none ∧ (startUpEnd (enterFault c s)).power.idle = .running 20000 ∧
    (startUpEnd (enterFault c s)).keypad.selection = .fault := by
  have hsel : (startUpEnd (enterFault c s)).keypad.selection = (enterFault c s).keypad.selection := rfl
  refine ⟨?_, ?_, ?_, rfl, hsel.trans (enterFault_keypad h c).1⟩ <;> simp [enterFault_ctl h, hr]

/-! What the load makes of the copies (R197). -/

section Loaded

variable (s : State) (d : BitVec 24)

theorem loaded_wipeFlag : (loadRecords (s.restarted d)).ctl.wipeFlag =
    (((s.copiesAt d).map.load mapLaw).getD .delivered).wipeFlag := by
  rw [← show (s.restarted d).store.map = (s.copiesAt d).map by rw [restarted_store]]
  rfl

theorem loaded_window : (loadRecords (s.restarted d)).window =
    ⟨.noneResponse, ((s.copiesAt d).options.load optionsLaw).getD .defaults⟩ := by
  rw [← show (s.restarted d).store.options = (s.copiesAt d).options by rw [restarted_store]]
  rfl

theorem loaded_store : (loadRecords (s.restarted d)).store = { (s.restarted d).store with
    effective := (((s.copiesAt d).options.load optionsLaw).map RawOptions.clamp).getD .defaults
    optionsDefault := ((s.copiesAt d).options.load optionsLaw).isNone } := by
  rw [← show (s.restarted d).store.options = (s.copiesAt d).options by rw [restarted_store]]
  rfl

theorem loaded_attempts : (loadRecords (s.restarted d)).cred.n =
    correctAttempts (loadRecords (s.restarted d)).store.effective.threshold
      (((s.copiesAt d).attempts.load attemptsLaw).getD 0) := by
  rw [← show (s.restarted d).store.attempts = (s.copiesAt d).attempts by rw [restarted_store]]
  rfl

theorem loaded_profiles (p : ProfIx) : (loadRecords (s.restarted d)).cred.profiles[p] =
    ((s.copiesAt d).profiles[p].load (profileLaw p)).getD none := by
  rw [← show (s.restarted d).store.profiles = (s.copiesAt d).profiles by rw [restarted_store]]
  simp [loadRecords]

theorem loaded_slots_at (k : SlotIx) : (loadRecords (s.restarted d)).cipher.slots[k] =
    (((s.copiesAt d).map.load mapLaw).getD .delivered).slots[k].toSlot := by
  rw [← show (s.restarted d).store.map = (s.copiesAt d).map by rw [restarted_store]]
  simp [loadRecords]

/-- The active table of the MAP record, and the pending table as its copy (R25). -/
theorem loaded_regions : (loadRecords (s.restarted d)).regions = { State.blank.regions with
    table := (((s.copiesAt d).map.load mapLaw).getD .delivered).table
    epoch := (((s.copiesAt d).map.load mapLaw).getD .delivered).epoch
    pending := pendingOf (((s.copiesAt d).map.load mapLaw).getD .delivered).table
    masks := masksOf (loadRecords (s.restarted d)).cipher.slots } := by
  rw [← show (s.restarted d).store.map = (s.copiesAt d).map by rw [restarted_store]]
  rfl

end Loaded

theorem startUp_startedFrom (s : State) (d : BitVec 24) :
    (loadRecords (s.restarted d)).startedFrom (startUp (s.restarted d)) := by
  cases hc : (s.restarted d).store.checkFails with
  | false =>
    rw [startUp_runs hc]
    exact ⟨rfl, rfl, rfl, rfl, rfl, rfl, rfl, rfl, rfl, rfl, rfl, rfl, rfl, rfl, rfl, rfl, rfl⟩
  | true =>
    rw [startUp_fails hc, enterFault_quiet (by simp [State.restarted, powerDown, State.blank]) _
      (by simp [State.restarted, powerDown, State.blank]) (by simp [State.restarted, powerDown, State.blank])
      (by simp [loadRecords, copyPending, State.restarted, powerDown, State.blank])
      (by simp [loadRecords, State.testBusy, copyPending, State.restarted, powerDown, State.blank])]
    have hslots := closeSlots_of_none_opened (loadRecords_not_opened (s.restarted d))
    constructor <;> simp [hslots, startUpEnd]

end Sys2Proof.Machine

namespace Sys2Proof.Proofs

open Sys2Proof Sys2Proof.Machine

/-- Settles O45: the copies, the image and the logs of a part that has lost power. -/
theorem powerLossKeepsRecords : Obligations.PowerLossKeepsRecords := by
  intro s
  have hflash : (powerDown s).flash =
      forgetWrites s.filter.queue (forgetWrites s.filter.txns (forgetBusy s.media.tags s.flash)) := rfl
  refine ⟨_, rfl, rfl, rfl, rfl, rfl, rfl, rfl, rfl, rfl, fun k => ?_, rfl, rfl, fun st hst => ?_, fun a h => ?_,
    fun a hbusy hwrites => ?_, rfl, rfl⟩
  · simp [powerDown, State.blank]
  · rw [powerDown_store_eq, hst]
    cases s.store.busy <;> exact ⟨rfl, rfl, rfl, rfl, rfl⟩
  · rw [hflash]
    rcases h with ⟨i, c, htag, hk, ha⟩ | ⟨x, hx, hk, hd, ha⟩
    · exact flashRead_forgetWrites_unknown _ (flashRead_forgetWrites_unknown _
        (flashRead_forgetBusy_unknown htag hk ha _))
    · rcases List.mem_append.mp hx with hx | hx
      · exact flashRead_forgetWrites_forgotten hx hk hd ha _
      · exact flashRead_forgetWrites_unknown _ (flashRead_forgetWrites_forgotten hx hk hd ha _)
  · rw [hflash, flashRead_forgetWrites_kept (fun x hx => hwrites x (List.mem_append_left _ hx)),
      flashRead_forgetWrites_kept (fun x hx => hwrites x (List.mem_append_right _ hx)),
      flashRead_forgetBusy_kept hbusy]

/-- Settles O44: the loaded contents, and what the check of the records leads to. -/
theorem powerOnLoads : Obligations.PowerOnLoads := by
  intro s d st m n hst hm hn
  have hst : st = s.copiesAt d := by
    rw [hst, State.copiesAt]
    cases s.store.busy <;> rfl
  have hfrom := startUp_startedFrom s d
  have hm : m = ((s.copiesAt d).map.load mapLaw).getD .delivered := by rw [hm, hst]; rfl
  refine ⟨_, exec_powerOn d s, hfrom.on, hfrom.source, hfrom.mode, hfrom.settling, hfrom.openProfile,
    hfrom.wipeFlag.trans ?_, hfrom.front, hfrom.media, hfrom.filter, ?_, fun o ho => ?_, fun ho => ?_, ?_,
    fun p => ?_, ?_, ?_, fun p => ?_, fun k => ?_, ?_, ?_, hfrom.replies, hfrom.counters, fun hmap ha hsw hp => ?_,
    fun h => ?_⟩
  · rw [hm, loaded_wipeFlag]
  · rw [hfrom.window, loaded_window]
    rfl
  · rw [hst] at ho
    rw [hfrom.window, hfrom.store, loaded_window, loaded_store, ho]
    exact ⟨rfl, rfl, rfl⟩
  · rw [hst] at ho
    rw [hfrom.window, hfrom.store, loaded_window, loaded_store, ho]
    exact ⟨rfl, rfl, rfl⟩
  · rw [hfrom.attempts, hfrom.store, loaded_attempts, hn, hst]
    rfl
  · rw [hfrom.profiles, loaded_profiles, hst]
  · rw [hfrom.regions, loaded_regions, hm]
  · rw [hfrom.regions, loaded_regions, hm]
  · rw [hfrom.regions, loaded_regions, hm]
    simp [pendingOf]
  · rw [hfrom.regions, hfrom.slots, loaded_regions, loaded_slots_at, ← hm]
    have hmask : (masksOf (loadRecords (s.restarted d)).cipher.slots)[k] =
        (loadRecords (s.restarted d)).cipher.slots[k].mask := Vector.getElem_map ..
    refine ⟨hmask.trans (by rw [loaded_slots_at, ← hm]; rfl), ?_⟩
    rw [StoredSlot.toSlot]
    cases m.slots[k].key <;> rfl
  · rw [hfrom.store, loaded_store, restarted_store]
    rfl
  · rw [hfrom.store, loaded_store, restarted_store]
    rfl
  · have hpass : (s.restarted d).store.checkFails = false := by
      rw [restarted_checkFails, ← hst, ← Bool.not_eq_true, checkFails_iff]
      rintro (h | h | h | ⟨p, h⟩)
      exacts [hmap h, ha h, hsw h, hp p h]
    rw [startUp_runs hpass]
    exact ⟨rfl, rfl, rfl⟩
  · have hfail : (s.restarted d).store.checkFails = true := by
      rw [restarted_checkFails, ← hst, checkFails_iff]
      exact h
    have hidle : (loadRecords (s.restarted d)).ctl.drive ≠ .fault := by
      simp [State.restarted, powerDown, State.blank]
    rw [startUp_fails hfail]
    exact startUpEnd_enterFault hidle (by simp [State.restarted, powerDown, State.blank]) _

end Sys2Proof.Proofs
end

section
/-! SUPPORT. The end of start-up: the masks, the initial drive state, the restored jobs (R107, R108, R152, R198 to
R200). -/

namespace Sys2Proof.Machine

open Sys2Proof

/-! ### Requests of the SWEEP commit that stand (R193) -/

theorem enqueue_has {r x : RecordId} {ws : List Waiter} {q : List QueueEntry}
    (h : (∃ e ∈ q, e.record = x) ∨ r = x) : ∃ e ∈ enqueue r ws q, e.record = x := by
  unfold enqueue
  by_cases hq : q.any (fun e => e.record == r) = true
  · rw [if_pos hq]
    have hmem : ∃ e ∈ q, e.record = x := by
      refine h.elim id (fun hr => ?_)
      obtain ⟨e, he, her⟩ := List.any_eq_true.mp hq
      exact ⟨e, he, (beq_iff_eq.mp her).trans hr⟩
    obtain ⟨e, he, hx⟩ := hmem
    refine ⟨_, List.mem_map_of_mem he, ?_⟩
    split_ifs <;> exact hx
  · rw [if_neg hq]
    rcases h with ⟨e, he, hx⟩ | hr
    · exact ⟨e, List.mem_append_left _ he, hx⟩
    · exact ⟨⟨r, ws⟩, by simp, hr⟩

/-- A queued SWEEP entry that starts is a SWEEP commit in progress. -/
theorem startNext_sweepAsked {s : State} (h : s.sweepAsked) : (startNext s).sweepAsked := by
  unfold startNext
  split
  · exact h
  · next hno =>
    split
    · exact h
    · next e rest hq =>
      have hbusy : s.store.busy = none := by
        simpa using fun hb : s.store.busy.isSome = true => hno (.inr hb)
      rcases h with ⟨c, r, hc, -⟩ | ⟨x, hx, hr⟩
      · rw [hbusy] at hc
        cases hc
      · rw [hq] at hx
        rcases List.mem_cons.mp hx with rfl | hx
        · exact .inl ⟨_, s.sweepRecord, rfl, by rw [hr]; rfl⟩
        · exact .inr ⟨x, hx, hr⟩

theorem requestCommit_sweepAsked {s : State} {r : RecordId} (h : s.sweepAsked ∨ r = .sweep) (ws : List Waiter) :
    (requestCommit r ws s).sweepAsked := by
  refine startNext_sweepAsked ?_
  rcases h with (hbusy | hq) | hr
  · exact .inl hbusy
  · exact .inr (enqueue_has (.inl hq))
  · exact .inr (enqueue_has (.inr hr))

/-! ### What the start of a job keeps (R87 to R90, R107, R108) -/

section Keeps

variable {P : State → Prop} (hreq : ∀ (r : RecordId) (ws : List Waiter) {s : State}, P s → P (requestCommit r ws s))
  (herase : ∀ (e : EraseEngine) {s : State}, P s → P { s with erase := e })
  (hkey : ∀ (k : SlotIx) {s : State}, P s → P (replaceKey k s))

include hreq herase hkey

theorem runHead_keeps (j : Job) {s : State} (h : P s) : P (runHead j s) := by
  unfold runHead
  split
  · exact h
  · split
    · exact hreq _ _ (herase _ (hkey _ h))
    · split
      · exact hreq _ _ (herase _ h)
      · exact h
    · exact h

omit hkey in
theorem dropHead_keeps (rest : List Job) {s : State} (h : P s) : P (dropHead rest s) := by
  unfold dropHead
  dsimp only
  split
  · exact hreq _ _ (herase _ h)
  · exact herase _ (hreq _ _ (herase _ h))

theorem runJobs_keeps (l : List Job) {s : State} (h : P s) : P (runJobs l s) := by
  induction l generalizing s with
  | nil => exact h
  | cons j rest ih =>
    unfold runJobs
    split
    · split
      · exact ih (dropHead_keeps hreq herase rest h)
      · exact runHead_keeps hreq herase hkey j h
    · exact h

theorem startHead_keeps {s : State} (h : P s) : P (startHead s) := by
  unfold startHead
  split
  · exact herase _ h
  · exact runJobs_keeps hreq herase hkey _ (herase _ h)

theorem restoreErase_keeps (r : SweepRecord) {s : State} (h : P s) : P (restoreErase r s) := by
  have hset : P (match r.sweep.filter (sweepRestored s) with
      | some y => { s with
          erase.queue := ⟨y.pos, .full⟩ :: r.jobs.filter (jobRestored s), erase.stage := .sweeping
          erase.sweep := some (resumedSweep y) }
      | none => { s with erase.queue := r.jobs.filter (jobRestored s) }) := by
    split <;> exact herase _ h
  unfold restoreErase
  dsimp only
  split
  · split
    · exact hreq _ _ hset
    · exact hset
  · refine startHead_keeps hreq herase hkey ?_
    split
    · exact hreq _ _ hset
    · exact hset

end Keeps

theorem replaceKey_masks (k : SlotIx) (s : State) :
    (replaceKey k s).cipher.slots.map KeySlot.mask = s.cipher.slots.map KeySlot.mask := by
  refine Vector.ext fun i hi => ?_
  simp only [replaceKey, Vector.getElem_map, Fin.getElem_fin, Vector.getElem_set]
  split_ifs with h
  · simp [← h]
  · rfl

theorem restoreErase_masks (r : SweepRecord) (s : State) :
    (restoreErase r s).cipher.slots.map KeySlot.mask = s.cipher.slots.map KeySlot.mask :=
  restoreErase_keeps (P := fun t => t.cipher.slots.map KeySlot.mask = s.cipher.slots.map KeySlot.mask)
    (fun _ _ _ h => by simpa using h) (fun _ _ h => h) (fun k _ h => (replaceKey_masks k _).trans h) r rfl

/-- A commit in progress runs on. -/
theorem requestCommit_busy {s : State} {c : Commit} (h : s.store.busy = some c) (r : RecordId) (ws : List Waiter) :
    (requestCommit r ws s).store.busy = some c := by
  rw [requestCommit_waits (.inl (by simp [h]))]
  exact h

theorem restoreErase_busy {s : State} {c : Commit} (h : s.store.busy = some c) (r : SweepRecord) :
    (restoreErase r s).store.busy = some c :=
  restoreErase_keeps (P := fun t => t.store.busy = some c) (fun _ _ _ h => requestCommit_busy h _ _)
    (fun _ _ h => h) (fun k _ h => by simpa using h) r h

theorem startHead_sweepAsked {s : State} (h : s.sweepAsked) : (startHead s).sweepAsked :=
  startHead_keeps (P := State.sweepAsked) (fun _ _ _ h => requestCommit_sweepAsked (.inl h) _) (fun _ _ h => h)
    (fun k s h => by simpa [State.sweepAsked] using h) h

/-! ### The masks of EMPTY profile slots (R198) -/

theorem maskClear_self (m : Byte) (p : Fin 8) : (maskClear m p).getLsbD p.val = false := by
  have hbit : (maskOf p).getLsbD p.val = true := by
    rw [maskOf, BitVec.getLsbD_ofNat, Nat.testBit_two_pow_self, Bool.and_true]
    exact decide_eq_true p.isLt
  rw [maskClear, BitVec.getLsbD_and, BitVec.getLsbD_not, hbit]
  simp

/-- The bits after the clearing for some of the profile slots. -/
theorem foldl_maskClear_getLsbD (profiles : Vector (Option Profile) 8) (l : List (Fin 8)) (m : Byte) (r : Fin 8) :
    (l.foldl (fun m p => if profiles[p].isNone then maskClear m p else m) m).getLsbD r.val =
      (m.getLsbD r.val && !(decide (r ∈ l) && profiles[r].isNone)) := by
  induction l generalizing m with
  | nil => simp
  | cons p l ih =>
    rw [List.foldl_cons, ih]
    by_cases hrp : r = p
    · subst hrp
      cases hn : profiles[r].isNone with
      | true => rw [if_pos rfl, maskClear_self, Bool.false_and, Bool.and_true]; simp
      | false => rw [if_neg Bool.false_ne_true, Bool.and_false, Bool.and_false]
    · have hkeep : (if profiles[p].isNone then maskClear m p else m).getLsbD r.val = m.getLsbD r.val := by
        split_ifs
        · exact maskClear_getLsbD (Ne.symm hrp)
        · rfl
      have hmem : decide (r ∈ p :: l) = decide (r ∈ l) := decide_eq_decide.mpr (by simp [hrp])
      rw [hkeep, hmem]

theorem maskActive_getLsbD (profiles : Vector (Option Profile) 8) (m : Byte) (r : ProfIx) :
    (maskActive profiles m).getLsbD r.val = (m.getLsbD r.val && profiles[r].isSome) := by
  rw [maskActive, foldl_maskClear_getLsbD]
  cases profiles[r] <;> simp

theorem clearEmptyMasks_slots (s : State) (k : SlotIx) : (clearEmptyMasks s).cipher.slots[k] =
    { s.cipher.slots[k] with mask := maskActive s.cred.profiles s.cipher.slots[k].mask } := by
  unfold clearEmptyMasks
  dsimp only
  split <;> simp

theorem clearEmptyMasks_regions (s : State) : (clearEmptyMasks s).regions =
    { s.regions with masks := s.regions.masks.map (maskActive s.cred.profiles) } := by
  unfold clearEmptyMasks
  dsimp only
  split <;> simp

/-- A MAP commit requested of an idle store starts with the record as it stands (R193). -/
theorem requestCommit_map_starts {s : State} (hb : s.store.busy = none) (hq : s.store.queue = [])
    (hd : s.ctl.drive ≠ .fault) (ws : List Waiter) :
    ∃ b, (requestCommit .map ws s).store.busy = some b ∧ b.content = .map (requestCommit .map ws s).mapRecord := by
  have hrecord : (requestCommit .map ws s).mapRecord = s.mapRecord := by simp [State.mapRecord]
  refine ⟨⟨.map s.mapRecord, ws, s.erase.additions⟩, ?_, by rw [hrecord]⟩
  rw [requestCommit_idle _ _ hb hq hd]
  rfl

/-- A stored mask that names an EMPTY profile changes, and MAP is requested (R198). -/
theorem clearEmptyMasks_busy {s : State} {k : SlotIx} {r : ProfIx}
    (hbit : (s.cipher.slots[k].mask).getLsbD r.val = true)
    (hr : s.cred.profiles[r] = none) (hb : s.store.busy = none) (hq : s.store.queue = [])
    (hd : s.ctl.drive ≠ .fault) :
    ∃ b, (clearEmptyMasks s).store.busy = some b ∧ b.content = .map (clearEmptyMasks s).mapRecord := by
  have hchange : s.cipher.slots.map (fun k => { k with mask := maskActive s.cred.profiles k.mask }) ≠
      s.cipher.slots := by
    intro heq
    have hmask := congrArg (fun v : Vector KeySlot 8 => (v[k].mask).getLsbD r.val) heq
    have hbits : (maskActive s.cred.profiles s.cipher.slots[k].mask).getLsbD r.val =
        (s.cipher.slots[k].mask).getLsbD r.val := by
      simpa only [Fin.getElem_fin, Vector.getElem_map] using hmask
    rw [maskActive_getLsbD, hr, hbit] at hbits
    exact absurd hbits (by simp)
  have hclear : clearEmptyMasks s = requestCommit .map [] { s with
      cipher.slots := s.cipher.slots.map (fun k => { k with mask := maskActive s.cred.profiles k.mask })
      regions.masks := s.regions.masks.map (maskActive s.cred.profiles) } := if_neg hchange
  rw [hclear]
  refine requestCommit_map_starts ?_ ?_ ?_ []
  exacts [hb, hq, hd]

/-! ### The initial drive state (R152) -/

/-- Start-up once the initial drive state is chosen. -/
def State.chosen (s : State) : State :=
  if (clearEmptyMasks s).ctl.wipeFlag then startWipe (clearEmptyMasks s) else chooseState (clearEmptyMasks s)

theorem startUpRest_eq (s : State) : startUpRest s = startUpEnd (if s.chosen.ctl.drive = .wiping then s.chosen
    else restoreErase ((s.store.sweep.load sweepLaw).getD .delivered) s.chosen) := rfl

theorem startWipe_wiping {s : State} (h : ¬(s.ctl.drive = .fault ∨ s.ctl.drive = .wiping)) :
    (startWipe s).ctl.drive = .wiping ∧ (startWipe s).keypad.selection = .wiping := by
  refine ⟨congrArg Auth.drive (startWipe_auth h), ?_⟩
  have hend (t : State) : (endCollection t).keypad.selection = t.keypad.selection := rfl
  rw [startWipe, if_neg h]
  simp only [requestCommit_frame, hend, cancelEnrollAtWipe_frame, clearRegionCounts_frame, abortTest_frame,
    wipeTable_frame, clearErase_frame, rebaseAdditions_frame, releaseIdleHolds_frame]
  exact setDrive_selection rfl

/-- The choice, where no wipe starts. -/
theorem chooseState_eq {s : State} {d : DriveState} {o : Timer}
    (h : d = .factory ∧ s.cred.profiles[(0 : ProfIx)] = none ∧ o = s.cred.backoff ∨
      s.cred.profiles[(0 : ProfIx)] ≠ none ∧
        (s.store.effective.threshold = 0 ∨ s.cred.n < s.store.effective.threshold) ∧
        (d = .locked ∧ s.cred.n < s.store.effective.free ∧ o = s.cred.backoff ∨
         d = .backoff ∧ s.store.effective.free ≤ s.cred.n ∧
          o = some (2000 * 2 ^ min (s.cred.n - s.store.effective.free) 10))) :
    chooseState s = setDrive d { s with cred.backoff := o } := by
  unfold chooseState
  rcases h with ⟨rfl, hp, rfl⟩ | ⟨hp, ht, h⟩
  · exact if_pos (Option.isNone_iff_eq_none.mpr hp)
  · have hsome : ¬(s.cred.profiles[(0 : ProfIx)].isNone = true) := fun hn => hp (Option.isNone_iff_eq_none.mp hn)
    have hwipe : ¬(s.store.effective.threshold ≠ 0 ∧ s.store.effective.threshold ≤ s.cred.n) :=
      fun hw => ht.elim hw.1 (fun hlt => absurd hw.2 (Nat.not_le.mpr hlt))
    refine (if_neg hsome).trans ((if_neg hwipe).trans ?_)
    rcases h with ⟨rfl, hf, rfl⟩ | ⟨rfl, hf, rfl⟩
    · exact if_neg (Nat.not_le.mpr hf)
    · refine (if_pos hf).trans ?_
      have hdelay : 1000 * backoffSeconds s.store.effective.free s.cred.n =
          2000 * 2 ^ min (s.cred.n - s.store.effective.free) 10 := by
        rw [backoffSeconds, if_neg (Nat.not_lt.mpr hf), ← Nat.mul_assoc]
      rw [enterBackoff, hdelay]

theorem chooseState_wipes {s : State} (hp : s.cred.profiles[(0 : ProfIx)] ≠ none)
    (h0 : s.store.effective.threshold ≠ 0) (ht : s.store.effective.threshold ≤ s.cred.n) :
    chooseState s = startWipe s :=
  (if_neg (fun hn => hp (Option.isNone_iff_eq_none.mp hn))).trans (if_pos ⟨h0, ht⟩)

/-- The chosen state: WIPING, or a drive state set with its back-off timer. -/
theorem chosen_cases {s : State} (h : s.ctl.drive = .starting) :
    (s.chosen.ctl.drive = .wiping ∧ s.chosen.keypad.selection = .wiping) ∨
    ∃ d o p, s.chosen = setDrive d { clearEmptyMasks s with cred.backoff := o } ∧ backgroundFor d s.ctl.attached = some
        p ∧
      d ≠ .wiping ∧ d ≠ .fault := by
  have hidle : ¬((clearEmptyMasks s).ctl.drive = .fault ∨ (clearEmptyMasks s).ctl.drive = .wiping) := by simp [h]
  unfold State.chosen
  split
  · exact .inl (startWipe_wiping hidle)
  · generalize hb : clearEmptyMasks s = b at *
    by_cases hp : b.cred.profiles[(0 : ProfIx)] = none
    · exact .inr ⟨.factory, _, _, chooseState_eq (.inl ⟨rfl, hp, rfl⟩), rfl, by simp, by simp⟩
    · by_cases ht : b.store.effective.threshold ≠ 0 ∧ b.store.effective.threshold ≤ b.cred.n
      · rw [chooseState_wipes hp ht.1 ht.2]
        exact .inl (startWipe_wiping hidle)
      · have hno : b.store.effective.threshold = 0 ∨ b.cred.n < b.store.effective.threshold := by omega
        rcases Nat.lt_or_ge b.cred.n b.store.effective.free with hf | hf
        · exact .inr ⟨.locked, _, _, chooseState_eq (.inr ⟨hp, hno, .inl ⟨rfl, hf, rfl⟩⟩), rfl, by simp, by simp⟩
        · exact .inr ⟨.backoff, _, _, chooseState_eq (.inr ⟨hp, hno, .inr ⟨rfl, hf, rfl⟩⟩), rfl, by simp, by simp⟩

theorem chosen_wipes {s : State} (h : s.ctl.drive = .starting) (hw : s.ctl.wipeFlag = true) :
    s.chosen.ctl.drive = .wiping := by
  have hidle : ¬((clearEmptyMasks s).ctl.drive = .fault ∨ (clearEmptyMasks s).ctl.drive = .wiping) := by simp [h]
  rw [State.chosen, if_pos (by simpa using hw)]
  exact (startWipe_wiping hidle).1

theorem chosen_chooses {s : State} (hw : s.ctl.wipeFlag = false) : s.chosen = chooseState (clearEmptyMasks s) :=
  if_neg (by simp [hw])

/-! ### The restored jobs (R107, R108) -/

theorem jobRestored_eq (s : State) (j : Job) : jobRestored s j = s.keepsJob j := by
  unfold jobRestored State.keepsJob State.entryAt
  cases s.regions.table[j.pos.val]? with
  | none => rfl
  | some e =>
    obtain ⟨base, length, cls, writable, slot⟩ := e
    have hcls : (RegionClass.priv == RegionClass.pub) = false := rfl
    cases cls <;> cases slot <;> simp [Config.maxGen, hcls, beq_eq_decide]

theorem keepsJob_congr {s t : State} (ht : t.regions.table = s.regions.table)
    (hg : ∀ k : SlotIx, t.cipher.slots[k].gen = s.cipher.slots[k].gen) : t.keepsJob = s.keepsJob := by
  funext j
  simp only [State.keepsJob, ht, hg]

/-- A sweep that start-up resumes (R107). -/
theorem sweepRestored_true {s : State} {y : StoredSweep} {e : Entry} (he : s.regions.table[y.pos.val]? = some e)
    (h : e.cls = .pub ∨ ∃ k : SlotIx, e.cls = .priv ∧ e.slot = some k ∧ s.cipher.slots[k].key ≠ none ∧
      y.gen = some s.cipher.slots[k].gen) : sweepRestored s y = true := by
  unfold sweepRestored State.entryAt
  rw [he]
  rcases h with h | ⟨k, hc, hk, hkey, hg⟩
  · simp [h]
  · simp only [hc, hk]
    rw [Option.isSome_iff_ne_none.mpr hkey, hg]
    simp

/-- A sweep that start-up drops (R107). -/
theorem sweepRestored_false {s : State} {y : StoredSweep} (h : ∀ e, s.regions.table[y.pos.val]? = some e →
    e.cls = .priv ∧ ∀ k : SlotIx, e.slot = some k → s.cipher.slots[k].key = none ∨ y.gen ≠ some s.cipher.slots[k].gen) :
    sweepRestored s y = false := by
  unfold sweepRestored State.entryAt
  cases he : s.regions.table[y.pos.val]? with
  | none => rfl
  | some e =>
    obtain ⟨hc, hslot⟩ := h e he
    cases hk : e.slot with
    | none => simp only [hc, hk]
    | some k =>
      simp only [hc, hk]
      rcases hslot k hk with hn | hg
      · rw [hn]
        rfl
      · rw [beq_eq_false_iff_ne.mpr (Ne.symm hg), Bool.and_false]

theorem restoreErase_resumed {s : State} {w : SweepRecord} {y : StoredSweep} (hy : w.sweep = some y)
    (h : sweepRestored s y = true) :
    (restoreErase w s).erase = { s.erase with
      queue := ⟨y.pos, .full⟩ :: w.jobs.filter (jobRestored s), stage := .sweeping, sweep := some (resumedSweep y) } ∧
    (restoreErase w s).cipher = s.cipher := by
  have hres : w.sweep.filter (sweepRestored s) = some y := by simp [hy, h]
  unfold restoreErase
  simp only [hres, Option.isSome_some, ↓reduceIte]
  split <;> simp

/-- Start-up with no sweep resumed: the first job kept starts, behind the request for what was dropped. -/
theorem restoreErase_starts {s : State} {w : SweepRecord} (h : ∀ y, w.sweep = some y → sweepRestored s y = false) :
    ∃ t : State, restoreErase w s = startHead t ∧
      t.erase = { s.erase with queue := w.jobs.filter (jobRestored s) } ∧ t.cipher = s.cipher ∧
      t.counters = s.counters ∧ t.regions = s.regions ∧ t.filter = s.filter ∧ t.ctl = s.ctl ∧
      ((w.jobs.filter (jobRestored s)).length ≠ w.jobs.length ∨ w.sweep ≠ none → t.sweepAsked) := by
  have hres : w.sweep.filter (sweepRestored s) = none := by
    cases hw : w.sweep with
    | none => rfl
    | some y => simp [h y hw]
  unfold restoreErase
  simp only [hres, Option.isSome_none, Bool.false_eq_true, ↓reduceIte]
  split
  · exact ⟨_, rfl, by simp, by simp, by simp, by simp, by simp, by simp, fun _ => requestCommit_sweepAsked (.inr rfl) _⟩
  · next hno =>
    exact ⟨_, rfl, rfl, rfl, rfl, rfl, rfl, rfl,
      fun hdrop => absurd (hdrop.imp_right (fun hs => Ne.symm hs)) hno⟩

theorem restoreErase_resumed_sweepAsked {s : State} {w : SweepRecord} {y : StoredSweep} (hy : w.sweep = some y)
    (h : sweepRestored s y = true) (hjobs : (w.jobs.filter (jobRestored s)).length ≠ w.jobs.length) :
    (restoreErase w s).sweepAsked := by
  have hres : w.sweep.filter (sweepRestored s) = some y := by simp [hy, h]
  unfold restoreErase
  simp only [hres, Option.isSome_some, ↓reduceIte, hjobs, ne_eq, not_false_eq_true, true_or]
  exact requestCommit_sweepAsked (.inr rfl) _

/-! ### The start of the head job (R87, R88) -/

theorem startHead_empty {s : State} (h : s.erase.queue = []) : startHead s = { s with erase.stage := .idle } :=
  if_pos (by simp [h])

/-- A head job whose region's count is 0 acts at once. -/
theorem startHead_runs {s : State} {j : Job} {rest : List Job} (hq : s.erase.queue = j :: rest)
    (hc : s.filter.inFlight[j.pos] = 0) (hd : s.ctl.drive ≠ .fault) (he : endsAtOnce s j = false) :
    startHead s = runHead j { s with erase.stage := .waitCount } := by
  have hrun : runJobs s.erase.queue { s with erase.stage := .waitCount } =
      runHead j { s with erase.stage := .waitCount } := by
    rw [hq]
    refine (if_pos ⟨rfl, hc, hd⟩).trans (if_neg ?_)
    rw [show endsAtOnce { s with erase.stage := .waitCount } j = endsAtOnce s j from rfl, he]
    exact Bool.false_ne_true
  rw [startHead, if_neg (by simp [hq])]
  exact hrun

theorem startHead_priv {s : State} {j : Job} {rest : List Job} {e : Entry} {k : SlotIx}
    (hq : s.erase.queue = j :: rest) (hc : s.filter.inFlight[j.pos] = 0) (hd : s.ctl.drive ≠ .fault)
    (he : s.regions.table[j.pos.val]? = some e) (hcls : e.cls = .priv) (hk : e.slot = some k) :
    startHead s = requestCommit .map [.eraseMap] { replaceKey k s with erase.stage := .waitMap } := by
  have hent : s.entryAt j.pos = some e := he
  have hends : endsAtOnce s j = false := by simp [endsAtOnce, hent, hcls]
  rw [startHead_runs hq hc hd hends]
  have hent' : ({ s with erase.stage := .waitCount } : State).entryAt j.pos = some e := he
  simp only [runHead, hent', hcls, hk]
  rfl

theorem startHead_pub {s : State} {j : Job} {rest : List Job} {e : Entry}
    (hq : s.erase.queue = j :: rest) (hc : s.filter.inFlight[j.pos] = 0) (hd : s.ctl.drive ≠ .fault)
    (he : s.regions.table[j.pos.val]? = some e) (hcls : e.cls = .pub) (hm : j.mode = .full) :
    startHead s = requestCommit .sweep [.eraseSweep] { s with
      erase.stage := .waitSweep
      erase.sweep := some ⟨j.pos, none, e.base, e.base, e.base, none, [], 0, .running, .none⟩ } := by
  have hends : endsAtOnce s j = false := by simp [endsAtOnce, hm]
  rw [startHead_runs hq hc hd hends]
  have hent : ({ s with erase.stage := .waitCount } : State).entryAt j.pos = some e := he
  simp [runHead, hent, hcls, hm, setUpSweep, State.instanceOf]

theorem replaceKey_at {s : State} {k : SlotIx} : (replaceKey k s).cipher.slots[k] =
    { s.cipher.slots[k] with key := some s.counters.keys, gen := nextGen s.cipher.slots[k].gen } := by
  simp [replaceKey]

theorem nextGen_of_lt {g : Nat} (h : g < 4294967295) : nextGen g = g + 1 := Nat.min_eq_left h

/-! The frame rules of the two last steps of start-up, one field each. -/

theorem startUpEnd_cipher (s : State) : (startUpEnd s).cipher = s.cipher := rfl

theorem startUpEnd_regions (s : State) : (startUpEnd s).regions = s.regions := rfl

theorem startUpEnd_store (s : State) : (startUpEnd s).store = s.store := rfl

theorem startUpEnd_erase (s : State) : (startUpEnd s).erase = s.erase := rfl

theorem restoreErase_regions (r : SweepRecord) (s : State) : (restoreErase r s).regions = s.regions := by simp

end Sys2Proof.Machine

namespace Sys2Proof.Proofs

open Sys2Proof Sys2Proof.Machine

/-- Settles O43: the choice of the drive state, and then the SWEEP record. -/
theorem startUpChoosesState : Obligations.StartUpChoosesState := by
  have hexec {s : State} {left : Nat} (h : s.cipher.run = some ⟨.startUp, left⟩) :
      exec (.cipherTestEnd 0) s = .next (startUpRest { s with cipher.run := none }) := by
    rw [exec_cipherTestEnd h]
    exact congrArg _ (standbyCheck_of_idle (by rw [cipherEnd, if_pos rfl, startUpRest_eq, startUpEnd]; simp
        [startPlayer]))
  refine ⟨fun s left hrun hd => ?_, fun s left hrun hd => ?_⟩
  · refine ⟨_, hexec hrun, ?_⟩
    generalize hb : ({ s with cipher.run := none } : State) = b
    have hbd : b.ctl.drive = .starting := by rw [← hb, hd]
    have hctl : (startUpRest b).ctl = b.chosen.ctl := by
      rw [startUpRest_eq]
      split <;> simp
    have hcred : (startUpRest b).cred = b.chosen.cred := by
      rw [startUpRest_eq]
      split <;> simp
    have hsel : (startUpRest b).keypad.player = some (Player.start b.chosen.keypad.selection) := by
      rw [startUpRest_eq]
      split <;> simp [startUpEnd, startPlayer]
    have hclear : (clearEmptyMasks b).ctl = s.ctl ∧ (clearEmptyMasks b).cred = s.cred ∧
        (clearEmptyMasks b).store.effective = s.store.effective := by
      rw [← hb]
      simp
    obtain ⟨hcctl, hccred, hceff⟩ := hclear
    rw [hctl, hcred, hsel]
    refine ⟨by simp [← hb], ⟨b.chosen.keypad.selection, rfl, ?_⟩, by rw [startUpRest_eq, startUpEnd]; rfl,
      ?_, ?_, by simp [← hb], fun hw => chosen_wipes hbd (by rw [← hb, hw]), fun hw => ?_⟩
    · rcases chosen_cases hbd with ⟨hdw, hsw⟩ | ⟨d, o, p, hc, hp, -, -⟩
      · rw [hdw, hsw]
        rfl
      · rw [hc, setDrive_ctl, setDrive_selection (p := p) (by simpa using hp)]
        simpa using hp
    · rw [← hcred]
      simp [← hb]
    · rw [← hcred]
      simp [← hb]
    · rw [chosen_chooses (by rw [← hb, hw])]
      rw [← hccred, ← hceff]
      refine ⟨fun hp => ?_, fun hp => ⟨fun h0 ht => ?_, fun ht => ⟨fun hf => ?_, fun hf => ?_⟩⟩⟩
      · rw [chooseState_eq (.inl ⟨rfl, hp, rfl⟩), setDrive_ctl]
      · rw [chooseState_wipes hp h0 ht]
        exact (startWipe_wiping (by simp [hbd])).1
      · rw [chooseState_eq (.inr ⟨hp, ht, .inl ⟨rfl, hf, rfl⟩⟩), setDrive_ctl]
        exact ⟨rfl, by simp⟩
      · rw [chooseState_eq (.inr ⟨hp, ht, .inr ⟨rfl, hf, rfl⟩⟩), setDrive_ctl]
        exact ⟨rfl, by simp⟩
  · refine ⟨_, hexec hrun, ?_⟩
    generalize hb : ({ s with cipher.run := none } : State) = b
    have hbd : b.ctl.drive = .starting := by rw [← hb, hd]
    rcases chosen_cases hbd with ⟨hdw, -⟩ | ⟨d, o, p, hc, -, hnw, hnf⟩
    · have hwiping : (startUpRest b).ctl.drive = .wiping := by
        rw [startUpRest_eq, if_pos hdw]
        simpa using hdw
      exact ⟨fun hne => absurd hwiping hne, fun w kept hne => absurd hwiping hne⟩
    · have hrest : startUpRest b =
          startUpEnd (restoreErase ((s.store.sweep.load sweepLaw).getD .delivered) b.chosen) := by
        rw [startUpRest_eq, if_neg (by rw [hc, setDrive_ctl]; exact hnw), ← hb]
      have hslots (k : SlotIx) : b.chosen.cipher.slots[k] =
          { s.cipher.slots[k] with mask := maskActive s.cred.profiles s.cipher.slots[k].mask } := by
        rw [show b.chosen.cipher = (clearEmptyMasks b).cipher by rw [hc]; simp, clearEmptyMasks_slots, ← hb]
      have hregions : b.chosen.regions =
          { s.regions with masks := s.regions.masks.map (maskActive s.cred.profiles) } := by
        rw [show b.chosen.regions = (clearEmptyMasks b).regions by rw [hc]; simp, clearEmptyMasks_regions, ← hb]
      have hstore : b.chosen.store = (clearEmptyMasks b).store := by rw [hc]; simp
      have herase : b.chosen.erase = s.erase := by rw [hc, ← hb]; simp
      have hdrive : b.chosen.ctl.drive ≠ .fault := by rw [hc, setDrive_ctl]; exact hnf
      have hfilter : b.chosen.filter = s.filter := by rw [hc, ← hb]; simp
      have hcounters : b.chosen.counters = s.counters := by rw [hc, ← hb]; simp
      rw [hrest]
      generalize b.chosen = c at *
      refine ⟨fun _ => ⟨fun k r => ⟨?_, ?_⟩, ?_, fun hex hbusy hqueue => ?_⟩, fun w kept _ hw he hkept => ?_⟩
      · have hmask := congrArg (fun v : Vector Byte 8 => v[k])
          (restoreErase_masks ((s.store.sweep.load sweepLaw).getD .delivered) c)
        simp only [Fin.getElem_fin, Vector.getElem_map] at hmask
        rw [startUpEnd_cipher, Fin.getElem_fin, hmask, ← Fin.getElem_fin, hslots, maskActive_getLsbD]
      · rw [startUpEnd_regions, restoreErase_regions, hregions]
        exact (congrArg (fun m : Byte => m.getLsbD r.val) (Vector.getElem_map ..)).trans (maskActive_getLsbD ..)
      · rw [startUpEnd_regions, restoreErase_regions, hregions]
      · obtain ⟨k, r, hbit, hr⟩ := hex
        obtain ⟨x, hx, hcontent⟩ := clearEmptyMasks_busy (s := b) (k := k) (r := r) (by rw [← hb]; exact hbit)
          (by rw [← hb]; exact hr) (by rw [← hb]; exact hbusy) (by rw [← hb]; exact hqueue) (by rw [hbd]; simp)
        refine ⟨x, _, ?_, hcontent, by rw [State.mapRecord, clearEmptyMasks_regions, ← hb],
          by rw [State.mapRecord, clearEmptyMasks_regions, ← hb], by simp [State.mapRecord, ← hb], fun k r => ?_⟩
        · rw [startUpEnd_store]
          exact restoreErase_busy (hstore ▸ hx) _
        · have hslot : (clearEmptyMasks b).mapRecord.slots[k] = ⟨s.cipher.slots[k].key, s.cipher.slots[k].gen,
              maskActive s.cred.profiles s.cipher.slots[k].mask⟩ := by
            refine (Vector.getElem_map ..).trans ?_
            rw [← Fin.getElem_fin, clearEmptyMasks_slots, ← hb]
          rw [hslot]
          exact ⟨rfl, rfl, maskActive_getLsbD ..⟩
      · have hgens (k : SlotIx) : c.cipher.slots[k].gen = s.cipher.slots[k].gen := by rw [hslots]
        have hkeys (k : SlotIx) : c.cipher.slots[k].key = s.cipher.slots[k].key := by rw [hslots]
        have htable : c.regions.table = s.regions.table := by rw [hregions]
        have hjobs : w.jobs.filter (jobRestored c) = kept := by
          rw [hkept, ← keepsJob_congr htable hgens]
          exact congrArg (fun f => w.jobs.filter f) (funext (jobRestored_eq c))
        have hasked {t : State} (h : t.sweepAsked) : (startUpEnd t).sweepAsked := h
        rw [hw, Option.getD_some, startUpEnd_erase, startUpEnd_cipher]
        refine ⟨fun y e hy hent hkey => ?_, fun hno => ?_, fun hne => hasked ?_⟩
        · have hres : sweepRestored c y = true := by
            refine sweepRestored_true (htable ▸ hent) ?_
            simpa only [hgens, hkeys] using hkey
          obtain ⟨hend, hcipher⟩ := restoreErase_resumed hy hres
          rw [hend, hcipher, herase, he, hjobs]
          refine ⟨rfl, Vector.ext fun i hi => ?_⟩
          rw [Vector.getElem_map, Vector.getElem_map]
          exact hgens ⟨i, hi⟩
        · have hdrops : ∀ y, w.sweep = some y → sweepRestored c y = false := by
            intro y hy
            refine sweepRestored_false (fun e hent => ?_)
            simpa only [hgens, hkeys] using hno y e hy (htable ▸ hent)
          obtain ⟨t, hrestore, hte, htc, htn, htr, htf, hctl, hdropped⟩ := restoreErase_starts hdrops
          rw [hjobs, herase, he] at hte
          have hqueue : t.erase.queue = kept := by rw [hte]
          have hcount (p : Pos) : t.filter.inFlight[p] = s.filter.inFlight[p] := by rw [htf, hfilter]
          have hdr : t.ctl.drive ≠ .fault := by rw [hctl]; exact hdrive
          have hent (p : Pos) : t.regions.table[p.val]? = s.regions.table[p.val]? := by rw [htr, htable]
          rw [hrestore]
          refine ⟨fun hk => ?_, fun j rest e k hk hin hpos hcls hslot hgen => ?_,
            fun j rest e hk hin hpos hcls hmode => ?_,
            fun hsome => hasked (startHead_sweepAsked (hdropped (.inr hsome)))⟩
          · rw [startHead_empty (hqueue.trans hk), hte, hk]
          · rw [startHead_priv (hqueue.trans hk) ((hcount _).trans hin) hdr ((hent _).trans hpos) hcls hslot]
            simp only [requestCommit_frame]
            refine ⟨by simp [hte], ?_⟩
            rw [replaceKey_at, htc, htn, hcounters, hgens, nextGen_of_lt hgen]
            exact ⟨rfl, rfl⟩
          · rw [startHead_pub (hqueue.trans hk) ((hcount _).trans hin) hdr ((hent _).trans hpos) hcls hmode]
            simp [hte]
        · have hlength : (w.jobs.filter (jobRestored c)).length ≠ w.jobs.length :=
            fun heq => hne (hjobs ▸ List.filter_sublist.eq_of_length heq)
          by_cases hex : ∃ y, w.sweep = some y ∧ sweepRestored c y = true
          · obtain ⟨y, hy, hres⟩ := hex
            exact restoreErase_resumed_sweepAsked hy hres hlength
          · obtain ⟨t, hrestore, -, -, -, -, -, -, hdropped⟩ := restoreErase_starts (s := c) (w := w)
              (fun y hy => Bool.not_eq_true _ ▸ fun hres => hex ⟨y, hy, hres⟩)
            rw [hrestore]
            exact startHead_sweepAsked (hdropped (.inl hlength))

end Sys2Proof.Proofs
end

section
/-! SUPPORT. The swap of the tables and the head job of the erase engine (R34, R72, R86 to R89); the completion of a
verified commit (R192, R194). -/

namespace Sys2Proof.Machine

open Sys2Proof

/-! ### The swap (R34, R72) -/

theorem drainCheck_swaps {s : State} {n : Snapshot} (ht : s.filter.total = 0) (hq : s.filter.quiesce = .apply)
    (hn : s.regions.snapshot = some n) (hs : n.swapped = false) : drainCheck s = swapTables n s := by
  simp [drainCheck, ht, hq, hn, hs]

theorem swapTables_slots (n : Snapshot) (s : State) (k : SlotIx) : (swapTables n s).cipher.slots[k] =
    swapSlot s.ctl.openProfile (tableNames s.regions.table k) (positionsName n.entries k) n.masks[k] n.copies[k]
      (s.counters.keys + k.val) s.cipher.slots[k] := by
  simp [swapTables]

theorem swapTables_map_starts {s : State} (hb : s.store.busy = none) (hq : s.store.queue = [])
    (hd : s.ctl.drive ≠ .fault) (n : Snapshot) :
    ∃ b, (swapTables n s).store.busy = some b ∧ b.content = .map (swapTables n s).mapRecord := by
  unfold swapTables
  refine requestCommit_map_starts ?_ ?_ ?_ _
  exacts [hb, hq, hd]

/-- The copy of a key stands for the key itself, where there is one (R32). -/
theorem snapshot_copy_or_key (s : State) (k : SlotIx) :
    ((takeSnapshot s).copies[k] <|> s.cipher.slots[k].key) = s.cipher.slots[k].key := by
  rw [takeSnapshot_eq]
  simp only [Fin.getElem_fin, Vector.getElem_ofFn]
  split_ifs
  · cases s.cipher.slots[k.val].key <;> rfl
  · rfl

theorem slotStateFor_admin (m : Byte) : slotStateFor (some 0) m = if m.getLsbD 0 then .opened else .closed := rfl

/-! ### The head job (R86 to R89) -/

/-- A head job whose region has fragments in flight waits (R87). -/
theorem startHead_waits {s : State} {j : Job} {rest : List Job} (hq : s.erase.queue = j :: rest)
    (hc : s.filter.inFlight[j.pos] ≠ 0) : startHead s = { s with erase.stage := .waitCount } := by
  have hrun : runJobs s.erase.queue { s with erase.stage := .waitCount } = { s with erase.stage := .waitCount } := by
    rw [hq]
    exact if_neg (fun h => hc h.2.1)
  rw [startHead, if_neg (by simp [hq])]
  exact hrun

theorem headLeaves_last {s : State} (h : s.erase.queue.tail = []) : headLeaves s =
    requestCommit .sweep [] { s with erase.queue := [], erase.stage := .idle, erase.sweep := none } := by
  have hdrop : dropHead [] s =
      requestCommit .sweep [] { s with erase.queue := [], erase.stage := .idle, erase.sweep := none } := rfl
  rw [headLeaves, h, hdrop, headCheck]
  simp [runJobs]

/-- The job that an accepted ERASE_REGION on an idle engine starts (R86, R87). -/
theorem takeEraseRegion_starts {s : State} {position mode : Byte} {p : Pos} {e : Entry} {m : EraseMode}
    (ha : s.adminOpen = true) (hp : position.toNat = p.val) (he : s.regions.table[p.val]? = some e)
    (hm : mode = 1 ∧ m = .quick ∧ e.cls = .priv ∨ mode = 2 ∧ m = .full) (hs : sharesKey s p e = false)
    (hq : s.erase.queue = []) (hi : s.regions.apply = .idle) (hg : atHighestGen s e = false) :
    takeEraseRegion position mode s =
      (.accepted, [], startHead (requestCommit .sweep [] { s with erase.queue := [⟨p, m⟩] })) := by
  rw [takeEraseRegion_accept ha hp he hm, acceptErase_accepted hs (by simp [hq]) (by simp [hq]) hi hg,
    if_pos (by simp [hq]), hq]
  rfl

/-- The replacement of the head's key, in terms of what the slots, the engine and the counters were. -/
theorem replaceKey_waitMap {x : State} {c : CipherUnit} {e : EraseEngine} {n : Counters} (hc : x.cipher = c)
    (he : x.erase = e) (hn : x.counters = n) (k : SlotIx) :
    ({ replaceKey k x with erase.stage := .waitMap } : State) = { x with
      erase := { e with stage := .waitMap }
      cipher.slots := c.slots.set k { c.slots[k] with key := some n.keys, gen := nextGen c.slots[k].gen }
      counters.keys := n.keys + 1 } := by
  subst hc he hn
  rfl

/-! ### A verified commit (R192, R194) -/

section Commit

variable {s : State} {c : Commit} (hb : s.store.busy = some c)

theorem exec_commitVerified (hs : s.staysAwake) (hb : s.store.busy = some c) :
    exec (.commitCompletion true) s = .next (commitVerified c s) := by
  rw [← standbyCheck_of_power (t := commitVerified c s) hs (by simp)]
  simp [exec, execCommitCompletion, hb]

/-- The requesters are told, and the next commit starts. -/
theorem commitVerified_tells (hd : s.ctl.drive ≠ .fault) : commitVerified c s =
    startNext { tellRequesters c { s with store := s.store.write c.content } with store.busy := none } := if_neg hd

theorem startNext_empty {t : State} (h : t.store.queue = []) : startNext t = t := by
  unfold startNext
  split
  · rfl
  · rw [h]

/-- A commit that a requester asks for as it is told starts once the completed one has left. -/
theorem startNext_requested {t : State} (h : t.store.busy ≠ none) (r : RecordId) (ws : List Waiter) :
    startNext { requestCommit r ws t with store.busy := none } = requestCommit r ws { t with store.busy := none } := by
  rw [requestCommit_waits (.inl h)]
  rfl

@[simp] theorem write_busy (x : RecordContent) (st : Store) : (st.write x).busy = st.busy := by
  cases x <;> rfl

@[simp] theorem write_queue (x : RecordContent) (st : Store) : (st.write x).queue = st.queue := by
  cases x <;> rfl

/-- The requesters of a commit that is not one of SWEEP. -/
theorem tellRequesters_other (hsweep : ∀ r, c.content ≠ .sweep r) (t : State) :
    tellRequesters c t = c.waiters.foldl (fun s w => tellWaiter w s) t := by
  unfold tellRequesters
  cases h : c.content with
  | sweep r => exact absurd h (hsweep r)
  | _ => rfl

theorem tellRequesters_sweep {r : SweepRecord} (h : c.content = .sweep r) (t : State) :
    tellRequesters c t = c.waiters.foldl (fun s w => tellWaiter w s) (sweepStored r c.additions t) := by
  simp only [tellRequesters, h]

end Commit

/-! ### The commits of the head job (R88, R89, R106) -/

theorem eraseMapStored_quick {s : State} {p : Pos} {rest : List Job} (hq : s.erase.queue = ⟨p, .quick⟩ :: rest)
    (hs : s.erase.stage = .waitMap) : eraseMapStored s = headLeaves s := by
  simp [eraseMapStored, hq, hs]

theorem eraseMapStored_full {s : State} {p : Pos} {e : Entry} {rest : List Job}
    (hq : s.erase.queue = ⟨p, .full⟩ :: rest) (hs : s.erase.stage = .waitMap)
    (he : s.regions.table[p.val]? = some e) : eraseMapStored s = setUpSweep p e s := by
  have hent : s.entryAt p = some e := he
  simp [eraseMapStored, hq, hs, hent]

theorem endWaits_none {s : State} {picks : Txn → Bool} (h : ∀ t ∈ s.filter.txns, t.waiting = false) :
    endWaits picks s = s := by
  have hnone : s.filter.txns.filter (fun t => t.waiting && picks t) = [] :=
    List.filter_eq_nil_iff.mpr (fun t ht => by simp [h t ht])
  simp [endWaits, hnone]

/-- A sweep with a sector left below its limit, or with no limit, goes on. -/
theorem sweepDecide_of_left {s : State} {x : Sweep} (hx : s.erase.sweep = some x)
    (h : ∀ l, s.sweepLimit x.pos = some l → stepOver x.keep x.q < l) : sweepDecide s = s := by
  unfold sweepDecide State.sweeping
  by_cases hs : s.erase.stage = .sweeping
  · rw [if_pos hs, hx]
    dsimp only
    cases hl : s.sweepLimit x.pos with
    | none => rfl
    | some l => exact if_neg (fun hno => absurd hno.2.2.2 (Nat.not_le.mpr (h l hl)))
  · rw [if_neg hs]

theorem moveCheckpoint_same {s : State} {x : Sweep} (hx : s.erase.sweep = some x) (hk : x.keep = []) :
    moveCheckpoint ⟨x.pos, x.gen, x.c, []⟩ s = s := by
  have hnamed : x.named ⟨x.pos, x.gen, x.c, []⟩ = true := by simp [Sweep.named]
  have hsame : ({ x with c := x.c, keep := keepPrune x.c x.keep } : Sweep) = x := by
    rw [hk, keepPrune, List.filter_nil, ← hk]
  have hmap : (if x.named ⟨x.pos, x.gen, x.c, []⟩ then { x with c := x.c, keep := keepPrune x.c x.keep } else x) = x := by
    rw [if_pos hnamed, hsame]
  unfold moveCheckpoint setSweep
  rw [hx, Option.map_some, hmap, ← hx]

end Sys2Proof.Machine

namespace Sys2Proof.Proofs

open Sys2Proof Sys2Proof.Machine

/-- Settles O9: with nothing in flight the drain ends within the taking, and each slot by the two tables. -/
theorem applyTableSwapsWhenDrained : Obligations.ApplyTableSwapsWhenDrained := by
  intro s tag seq hears hd ho hi hq htd htr h hx htotal _
  have hlow : applyExhausts s.arrived = false := by
    rw [← Bool.not_eq_true, applyExhausts_iff]
    exact fun ⟨k, hk, hg⟩ => absurd (hx k hk)
      (by rw [show s.cipher.slots[k].gen = 4294967295 from hg]; exact lt_irrefl _)
  generalize hb : ({ s.arrived with
    regions.snapshot := some (takeSnapshot s.arrived), regions.apply := .draining, filter.quiesce := .apply } : State)
        = b
  have htake := takeApplyTable_accepted (s := s.arrived) (arrived_adminOpen ho) hi hq
    (testBusy_false (s := s) htd htr) h hlow
  rw [hb, drainCheck_swaps (n := takeSnapshot s) (by rw [← hb]; exact htotal) (by rw [← hb]) (by rw [← hb]; rfl) rfl]
    at htake
  have hslot (k : SlotIx) : (swapTables (takeSnapshot s) b).cipher.slots[k] =
      swapSlot (some 0) (tableNames s.regions.table k) (positionsName s.regions.pending k) s.regions.masks[k]
        (takeSnapshot s).copies[k] (s.counters.keys + k.val) s.cipher.slots[k] := by
    rw [swapTables_slots, ← hb]
    exact congrArg (fun o => swapSlot o _ _ _ _ _ _) ho
  have hgen (k : SlotIx) (hk : positionsName s.regions.pending k ≠ tableNames s.regions.table k) :
      nextGen s.cipher.slots[k].gen = s.cipher.slots[k].gen + 1 := nextGen_of_lt (hx k hk)
  have hexec : exec (.applyTable tag seq) s =
      .next ((swapTables (takeSnapshot s) b).answered tag seq 0x07 .accepted []) :=
    congrArg _ (windowRequest_of_take hears hd seq 7 htake)
  have hframe {t : State} : (swapTables (takeSnapshot s) t).regions.apply = t.regions.apply ∧
      (swapTables (takeSnapshot s) t).filter = t.filter ∧
      (swapTables (takeSnapshot s) t).regions.table = s.regions.pending.toList.filterMap id ∧
      (swapTables (takeSnapshot s) t).regions.epoch = t.regions.epoch + 1 ∧
      (swapTables (takeSnapshot s) t).counters.keys = t.counters.keys + 8 := by
    simp [swapTables, takeSnapshot]
  obtain ⟨happly, hfilter, htable, hepoch, hkeys⟩ := hframe (t := b)
  obtain ⟨hfront, hmedia, -, herase, hkeypad, hcred, hctl, -, hpower, hflash, -⟩ :=
    swapTables_frame (takeSnapshot s) b
  refine ⟨_, hexec, rfl, happly.trans (by rw [← hb]), (congrArg Filter.quiesce hfilter).trans (by rw [← hb]), htable,
    hepoch.trans (by rw [← hb]; rfl), fun k => ⟨fun hw hn => ?_, fun hw hn => ?_, fun hw hn => ?_, fun hw hn => ?_,
    fun hn => ?_⟩, fun hbusy hqueue => ?_, ?_, ?_, ?_, ?_, ?_, ?_, ?_, ?_⟩
  · have hk := hslot k
    rw [hw, hn, swapSlot, hgen k (by rw [hw, hn]; simp)] at hk
    refine ⟨congrArg KeySlot.gen hk, congrArg KeySlot.mask hk, _, congrArg KeySlot.key hk, Nat.le_add_right .., ?_⟩
    refine lt_of_lt_of_eq ?_ hkeys.symm
    rw [← hb]
    exact Nat.add_lt_add_left k.isLt _
  · have hk := hslot k
    rw [hw, hn, swapSlot, hgen k (by rw [hw, hn]; simp)] at hk
    exact hk
  · have hk := hslot k
    rw [hw, hn, swapSlot, snapshot_copy_or_key] at hk
    have hkgen := congrArg KeySlot.gen hk
    have hkkey := congrArg KeySlot.key hk
    exact ⟨hkgen, congrArg KeySlot.mask hk, hkkey⟩
  · have hk := hslot k
    rw [hw, hn, swapSlot] at hk
    exact hk
  · have hk := congrArg KeySlot.state (hslot k)
    rw [hn] at hk
    refine hk.trans ?_
    cases tableNames s.regions.table k <;> exact slotStateFor_admin _
  · rw [show s.store = b.store by rw [← hb]; rfl] at hbusy hqueue
    exact swapTables_map_starts hbusy hqueue (by rw [← hb]; exact hd) _
  · exact hflash.trans (by rw [← hb]; rfl)
  · exact herase.trans (by rw [← hb]; rfl)
  · exact hcred.trans (by rw [← hb]; rfl)
  · exact hmedia.trans (by rw [← hb]; rfl)
  · exact hfront.trans (by rw [← hb]; rfl)
  · exact hpower.trans (by rw [← hb]; rfl)
  · exact hkeypad.trans (by rw [← hb]; rfl)
  · exact hctl.trans (by rw [← hb])

/-- Settles O15: the head job's start within the taking, and its commits as they complete. -/
theorem eraseRegionReplacesKey : Obligations.EraseRegionReplacesKey := by
  refine ⟨fun s tag seq position mode p e m k hears hd ho hp hm he hcls hk hshare hq hi hg => ?_,
    fun s tag seq position p e hears hd ho hp he hcls hslot hq hi hin => ?_,
    fun s m a p e k hs hd hb hsq hst he hcls hk => ⟨fun hq => ?_, fun rest hq => ?_⟩,
    fun s jobs a x hs hd hb hsq hst hx hkeep hwait hleft => ?_⟩
  · have hsh : sharesKey s.arrived p e = false := by
      rw [← Bool.not_eq_true, sharesKey_iff]
      rintro ⟨k', q, f, hk', hne, hf, hf'⟩
      rw [hk, Option.some.injEq] at hk'
      exact hshare q f hne hf (hk' ▸ hf')
    have hgen : atHighestGen s.arrived e = false := by
      rw [← Bool.not_eq_true, atHighestGen_iff]
      rintro ⟨k', -, hk', hx⟩
      rw [hk, Option.some.injEq] at hk'
      subst hk'
      exact absurd hg (by rw [show s.cipher.slots[k].gen = 4294967295 from hx]; exact lt_irrefl _)
    have htake := takeEraseRegion_starts (s := s.arrived) (arrived_adminOpen ho) hp he
      (hm.imp (fun h => ⟨h.1, h.2, hcls⟩) id) hsh hq hi hgen
    generalize hX : requestCommit .sweep [] ({ s.arrived with erase.queue := [⟨p, m⟩] } : State) = X at *
    have hXe : X.erase = { s.erase with queue := [⟨p, m⟩] } := by rw [← hX]; simp [State.arrived]
    have hXc : X.cipher = s.cipher := by rw [← hX]; simp [State.arrived]
    have hXn : X.counters = s.counters := by rw [← hX]; simp [State.arrived]
    have hXf : X.filter = s.filter := by rw [← hX]; simp [State.arrived]
    have hXr : X.regions = s.regions := by rw [← hX]; simp [State.arrived]
    have hXd : X.ctl.drive ≠ .fault := by rw [← hX]; simpa [State.arrived] using hd
    have hXq : X.erase.queue = [⟨p, m⟩] := by rw [hXe]
    refine ⟨fun hin => ?_, fun hin => ?_⟩
    · rw [startHead_waits hXq (by rw [hXf]; exact hin), hXe] at htake
      exact congrArg _ (windowRequest_of_take hears hd seq 8 htake)
    · rw [startHead_priv hXq (by rw [hXf]; exact hin) hXd (by rw [hXr]; exact he) hcls hk,
        replaceKey_waitMap hXc hXe hXn, nextGen_of_lt hg] at htake
      exact congrArg _ (windowRequest_of_take hears hd seq 8 htake)
  · have hsh : sharesKey s.arrived p e = false := by
      rw [← Bool.not_eq_true, sharesKey_iff]
      rintro ⟨k', q, f, hk', -⟩
      rw [hslot] at hk'
      cases hk'
    have hgen : atHighestGen s.arrived e = false := by
      rw [← Bool.not_eq_true, atHighestGen_iff]
      rintro ⟨k', hc, -⟩
      rw [hcls] at hc
      cases hc
    have htake := takeEraseRegion_starts (s := s.arrived) (mode := 2) (m := .full) (arrived_adminOpen ho) hp he
      (.inr ⟨rfl, rfl⟩) hsh hq hi hgen
    generalize hX : requestCommit .sweep [] ({ s.arrived with erase.queue := [⟨p, .full⟩] } : State) = X at *
    have hXe : X.erase = { s.erase with queue := [⟨p, .full⟩] } := by rw [← hX]; simp [State.arrived]
    have hXf : X.filter = s.filter := by rw [← hX]; simp [State.arrived]
    have hXr : X.regions = s.regions := by rw [← hX]; simp [State.arrived]
    have hXd : X.ctl.drive ≠ .fault := by rw [← hX]; simpa [State.arrived] using hd
    rw [startHead_pub (j := ⟨p, .full⟩) (rest := []) (by rw [hXe]) (by rw [hXf]; exact hin) hXd
      (by rw [hXr]; exact he) hcls rfl, hXe] at htake
    exact congrArg _ (windowRequest_of_take hears hd seq 8 htake)
  · have htell : tellRequesters ⟨.map m, [.eraseMap], a⟩ { s with store := s.store.write (.map m) } =
        requestCommit .sweep [] { s with
          store := s.store.write (.map m), erase := { s.erase with queue := [], stage := .idle, sweep := none } } := by
      rw [tellRequesters_other (by simp)]
      refine (eraseMapStored_quick (s := { s with store := s.store.write (.map m) }) hq hst).trans (headLeaves_last ?_)
      rw [show ({ s with store := s.store.write (.map m) } : State).erase.queue = s.erase.queue from rfl, hq]
      rfl
    rw [exec_commitVerified hs hb, commitVerified_tells hd, htell]
    exact congrArg _ (startNext_requested (by simp [hb]) _ _)
  · have htell : tellRequesters ⟨.map m, [.eraseMap], a⟩ { s with store := s.store.write (.map m) } =
        requestCommit .sweep [.eraseSweep] { s with
          store := s.store.write (.map m)
          erase := { s.erase with
            stage := .waitSweep
            sweep := some
              ⟨p, some s.cipher.slots[k].gen, e.base, e.base, e.base, none, [], 0, .running, .none⟩ } } := by
      rw [tellRequesters_other (by simp)]
      refine (eraseMapStored_full (s := { s with store := s.store.write (.map m) }) hq hst he).trans ?_
      simp [setUpSweep, State.instanceOf, hcls, hk]
    rw [exec_commitVerified hs hb, commitVerified_tells hd, htell]
    exact congrArg _ (startNext_requested (by simp [hb]) _ _)
  · have htell : tellRequesters ⟨.sweep ⟨some ⟨x.pos, x.gen, x.c, []⟩, jobs⟩, [.eraseSweep], a⟩
        { s with store := s.store.write (.sweep ⟨some ⟨x.pos, x.gen, x.c, []⟩, jobs⟩) } = { s with
          store := s.store.write (.sweep ⟨some ⟨x.pos, x.gen, x.c, []⟩, jobs⟩)
          erase := { s.erase with stage := .sweeping } } := by
      rw [tellRequesters_sweep rfl]
      generalize hS : ({ s with
        store := s.store.write (.sweep ⟨some ⟨x.pos, x.gen, x.c, []⟩, jobs⟩) } : State) = S
      have hSx : S.erase.sweep = some x := by rw [← hS]; exact hx
      have hstored : sweepStored ⟨some ⟨x.pos, x.gen, x.c, []⟩, jobs⟩ a S = S := by
        refine (congrArg (endWaits _) (moveCheckpoint_same hSx hkeep)).trans (endWaits_none ?_)
        rw [← hS]
        exact hwait
      have hdecide : eraseSweepStored S = sweepDecide { S with erase.stage := .sweeping } :=
        if_pos (by rw [← hS]; exact hst)
      rw [hstored]
      refine hdecide.trans ((sweepDecide_of_left (s := { S with erase.stage := .sweeping }) hSx ?_).trans
          (by rw [← hS]))
      rw [hkeep, ← hS]
      exact hleft
    rw [exec_commitVerified hs hb, commitVerified_tells hd, htell]
    exact congrArg _ (startNext_empty hsq)

end Sys2Proof.Proofs
end

section
/-! SUPPORT. The completion of a media command, and the media test (R12, R81 to R83). -/

namespace Sys2Proof.Machine

open Sys2Proof

/-! ### The completion of a command (R12) -/

theorem statusIsOk_iff (b : Byte) : statusIsOk b = true ↔ b = 0 := by simp [statusIsOk]

theorem statusIsOk_zero : statusIsOk 0 = true := rfl

theorem statusIsOk_of_ne {b : Byte} (h : b ≠ 0) : statusIsOk b = false := by
  rw [← Bool.not_eq_true, statusIsOk_iff]
  exact h

theorem serveSize_idle {s : State} (h : s.media.sizeWaiting = false) : serveSize s = s := if_neg (by simp [h])

/-- The completion of a BUSY tag's command, which leaves no SIZE waiting and the part awake. -/
theorem exec_mediaCompletion {s u : State} {tag : Tag} {c : Command} (h : s.media.tags[tag] = .busy c) {status : Byte}
    {span : BitVec 32} {data : MediaData}
    (hu : deliverResult c (statusIsOk status) span.toNat (mediaSectors data c)
      { s with media.tags := s.media.tags.set tag .free } = u)
    (hw : u.media.sizeWaiting = false) (hp : u.staysAwake) :
    exec (.mediaCompletion tag status span data) s = .next u := by
  have hend : standbyCheck (serveSize u) = u := by rw [serveSize_idle hw, standbyCheck_of_awake hp]
  simp only [exec, execMediaCompletion, h, hu, hend]

/-! ### The media test's results (R82, R83) -/

theorem deliverResult_test {c : Command} {run : Nat} (h : c.requester = .test run) (ok : Bool) (span : Nat)
    (data : List Content) (s : State) :
    deliverResult c ok span data s = testResult run c.kind ok data (imageResult c ok s) := by
  simp [deliverResult, h]

theorem imageResult_write {c : Command} (hk : c.kind = .write) {s : State} (hkept : s.commandKept c = true)
    (ok : Bool) :
    imageResult c ok s =
      { s with flash := if ok then flashWriteAll c.range.lo c.data s.flash else flashForget c.range s.flash } :=
  if_pos ⟨hk, hkept⟩

theorem imageResult_other {c : Command} (hk : c.kind ≠ .write) (ok : Bool) (s : State) : imageResult c ok s = s :=
  if_neg (fun h => hk h.1)

theorem testResult_write {s : State} {run : Nat} (hs : s.cipher.test.state = .running) (hr : s.cipher.test.run = run)
    (ok : Bool) (data : List Content) : testResult run .write ok data s = { s with
      cipher.test := { s.cipher.test with
        errors := if ok then s.cipher.test.errors else s.cipher.test.errors + 1, waiting := some .read } } := by
  simp [testResult, hs, hr]

theorem endPass_eq (s : State) : endPass s = { s with cipher.test := { s.cipher.test with
    done := s.cipher.test.done + 1
    state := if s.cipher.test.done + 1 = s.cipher.test.requested then .done else s.cipher.test.state
    waiting := if s.cipher.test.done + 1 = s.cipher.test.requested then none else some .write } } := by
  unfold endPass
  dsimp only
  split_ifs <;> rfl

theorem testResult_read_fails {s : State} {run : Nat} {k : Kind} (hs : s.cipher.test.state = .running)
    (hr : s.cipher.test.run = run) (hk : k ≠ .write) (data : List Content) : testResult run k false data s =
      endPass { s with cipher.test := { s.cipher.test with errors := s.cipher.test.errors + 1 } } := by
  simp [testResult, hs, hr, hk]

theorem testResult_read_ok {s : State} {run : Nat} {k : Kind} (hs : s.cipher.test.state = .running)
    (hr : s.cipher.test.run = run) (hk : k ≠ .write) (data : List Content) : testResult run k true data s =
      endPass { s with
        cipher.test := { s.cipher.test with mismatched := min (s.cipher.test.mismatched +
          (countMismatches (s.cipher.test.done + 1) 0 data s.counters.unrelated).1) 65535 }
        counters.unrelated := (countMismatches (s.cipher.test.done + 1) 0 data s.counters.unrelated).2 } := by
  simp [testResult, hs, hr, hk]

/-- Plain data that is read back differs where it is not the pattern, and takes no free value. -/
theorem countMismatches_plain (p i : Nat) (xs : List Sector) (n : Nat) :
    countMismatches p i (xs.map .plain) n =
      (((List.range xs.length).filter (fun j => decide (xs[j]? ≠ some (testPattern p (i + j))))).length, n) := by
  induction xs generalizing i with
  | nil => rfl
  | cons x xs ih =>
    have hrest : (List.range xs.length).filter
        (fun j => decide ((x :: xs)[j + 1]? ≠ some (testPattern p (i + (j + 1))))) =
        (List.range xs.length).filter (fun j => decide (xs[j]? ≠ some (testPattern p (i + 1 + j)))) := by
      refine List.filter_congr (fun j _ => ?_)
      rw [List.getElem?_cons_succ, Nat.add_right_comm, Nat.add_assoc]
    rw [List.map_cons, countMismatches, ih, List.length_cons, List.range_succ_eq_map, List.filter_cons,
      List.filter_map, Function.comp_def, hrest]
    by_cases hx : x = testPattern p i
    · simp [hx]
    · simp [hx, Nat.add_comm]

/-! ### SELF_TEST (R79, R81) -/

theorem takeSelfTestCipher_wiping {s : State} (h : s.ctl.drive = .wiping) (k : RunKind) :
    takeSelfTestCipher k s = (.notNow, [], s) := if_pos (.inl h)

theorem takeSelfTestCipher_cases {s : State} (hw : s.ctl.drive ≠ .wiping) (hf : s.ctl.drive ≠ .fault) (k : RunKind) :
    takeSelfTestCipher k s = if s.cipher.run.isSome then (.busy, [], s) else
      (.accepted, [], { s with cipher.run := some ⟨k, 5⟩, cipher.result := .running }) :=
  if_neg (fun h => h.elim hw hf)

theorem drainCheck_starts_test {s : State} (ht : s.filter.total = 0) (hq : s.filter.quiesce = .test)
    (hd : s.cipher.test.state = .draining) : drainCheck s = startTestRun s := by
  simp [drainCheck, ht, hq, hd]

section SelfTest

variable {s : State} (ha : s.adminOpen = true) {passes : Byte}

include ha

theorem takeSelfTestMedia_badField (h : passes = 0) : takeSelfTestMedia passes s = (.badField, [], s) := by
  simp [takeSelfTestMedia, ha, h, answer]

variable (hp : passes ≠ 0#8)

include hp

theorem takeSelfTestMedia_busy (h : s.testBusy = true ∨ s.regions.apply = .draining) :
    takeSelfTestMedia passes s = (.busy, [], s) := by
  simp [takeSelfTestMedia, ha, hp, h, answer]

variable (ht : s.testBusy = false) (hi : s.regions.apply = .idle)

include ht hi

theorem takeSelfTestMedia_notReady (h : s.media.state ≠ .ready) : takeSelfTestMedia passes s = (.notNow, [], s) := by
  simp [takeSelfTestMedia, ha, hp, ht, hi, h, answer]

theorem takeSelfTestMedia_accepted (h : s.media.state = .ready) :
    takeSelfTestMedia passes s = (.accepted, [], drainCheck { s with
      cipher.test := ⟨.draining, passes.toNat, 0, 0, 0, none, s.cipher.test.run⟩, filter.quiesce := .test }) := by
  simp [takeSelfTestMedia, ha, hp, ht, hi, h, answer]

theorem takeSelfTestMedia_drains (h : s.media.state = .ready) (hc : s.filter.total ≠ 0) :
    takeSelfTestMedia passes s = (.accepted, [], { s with
      cipher.test := ⟨.draining, passes.toNat, 0, 0, 0, none, s.cipher.test.run⟩, filter.quiesce := .test }) := by
  rw [takeSelfTestMedia_accepted ha hp ht hi h]
  refine congrArg (fun t => (Result.accepted, [], t)) ?_
  exact drainCheck_of_total hc

theorem takeSelfTestMedia_runs (h : s.media.state = .ready) (hc : s.filter.total = 0) :
    takeSelfTestMedia passes s = (.accepted, [], { s with
      cipher.test := ⟨.running, passes.toNat, 0, 0, 0, some .write, s.cipher.test.run + 1⟩
      filter.quiesce := .none }) := by
  rw [takeSelfTestMedia_accepted ha hp ht hi h]
  refine congrArg (fun t => (Result.accepted, [], t)) ?_
  refine (drainCheck_starts_test ?_ ?_ ?_).trans rfl
  exacts [hc, rfl, rfl]

end SelfTest

end Sys2Proof.Machine

namespace Sys2Proof.Proofs

open Sys2Proof Sys2Proof.Machine

/-- Settles O20: the takings of SELF_TEST by their cases, and the results of the test's WRITE and READ. -/
theorem selfTestsStart : Obligations.SelfTestsStart := by
  refine ⟨fun s tag seq c k hears hd hc => ?_, fun s tag seq passes hears hd ho => ⟨fun hp => ?_, fun hp =>
    ⟨fun h => ?_, fun htd htr hi => ⟨fun hm => ?_, fun hm ht => ?_, fun hm ht => ?_⟩⟩⟩,
    fun s tag status span c htag hreq hst hw hs => ⟨fun hk => ?_, fun xs hk hxs => ?_⟩⟩
  · have taken {r : Result} {t : State} (h : takeSelfTestCipher k s.arrived = (r, [], t)) :
        exec c s = .next (t.answered tag seq 0x0D r []) := by
      rcases hc with ⟨rfl, rfl⟩ | ⟨rfl, rfl⟩ <;> exact congrArg _ (windowRequest_of_take hears hd seq 13 h)
    refine ⟨fun hwip => taken (takeSelfTestCipher_wiping (s := s.arrived) hwip k), fun hwip hrun => taken ?_, fun hwip
        hrun => taken ?_⟩
    · exact (takeSelfTestCipher_cases (s := s.arrived) hwip hd k).trans
        (if_pos (Option.isSome_iff_ne_none.mpr hrun))
    · refine (takeSelfTestCipher_cases (s := s.arrived) hwip hd k).trans (if_neg ?_)
      rw [show s.arrived.cipher.run = none from hrun]
      exact Bool.false_ne_true
  · exact congrArg _ (windowRequest_of_take hears hd seq 13 (takeSelfTestMedia_badField (arrived_adminOpen ho) hp))
  · rw [← or_assoc, ← testBusy_iff] at h
    exact congrArg _ (windowRequest_of_take hears hd seq 13
      (takeSelfTestMedia_busy (s := s.arrived) (arrived_adminOpen ho) hp h))
  · exact congrArg _ (windowRequest_of_take hears hd seq 13 (takeSelfTestMedia_notReady (s := s.arrived)
      (arrived_adminOpen ho) hp (testBusy_false (s := s) htd htr) hi hm))
  · exact congrArg _ (windowRequest_of_take hears hd seq 13 (takeSelfTestMedia_drains (s := s.arrived)
      (arrived_adminOpen ho) hp (testBusy_false (s := s) htd htr) hi hm ht))
  · exact congrArg _ (windowRequest_of_take hears hd seq 13 (takeSelfTestMedia_runs (s := s.arrived)
      (arrived_adminOpen ho) hp (testBusy_false (s := s) htd htr) hi hm ht))
  · have hkept : ({ s with media.tags := s.media.tags.set tag .free } : State).commandKept c = true := by
      simp [State.commandKept, hreq]
    refine exec_mediaCompletion htag ?_ hw (.inl hs)
    rw [deliverResult_test hreq, imageResult_write hk hkept, hk]
    refine (testResult_write ?_ ?_ _ _).trans ?_
    · exact hst
    · rfl
    · by_cases h0 : status = 0
      · rw [h0, statusIsOk_zero]
        rfl
      · rw [statusIsOk_of_ne h0, if_neg h0, if_neg h0]
        rfl
  · have hother : c.kind ≠ .write := by simp [hk]
    refine exec_mediaCompletion htag ?_ hw (.inl hs)
    rw [deliverResult_test hreq, imageResult_other hother]
    by_cases h0 : status = 0
    · rw [h0, statusIsOk_zero]
      refine (testResult_read_ok ?_ ?_ hother _).trans ?_
      · exact hst
      · rfl
      · rw [endPass_eq, show mediaSectors .asStored c = xs.map .plain from hxs, countMismatches_plain]
        simp [hst]
    · rw [statusIsOk_of_ne h0]
      refine (testResult_read_fails ?_ ?_ hother _).trans ?_
      · exact hst
      · rfl
      · rw [endPass_eq, if_neg h0, if_neg h0]
        simp [hst]

end Sys2Proof.Proofs
end

section
/-! SUPPORT. One transaction among those admitted: how its record is found, changed and ended (R53, R54, R60 to
R64). -/

namespace Sys2Proof.Machine

open Sys2Proof

/-! ### The record of one transaction -/

/-- `t` is an admitted transaction, and no other record has its name or the name of one of its fragments. -/
structure State.carries (s : State) (t : Txn) : Prop where
  mem : t ∈ s.filter.txns
  alone : ∀ x ∈ s.filter.txns, x.id = t.id → x = t
  owns : ∀ x ∈ s.filter.txns, ∀ g ∈ x.frags, ∀ h ∈ t.frags, g.id = h.id → x = t
  nodup : (t.frags.map Frag.id).Nodup

/-- The record of a transaction put in place of the one of its name. -/
def State.put (s : State) (t : Txn) : State := setTxn t.id (fun _ => t) s

theorem State.carries.of_names {s : State} (h : s.namesInv) {t : Txn} (ht : t ∈ s.filter.txns) : s.carries t := by
  obtain ⟨hids, hfrags, -, -⟩ := h
  rw [List.map_append] at hids
  have hids := (List.nodup_append.mp hids).2.1
  rw [List.map_flatMap, List.nodup_flatMap] at hfrags
  obtain ⟨hnodup, hdisjoint⟩ := hfrags
  refine ⟨ht, fun x hx hid => List.inj_on_of_nodup_map hids hx ht hid, fun x hx g hg y hy hid => ?_, hnodup t ht⟩
  by_contra hne
  have hsym : Std.Symm (Function.onFun List.Disjoint fun t : Txn => t.frags.map Frag.id) := ⟨fun _ _ h => h.symm⟩
  exact hdisjoint.forall hx ht hne (List.mem_map_of_mem hg) (hid ▸ List.mem_map_of_mem hy)

theorem State.carries.of_txns {s u : State} {t : Txn} (h : s.carries t) (hu : u.filter.txns = s.filter.txns) :
    u.carries t := by
  obtain ⟨hmem, halone, howns, hnodup⟩ := h
  exact ⟨by rwa [hu], by rwa [hu], by rwa [hu], hnodup⟩

section Carries

variable {s : State} {t : Txn} (h : s.carries t)

include h

theorem findTxn_of_carries : s.findTxn t.id = some t := by
  unfold State.findTxn
  cases hf : s.filter.txns.find? (fun x => x.id == t.id) with
  | none => exact absurd (List.find?_eq_none.mp hf t h.mem) (by simp)
  | some x => rw [h.alone x (List.mem_of_find?_eq_some hf) (by simpa using List.find?_some hf)]

theorem findFrag_of_carries {g : Frag} (hg : g ∈ t.frags) : s.findFrag g.id = some (t, g) := by
  have hfind : t.frags.find? (fun x => x.id == g.id) = some g := by
    cases hf : t.frags.find? (fun x => x.id == g.id) with
    | none => exact absurd (List.find?_eq_none.mp hf g hg) (by simp)
    | some x =>
      rw [List.inj_on_of_nodup_map h.nodup (List.mem_of_find?_eq_some hf) hg (by simpa using List.find?_some hf)]
  unfold State.findFrag
  cases hf : s.filter.txns.findSome? (fun x => (x.frags.find? (fun y => y.id == g.id)).map (fun y => (x, y))) with
  | none =>
    have hnone := List.findSome?_eq_none_iff.mp hf t h.mem
    rw [hfind] at hnone
    cases hnone
  | some p =>
    obtain ⟨x, hx, hp⟩ := List.exists_of_findSome?_eq_some hf
    obtain ⟨y, hy, rfl⟩ := Option.map_eq_some_iff.mp hp
    obtain rfl := h.owns x hx y (List.mem_of_find?_eq_some hy) g hg (by simpa using List.find?_some hy)
    rw [hfind, Option.some.injEq] at hy
    rw [hy]

theorem setTxn_eq_put {f : Txn → Txn} (hf : (f t).id = t.id) : setTxn t.id f s = s.put (f t) := by
  unfold State.put setTxn
  rw [hf]
  have hmap : s.filter.txns.map (fun x => if x.id = t.id then f x else x) =
      s.filter.txns.map (fun x => if x.id = t.id then f t else x) := by
    refine List.map_congr_left (fun x hx => ?_)
    split_ifs with hid
    · rw [h.alone x hx hid]
    · rfl
  rw [hmap]

theorem setFrag_eq_put {g : Frag} (hg : g ∈ t.frags) (f : Frag → Frag) :
    setFrag g.id f s = s.put { t with frags := t.frags.map (fun x => if x.id = g.id then f x else x) } := by
  unfold State.put setTxn setFrag
  have hmap : s.filter.txns.map (fun x => { x with frags := x.frags.map (fun y => if y.id = g.id then f y else y) }) =
      s.filter.txns.map (fun x => if x.id = t.id then
        { t with frags := t.frags.map (fun x => if x.id = g.id then f x else x) } else x) := by
    refine List.map_congr_left (fun x hx => ?_)
    split_ifs with hid
    · rw [h.alone x hx hid]
    · have hsame : x.frags.map (fun y => if y.id = g.id then f y else y) = x.frags := by
        refine (List.map_congr_left (fun y hy => if_neg (fun hyg => hid ?_))).trans (List.map_id _)
        rw [h.owns x hx y hy g hg hyg]
      rw [hsame]
  rw [hmap]

theorem removeTxn_put {u : Txn} (hu : u.id = t.id) : removeTxn t.id (s.put u) = removeTxn t.id s := by
  unfold State.put setTxn removeTxn
  rw [hu]
  have hfilter : (s.filter.txns.map (fun x => if x.id = t.id then u else x)).filter (fun x => x.id != t.id) =
      s.filter.txns.filter (fun x => x.id != t.id) := by
    induction s.filter.txns with
    | nil => rfl
    | cons x l ih =>
      by_cases hid : x.id = t.id
      · simp [hid, hu, ih]
      · simp [hid, ih]
  rw [hfilter]

theorem put_put {u v : Txn} (hv : v.id = u.id) : (s.put u).put v = s.put v := by
  unfold State.put setTxn
  have hmap : (s.filter.txns.map (fun x => if x.id = u.id then u else x)).map (fun x => if x.id = v.id then v else x) =
      s.filter.txns.map (fun x => if x.id = v.id then v else x) := by
    rw [List.map_map]
    refine List.map_congr_left (fun x _ => ?_)
    simp only [Function.comp_apply, hv]
    by_cases hid : x.id = u.id
    · rw [if_pos hid, if_pos rfl, if_pos hid]
    · rw [if_neg hid, if_neg hid]
  rw [hmap]

/-- A record that keeps the names of its transaction and fragments takes its place. -/
theorem carries_put {u : Txn} (hu : u.id = t.id) (hf : u.frags.map Frag.id = t.frags.map Frag.id) :
    (s.put u).carries u := by
  have hframe {g : Frag} (hg : g ∈ u.frags) : ∃ y ∈ t.frags, y.id = g.id := by
    have hmem : g.id ∈ t.frags.map Frag.id := hf ▸ List.mem_map_of_mem hg
    exact List.mem_map.mp hmem
  have hcases {x : Txn} (hx : x ∈ (s.put u).filter.txns) : x = u ∨ x ∈ s.filter.txns ∧ x.id ≠ u.id := by
    obtain ⟨y, hy, rfl⟩ := List.mem_map.mp hx
    split_ifs with hid
    · exact .inl rfl
    · exact .inr ⟨hy, hid⟩
  refine ⟨List.mem_map.mpr ⟨t, h.mem, if_pos hu.symm⟩, fun x hx hid => ?_, fun x hx g hg y hy hid => ?_, hf ▸ h.nodup⟩
  · exact (hcases hx).resolve_right (fun hx => hx.2 hid)
  · rcases hcases hx with rfl | ⟨hx, hne⟩
    · rfl
    · obtain ⟨z, hz, hzy⟩ := hframe hy
      exact absurd (by rw [h.owns x hx g hg z hz (hid.trans hzy.symm), hu]) hne

end Carries

/-! ### The end of the one fragment of a transaction (R53, R54, R58, R61 to R64) -/

section Single

variable {s : State} {t : Txn} {g : Frag} (hf : t.frags = [g])

/-- The buffer that a transaction holds once one of its fragments has ended (R43). -/
def Txn.heldAfter (t : Txn) (g : Frag) : Nat := if t.kind = .write then t.held - g.range.len else t.held

include hf

theorem endFrag_single (hc : s.calm) (h : s.carries t) (st : FragState) :
    endFrag g.id st s =
      lowerCounts g (s.put { t with frags := [{ g with state := st }], held := t.heldAfter g }) := by
  have hg : g ∈ t.frags := by simp [hf]
  have hset : setFrag g.id (fun g => { g with state := st }) s = s.put { t with frags := [{ g with state := st }] } := by
    rw [setFrag_eq_put h hg, hf]
    simp
  have hput := carries_put h (u := { t with frags := [{ g with state := st }] }) rfl (by simp [hf])
  have hheld : setTxn t.id (fun t => { t with held := if t.kind = .write then t.held - g.range.len else t.held })
      (s.put { t with frags := [{ g with state := st }] }) =
      s.put { t with frags := [{ g with state := st }], held := t.heldAfter g } := by
    refine (setTxn_eq_put hput (f := fun t => { t with
      held := if t.kind = .write then t.held - g.range.len else t.held }) rfl).trans (put_put h ?_)
    rfl
  have hend : endFrag g.id st s = notifyCounts (lowerCounts g
      (setTxn t.id (fun t => { t with held := if t.kind = .write then t.held - g.range.len else t.held })
        (setFrag g.id (fun g => { g with state := st }) s))) := by
    rw [endFrag, findFrag_of_carries h hg]
  rw [hend, hset, hheld]
  exact notifyCounts_calm (hc.of_ground rfl)

end Single

/-- The completion of a transaction all of whose fragments have ended, and that waits for nothing (R54). -/
theorem completeTxn_ends {s : State} {t : Txn} (h : s.carries t) (hend : t.frags.all Frag.ended = true)
    (hd : t.dropped = false) (hw : ¬(t.kind = .write ∧ t.status = .good ∧ t.waiting = true)) :
    completeTxn t.id s = endReply t.tag t.status none
      (if t.kind = .read ∧ t.status = .good then t.readData else []) (removeTxn t.id s) := by
  simp only [completeTxn, findTxn_of_carries h, hend, hd, Bool.not_true, Bool.false_eq_true, ↓reduceIte]
  exact if_neg hw

section SingleEnd

variable {s : State} {t : Txn} {g : Frag}

/-- The one fragment ends, and with it the transaction `u` that `t` has become. -/
theorem completeTxn_endFrag (u : Txn) (hu : u.id = t.id) {v : Frag} (hv : u.frags = [v]) (hf : t.frags = [g])
    (hvg : v.id = g.id) (h : s.carries t) (hc : s.calm) {st : FragState} (hst : st = .done ∨ st = .failed)
    (hd : u.dropped = false) (hw : ¬(u.kind = .write ∧ u.status = .good ∧ u.waiting = true)) :
    completeTxn t.id (endFrag g.id st (s.put u)) = endReply u.tag u.status none
      (if u.kind = .read ∧ u.status = .good then
        ({ u with frags := [{ v with state := st }] } : Txn).readData else [])
      (lowerCounts v (removeTxn t.id s)) := by
  have hput := carries_put h hu (by simp [hv, hf, hvg])
  rw [← hvg, endFrag_single (s := s.put u) hv (hc.of_ground rfl) hput,
    put_put (s := s) (u := u) (v := { u with frags := [{ v with state := st }], held := u.heldAfter v }) h rfl, ← hu]
  have hlast : (lowerCounts v (s.put { u with frags := [{ v with state := st }], held := u.heldAfter v })).carries
      { u with frags := [{ v with state := st }], held := u.heldAfter v } :=
    (carries_put h (u := { u with frags := [{ v with state := st }], held := u.heldAfter v }) hu
      (by simp [hf, hvg])).of_txns rfl
  refine (completeTxn_ends hlast ?_ hd hw).trans ?_
  · rcases hst with rfl | rfl <;> simp [Frag.ended]
  · have hremove : removeTxn u.id (lowerCounts v
        (s.put { u with frags := [{ v with state := st }], held := u.heldAfter v })) =
        lowerCounts v (removeTxn u.id (s.put { u with frags := [{ v with state := st }], held := u.heldAfter v })) :=
            rfl
    have hgone := removeTxn_put h (u := { u with frags := [{ v with state := st }], held := u.heldAfter v }) hu
    rw [← hu] at hgone
    exact congrArg _ (hremove.trans (congrArg _ hgone))

theorem Txn.fail_of_good {st : FrontStatus} (h : t.status = .good) : t.fail st = { t with status := st } := if_pos h

/-- A READ of one fragment that fails discards its data and ends with the status of the failure (R54, R61). -/
theorem completeTxn_discarded {st : FrontStatus} (hst : st ≠ .good) (hf : t.frags = [g]) (h : s.carries t) (hc : s.calm)
    (hs : t.status = .good) (hd : t.dropped = false) :
    completeTxn t.id (endFrag g.id .failed (setTxn t.id (fun t => (t.fail st).discardData) s)) =
      endReply t.tag st none [] (lowerCounts g (removeTxn t.id s)) := by
  have hset : setTxn t.id (fun t => (t.fail st).discardData) s =
      s.put { t with status := st, frags := [{ g with plain := [] }] } := by
    rw [setTxn_eq_put h] <;> simp [Txn.fail_of_good hs, Txn.discardData, hf]
  rw [hset]
  refine (completeTxn_endFrag (s := s) (t := t) (g := g) (v := { g with plain := [] })
    { t with status := st, frags := [{ g with plain := [] }] } rfl rfl hf rfl h hc (.inr rfl) hd
    (fun hw => hst hw.2.1)).trans ?_
  rw [if_neg (fun hr => hst hr.2)]
  rfl

/-- A FAIL for the one fragment of a transaction ends it with MEDIA_ERROR (R58, R61, R63). -/
theorem fragResult_fails (hf : t.frags = [g]) (h : s.carries t) (hc : s.calm) (hs : t.status = .good)
    (hd : t.dropped = false) (data : List Content) : fragResult g.id false data s =
      endReply t.tag .mediaError none [] (lowerCounts g (removeTxn t.id s)) := by
  have hg : g ∈ t.frags := by simp [hf]
  rw [fragResult, findFrag_of_carries h hg]
  dsimp only
  rw [hd, if_neg Bool.false_ne_true]
  split
  · exact completeTxn_discarded (by simp) hf h hc hs hd
  · have hset : setTxn t.id (Txn.fail .mediaError) s = s.put { t with status := .mediaError } := by
      rw [setTxn_eq_put h] <;> simp [Txn.fail_of_good hs]
    rw [if_neg Bool.false_ne_true, hset]
    refine (completeTxn_endFrag (s := s) (t := t) (g := g) (v := g) { t with status := .mediaError } rfl hf hf rfl h hc
      (.inr rfl) hd (by simp)).trans ?_
    simp

/-- The OK of the one fragment of a READ still GOOD: what it delivers, or LOCKED where its key check fails (R61,
R76). -/
theorem fragResult_reads (hf : t.frags = [g]) (h : s.carries t) (hc : s.calm) (hs : t.status = .good)
    (hd : t.dropped = false) (hk : t.kind = .read) (hz : g.kind ≠ .zero) (data : List Content) :
    fragResult g.id true data s =
      if g.key.all (keyCheck s) then
        endReply t.tag .good none (deliver g.key g.zeros g.range.lo data s.counters.unrelated).1
          (lowerCounts g (removeTxn t.id { s with
            counters.unrelated := (deliver g.key g.zeros g.range.lo data s.counters.unrelated).2 }))
      else endReply t.tag .locked none [] (lowerCounts g (removeTxn t.id s)) := by
  have hg : g ∈ t.frags := by simp [hf]
  rw [fragResult, findFrag_of_carries h hg]
  dsimp only
  rw [hd, if_neg Bool.false_ne_true, if_pos hk, readResult, Bool.not_true, if_neg Bool.false_ne_true,
    if_neg (not_not_intro hs)]
  generalize hr : deliver g.key g.zeros g.range.lo data s.counters.unrelated = r
  split
  · have hnext : ({ s with counters.unrelated := r.2 } : State).carries t := h.of_txns rfl
    have hset : setFrag g.id (fun g => { g with plain := r.1 }) { s with counters.unrelated := r.2 } =
        ({ s with counters.unrelated := r.2 } : State).put { t with frags := [{ g with plain := r.1 }] } := by
      rw [setFrag_eq_put hnext hg, hf]
      simp
    dsimp only
    rw [hset]
    refine (completeTxn_endFrag (s := { s with counters.unrelated := r.2 }) (t := t) (g := g)
      (v := { g with plain := r.1 }) { t with frags := [{ g with plain := r.1 }] } rfl rfl hf rfl hnext
      (hc.of_ground rfl) (.inl rfl) hd (by simp [hk])).trans ?_
    rw [if_pos ⟨hk, hs⟩]
    simp only [Txn.readData, List.flatMap_cons, List.flatMap_nil, List.append_nil, if_neg hz, hs]
    rfl
  · exact completeTxn_discarded (by simp) hf h hc hs hd

end SingleEnd

end Sys2Proof.Machine
end

section
/-! SUPPORT. What a READ delivers, and its reply (R12, R61, R62, R74, R76). -/

namespace Sys2Proof.Machine

open Sys2Proof

theorem deliver_length (key : Option KeyInstance) (zeros : List Range) (a : Nat) (cs : List Content) (n : Nat) :
    (deliver key zeros a cs n).1.length = cs.length := by
  induction cs generalizing a n with
  | nil => rfl
  | cons c cs ih =>
    rw [deliver]
    (repeat' split) <;> simp [ih]

/-- A sector delivers zeros in the zero set, else what its content gives, else a free value from `n` on. -/
theorem deliver_at (key : Option KeyInstance) (zeros : List Range) (a : Nat) (cs : List Content) (n j : Nat)
    {x : Content} (hx : cs[j]? = some x) : ∃ m, n ≤ m ∧ (deliver key zeros a cs n).1[j]? =
      some (if zeros.any (fun z => z.has (a + j)) then 0 else (deliverSector key x).getD (Config.unrelated m)) := by
  induction cs generalizing a n j with
  | nil => cases hx
  | cons c cs ih =>
    rw [deliver]
    cases j with
    | zero =>
      obtain rfl := Option.some.inj hx
      refine ⟨n, le_rfl, ?_⟩
      by_cases hz : zeros.any (fun z => z.has a) = true
      · rw [if_pos hz]
        exact congrArg some (if_pos hz).symm
      · rw [if_neg hz]
        refine Eq.trans ?_ (congrArg some (if_neg hz).symm)
        cases deliverSector key c <;> rfl
    | succ j =>
      have hx : cs[j]? = some x := by simpa using hx
      rw [show a + (j + 1) = a + 1 + j by omega]
      by_cases hz : zeros.any (fun z => z.has a) = true
      · rw [if_pos hz]
        exact ih (a + 1) n j hx
      · rw [if_neg hz]
        cases deliverSector key c with
        | some p => exact ih (a + 1) n j hx
        | none =>
          obtain ⟨m, hm, hat⟩ := ih (a + 1) (n + 1) j hx
          exact ⟨m, Nat.le_of_succ_le hm, hat⟩

theorem deliverSector_none {key : Option KeyInstance} {x : Content} (hp : ∀ p, key = none → x ≠ .plain p)
    (hc : ∀ i p, key = some i → x ≠ .cipher i p) : deliverSector key x = none := by
  cases key with
  | none => cases x <;> simp_all [deliverSector]
  | some i =>
    cases x with
    | cipher k p =>
      refine if_neg (fun h => hc i p rfl ?_)
      rw [h]
    | _ => rfl

theorem keyCheck_all {s : State} {k : Option KeyInstance} : k.all (keyCheck s) = true ↔
    ∀ i, k = some i → s.cipher.slots[i.slot].state = .opened ∧ s.cipher.slots[i.slot].gen = i.gen := by
  cases k <;> simp [keyCheck]

theorem deliverResult_fragment {c : Command} {id : Nat} (h : c.requester = .fragment id) (ok : Bool) (span : Nat)
    (data : List Content) (s : State) :
    deliverResult c ok span data s = fragResult id ok data (imageResult c ok s) := by
  simp [deliverResult, h]

end Sys2Proof.Machine

namespace Sys2Proof.Proofs

open Sys2Proof Sys2Proof.Machine

/-- Settles O30: the result goes to the one fragment, whose end completes the READ. -/
theorem readDelivery : Obligations.ReadDelivery := by
  intro s tag status span c t g htag hreq hkind hrange hlen hnames hmem hf hz hk hs hd hw hp hq he
  have hcar : ({ s with media.tags := s.media.tags.set tag .free } : State).carries t :=
    (State.carries.of_names hnames hmem).of_txns rfl
  have hcalm : ({ s with media.tags := s.media.tags.set tag .free } : State).calm := ⟨.inl hq, .inr he⟩
  have hres {ok : Bool} (hok : statusIsOk status = ok) : deliverResult c (statusIsOk status) span.toNat
      (mediaSectors .asStored c)
      { s with media.tags := s.media.tags.set tag .free } =
      fragResult g.id ok c.data { s with media.tags := s.media.tags.set tag .free } := by
    rw [deliverResult_fragment hreq, imageResult_other (by simp [hkind]), hok]
    rfl
  by_cases h0 : status = 0
  · have hread := (hres ((statusIsOk_iff status).mpr h0)).trans (fragResult_reads hf hcar hcalm hs hd hk hz c.data)
    by_cases hkey : ∀ i, g.key = some i → s.cipher.slots[i.slot].state = .opened ∧ s.cipher.slots[i.slot].gen = i.gen
    · rw [if_pos ((keyCheck_all (s := { s with media.tags := s.media.tags.set tag .free })).mpr hkey)] at hread
      refine ⟨_, exec_mediaCompletion htag hread hw (.inl hp), rfl, rfl, rfl, rfl, rfl, rfl, rfl, rfl, rfl, rfl, rfl,
          rfl,
        rfl, fun hne => absurd h0 hne, fun _ ⟨i, hi, hbad⟩ => ?_, fun _ _ =>
          ⟨_, rfl, (deliver_length ..).trans hlen, fun j x hx => ?_⟩⟩
      · exact absurd (hkey i hi) (by tauto)
      · obtain ⟨m, hm, hat⟩ := deliver_at g.key g.zeros g.range.lo c.data s.counters.unrelated j hx
        refine ⟨fun ⟨z, hzm, hzh⟩ => ?_, fun hzeros => ?_⟩
        · exact hat.trans (by rw [if_pos (List.any_eq_true.mpr ⟨z, hzm, hzh⟩)])
        · have hno : ¬(g.zeros.any (fun z => z.has (g.range.lo + j)) = true) := by simpa using hzeros
          rw [if_neg hno] at hat
          refine ⟨fun p hkn hxp => ?_, fun i p hks hxp => ?_, fun hpl hci => ⟨m, hm, ?_⟩⟩
          · exact hat.trans (by simp [hkn, hxp, deliverSector])
          · exact hat.trans (by simp [hks, hxp, deliverSector])
          · exact hat.trans (by rw [deliverSector_none hpl hci, Option.getD_none])
    · rw [if_neg (fun hall => hkey (keyCheck_all (s := { s with media.tags := s.media.tags.set tag .free }).mp hall))]
          at hread
      exact ⟨_, exec_mediaCompletion htag hread hw (.inl hp), rfl, rfl, rfl, rfl, rfl, rfl, rfl, rfl, rfl, rfl, rfl,
          rfl,
        rfl, fun hne => absurd h0 hne, fun _ _ => rfl, fun _ hall => absurd hall hkey⟩
  · have hfail := (hres (statusIsOk_of_ne h0)).trans (fragResult_fails hf hcar hcalm hs hd c.data)
    exact ⟨_, exec_mediaCompletion htag hfail hw (.inl hp), rfl, rfl, rfl, rfl, rfl, rfl, rfl, rfl, rfl, rfl, rfl, rfl,
      rfl, fun _ => rfl, fun h => absurd h h0, fun h => absurd h h0⟩

end Sys2Proof.Proofs
end

section
/-! SUPPORT. The media port: the lowest FREE tag, the commands outstanding, sizing, timeouts and grants (R4 to R6, R11
to R17). -/

namespace Sys2Proof.Machine

open Sys2Proof

/-! ### Tags (R4, R11, R17) -/

theorem lowestFree_of_lowestIs {s : State} {tag : Tag} (h : s.lowestIs tag) : s.lowestFree = some tag := by
  obtain ⟨hfree, hbelow⟩ := h
  refine List.find?_eq_some_iff_getElem.mpr ⟨by simp [hfree], tag.val, by simp, by simp, fun j hj => ?_⟩
  simpa using hbelow ⟨j, hj.trans tag.isLt⟩ hj

theorem lowestFree_none {s : State} (h : ∀ t : Tag, s.media.tags[t] ≠ .free) : s.lowestFree = none :=
  List.find?_eq_none.mpr (fun t _ => by simpa using h t)

/-- The SIZE command goes out on a tag. -/
def State.sized (s : State) (tag : Tag) : State :=
  { s with
    media := { s.media with
      sizeWaiting := false, tags := s.media.tags.set tag (.busy ⟨.size, .size, ⟨0, 0⟩, [], 2000⟩) }
    mediaOut := s.mediaOut ++ [.command tag .size ⟨0, 0⟩ []] }

theorem issueSize_lowest {s : State} {tag : Tag} (h : s.lowestIs tag) : issueSize s = s.sized tag := by
  rw [issueSize, lowestFree_of_lowestIs h]
  rfl

theorem lowestIs_zero {s : State} (h : s.media.tags = Vector.replicate 16 .free) : s.lowestIs 0 := by
  refine ⟨?_, fun t ht => absurd ht (Nat.not_lt_zero _)⟩
  rw [h]
  rfl

/-- Sizing starts on the lowest FREE tag. -/
theorem startSizing_lowest {s : State} {tag : Tag} (h : s.lowestIs tag) : startSizing s =
    { s with
      media := ⟨.sizing, none, s.media.tags.set tag (.busy ⟨.size, .size, ⟨0, 0⟩, [], 2000⟩), s.media.retired, false⟩
      mediaOut := s.mediaOut ++ [.command tag .size ⟨0, 0⟩ []] } :=
  issueSize_lowest (s := { s with media.state := .sizing, media.capacity := none }) h

/-- Sizing starts with every tag FREE. -/
theorem startSizing_freed {s : State} (h : s.media.tags = Vector.replicate 16 .free) : startSizing s =
    { s with
      media := ⟨.sizing, none, (Vector.replicate 16 .free).set 0 (.busy ⟨.size, .size, ⟨0, 0⟩, [], 2000⟩),
        s.media.retired, false⟩
      mediaOut := s.mediaOut ++ [.command 0 .size ⟨0, 0⟩ []] } := by
  rw [startSizing_lowest (lowestIs_zero h), h]
  rfl

theorem busyCommands_eq (tags : Vector MediaTag 16) : busyCommands tags =
    (List.finRange 16).filterMap (fun i => match tags[i] with | .busy c => some c | _ => none) := by
  have hlist : tags.toList = (List.finRange 16).map (fun i => tags[i]) := by
    apply List.ext_getElem <;> simp
  rw [busyCommands, hlist, List.filterMap_map]
  rfl

theorem busyCommands_none {tags : Vector MediaTag 16} (h : ∀ (t : Tag) (c : Command), tags[t] ≠ .busy c) :
    busyCommands tags = [] := by
  rw [busyCommands_eq]
  refine List.filterMap_eq_nil_iff.mpr (fun i _ => ?_)
  cases hi : tags[i] with
  | busy c => exact absurd hi (h i c)
  | _ => rfl

/-- A list of which one element alone is picked. -/
theorem filterMap_one {α β : Type} {f : α → Option β} {l : List α} (hl : l.Nodup) {a : α} (ha : a ∈ l) {b : β}
    (hb : f a = some b) (hne : ∀ x ∈ l, x ≠ a → f x = none) : l.filterMap f = [b] := by
  induction l with
  | nil => exact absurd ha List.not_mem_nil
  | cons x l ih =>
    obtain ⟨hx, hl⟩ := List.nodup_cons.mp hl
    rcases List.mem_cons.mp ha with rfl | ha
    · rw [List.filterMap_cons_some hb, List.filterMap_eq_nil_iff.mpr]
      exact fun y hy => hne y (List.mem_cons_of_mem _ hy) (fun hya => hx (hya ▸ hy))
    · rw [List.filterMap_cons_none (hne x List.mem_cons_self (fun hxa => hx (hxa ▸ ha)))]
      exact ih hl ha (fun y hy => hne y (List.mem_cons_of_mem _ hy))

theorem busyCommands_one {tags : Vector MediaTag 16} {tag : Tag} {c : Command} (h : tags[tag] = .busy c)
    (hne : ∀ (i : Tag) (d : Command), i ≠ tag → tags[i] ≠ .busy d) : busyCommands tags = [c] := by
  rw [busyCommands_eq]
  refine filterMap_one (List.nodup_finRange 16) (List.mem_finRange tag) (by rw [h]) (fun i _ hi => ?_)
  cases hbusy : tags[i] with
  | busy d => exact absurd hbusy (hne i d hi)
  | _ => rfl

theorem mem_busyCommands {tags : Vector MediaTag 16} {c : Command} (h : c ∈ busyCommands tags) :
    ∃ t : Tag, tags[t] = .busy c := by
  rw [busyCommands_eq] at h
  obtain ⟨i, -, hi⟩ := List.mem_filterMap.mp h
  cases hbusy : tags[i] with
  | busy d => exact ⟨i, by rw [hbusy] at hi; rw [hbusy, Option.some.inj hi]⟩
  | _ => rw [hbusy] at hi; cases hi

/-! ### Results (R12, R15) -/

/-- The image alone follows from the end of a command. -/
theorem imageResult_flash (c : Command) (ok : Bool) (s : State) : ∃ l, imageResult c ok s = { s with flash := l } := by
  unfold imageResult
  split
  · exact ⟨_, rfl⟩
  · exact ⟨s.flash, rfl⟩

/-- A result that is not that of SIZE leaves the media port alone. -/
theorem deliverResult_media {c : Command} (h : c.requester ≠ .size) (ok : Bool) (span : Nat) (data : List Content)
    (s : State) : (deliverResult c ok span data s).media = s.media ∧
      (deliverResult c ok span data s).mediaOut = s.mediaOut := by
  unfold deliverResult
  cases hr : c.requester with
  | size => exact absurd hr h
  | _ => simp

theorem failAll_media {l : List Command} (h : ∀ c ∈ l, c.requester ≠ .size) (s : State) :
    (failAll l s).media = s.media ∧ (failAll l s).mediaOut = s.mediaOut := by
  induction l generalizing s with
  | nil => exact ⟨rfl, rfl⟩
  | cons c l ih =>
    obtain ⟨hmedia, hout⟩ := deliverResult_media (h c List.mem_cons_self) false 0 [] s
    obtain ⟨hmedia', hout'⟩ := ih (fun d hd => h d (List.mem_cons_of_mem _ hd)) (deliverResult c false 0 [] s)
    exact ⟨hmedia'.trans hmedia, hout'.trans hout⟩

theorem deliverResult_chunk {c : Command} {n : Nat} (h : c.requester = .chunk n) (ok : Bool) (span : Nat)
    (data : List Content) (s : State) :
    deliverResult c ok span data s = chunkResult n ok (imageResult c ok s) := by
  simp [deliverResult, h]

theorem deliverResult_size {c : Command} (h : c.requester = .size) (hk : c.kind ≠ .write) (ok : Bool) (span : Nat)
    (data : List Content) (s : State) : deliverResult c ok span data s = sizeResult ok span s := by
  unfold deliverResult
  rw [imageResult_other hk]
  simp [h]

/-- The FAIL of the one fragment of a transaction, the image apart. -/
theorem deliverResult_fails {s : State} {c : Command} {t : Txn} {g : Frag} (hr : c.requester = .fragment g.id)
    (h : s.carries t) (hf : t.frags = [g]) (hc : s.calm) (hs : t.status = .good) (hd : t.dropped = false) (span : Nat)
    (data : List Content) : ∃ l, deliverResult c false span data s =
      endReply t.tag .mediaError none [] (lowerCounts g (removeTxn t.id { s with flash := l })) := by
  obtain ⟨l, hl⟩ := imageResult_flash c false s
  refine ⟨l, ?_⟩
  rw [deliverResult_fragment hr, hl]
  refine fragResult_fails hf ?_ ?_ hs hd data
  · exact h.of_txns rfl
  · exact hc.of_ground rfl

/-- A result of the chunk in flight. -/
theorem chunkResult_inFlight {s : State} {x : Sweep} {n : Nat} {b : Bool} (hx : s.erase.sweep = some x)
    (hk : x.chunk = some ⟨n, b⟩) (ok : Bool) :
    chunkResult n ok s = if ok then chunkOk x s else chunkFail x ⟨n, b⟩ s := by
  simp [chunkResult, hx, hk]

theorem setSweep_eq {s : State} {x : Sweep} (hx : s.erase.sweep = some x) (f : Sweep → Sweep) :
    setSweep f s = { s with erase.sweep := some (f x) } := by
  simp [setSweep, hx]

/-- The FAIL of a chunk that has retries left (R95). -/
theorem chunkFail_retries {s : State} {x : Sweep} {k : Chunk} (hx : s.erase.sweep = some x) (hd : s.ctl.drive ≠ .fault)
    (hp : x.phase = .running) (hr : x.retry < 3) : chunkFail x k s = { s with
      erase.sweep := some { x with retry := x.retry + 1, chunk := some { k with onTag := false } } } := by
  rw [chunkFail, if_neg hd, if_neg (by simp [hp]), if_pos hr]
  exact setSweep_eq hx _

theorem abortTest_calm {s : State} (hd : s.cipher.test.state ≠ .draining) (hr : s.cipher.test.state ≠ .running) :
    abortTest s = s := if_neg (by rw [testBusy_false hd hr]; exact Bool.false_ne_true)

/-- A transaction stays admitted as another one goes. -/
theorem State.carries.remove {s : State} {y : Txn} (h : s.carries y) {id : Nat} (hne : y.id ≠ id) :
    (removeTxn id s).carries y := by
  obtain ⟨hmem, halone, howns, hnodup⟩ := h
  exact ⟨List.mem_filter.mpr ⟨hmem, by simpa using hne⟩, fun x hx => halone x (List.mem_filter.mp hx).1,
    fun x hx => howns x (List.mem_filter.mp hx).1, hnodup⟩

/-! ### TAG_TIMEOUT (R13, R15) -/

/-- The state as a tag becomes RETIRED. -/
def State.retiring (s : State) (tag : Tag) : State :=
  { s with media.tags := s.media.tags.set tag .retired, media.retired := s.media.retired + 1 }

theorem busy_of_retiring {s : State} {tag i : Tag} {c : Command} (h : (s.retiring tag).media.tags[i] = .busy c) :
    i ≠ tag ∧ s.media.tags[i] = .busy c := by
  have h : (s.media.tags.set tag .retired)[i] = .busy c := h
  rw [Fin.getElem_fin, Vector.getElem_set] at h
  split_ifs at h with hi
  exact ⟨fun hit => hi (congrArg Fin.val hit.symm), h⟩

theorem exec_tagTimeout {s : State} {tag : Tag} {c : Command} (h : s.media.tags[tag] = .busy c) :
    exec (.tagTimeout tag) s = .next (
      if 8 ≤ (deliverResult c false 0 [] (s.retiring tag)).media.retired then
        serveSize (mediaLinkReset (deliverResult c false 0 [] (s.retiring tag)))
      else deliverResult c false 0 [] (s.retiring tag)) := by
  simp only [exec, execTagTimeout, h]
  rfl

/-! ### MEDIA_READY (R4) -/

/-- The state as a restart begins: every tag FREE, no SIZE waiting. -/
def State.freed (s : State) : State := { freeTags s with media.sizeWaiting := false }

/-- A restart: FAIL for each command outstanding, but for a SIZE; the test ends; SIZE goes out. -/
theorem exec_mediaReady_restart {s : State} (hl : s.front.link = .attached) (hm : s.media.state ≠ .notReady) :
    exec .mediaReady s = .next (startSizing (abortTest (failAll
      ((busyCommands s.media.tags).filter (fun c => c.requester != .size)) s.freed))) := by
  simp only [exec, execMediaReady, hl, hm, ne_eq, not_true_eq_false, ↓reduceIte]
  rfl

/-! ### SIZE (R5, R6, R170) -/

theorem completeTxn_issueQ (id : Nat) (s : State) : (completeTxn id s).filter.issueQ = s.filter.issueQ := by
  unfold completeTxn
  (repeat' split) <;> rfl

/-- FAULT changes nothing of the filter, before the waits and the HOLD pieces, but the quiesce. -/
theorem faulted_filter (s : State) (c : FaultCause) : ∃ q, (s.faulted c).filter = { s.filter with quiesce := q } := by
  have habort (t : State) : ∃ q, (abortTest t).filter = { t.filter with quiesce := q } := by
    unfold abortTest
    split <;> exact ⟨_, rfl⟩
  have hend (t : State) : ∃ q, (endApply t).filter = { t.filter with quiesce := q } := by
    unfold endApply
    split <;> exact ⟨_, rfl⟩
  unfold State.faulted
  generalize hb : endCollection (setDrive .fault _) = b
  have hsame : b.filter = s.filter := by
    rw [← hb]
    simp
  obtain ⟨q, hq⟩ := habort (endApply b)
  obtain ⟨p, hp⟩ := hend b
  exact ⟨q, by rw [hq, hp, hsame]⟩

theorem faultWaits_issueQ (s : State) : (faultWaits s).filter.issueQ = s.filter.issueQ :=
  foldl_keeps (fun s : State => s.filter.issueQ) _ (fun s id => completeTxn_issueQ id (setTxn id _ s)) _ s

/-- Entry into FAULT without a sweep. -/
theorem enterFault_without_sweep {s : State} (h : s.ctl.drive ≠ .fault) (c : FaultCause) (hx : s.erase.sweep = none) :
    enterFault c s = faultWaits (s.faulted c) := by
  rw [enterFault_eq h, releaseIdleHolds]
  simp [State.faulted, hx]

theorem failIssueQueue_empty {s : State} (h : s.filter.issueQ = []) : failIssueQueue s = s := by
  rw [failIssueQueue, h, List.foldl_nil, ← h]

theorem sweepAtReady_without_sweep {s : State} (hx : s.erase.sweep = none) : sweepAtReady s = s := by
  have hnone : s.sweeping = none := by
    unfold State.sweeping
    rw [hx, ite_self]
  rw [sweepAtReady, hnone]

/-! ### SLOT_GRANT (R17) -/

theorem exec_slotGrant {s : State} {tag : Tag} (hl : s.front.link = .attached) (hm : s.media.state = .ready)
    (h : s.lowestIs tag) : exec .slotGrant s = .next (grantTag tag s) := by
  simp only [exec, execSlotGrant, if_pos (And.intro hl hm), lowestFree_of_lowestIs h]

theorem sweeping_of_chunkReady {s : State} (h : s.chunkReady = true) {x : Sweep} (hx : s.erase.sweep = some x) :
    s.sweeping = some x := by
  unfold State.chunkReady at h
  cases hs : s.sweeping with
  | none => rw [hs] at h; cases h
  | some y =>
    unfold State.sweeping at hs
    split_ifs at hs
    rw [← hs, hx]

theorem chunkWins_iff {s : State} : s.chunkWins = true ↔
    s.chunkReady = true ∧ (s.filter.issueQ = [] ∨ s.store.effective.pace ≤ s.erase.passedOver) := by
  simp [State.chunkWins]

theorem grantTag_test {s : State} {k : Kind} (h : s.cipher.test.waiting = some k) (tag : Tag) :
    grantTag tag s = grantTest tag k s := by
  simp [grantTag, h]

theorem grantTag_chunk {s : State} {x : Sweep} (ht : s.cipher.test.waiting = none) (hr : s.chunkReady = true)
    (hq : s.filter.issueQ = [] ∨ s.store.effective.pace ≤ s.erase.passedOver) (hx : s.erase.sweep = some x)
        (tag : Tag) :
    grantTag tag s = grantChunk tag x s := by
  simp [grantTag, ht, chunkWins_iff.mpr ⟨hr, hq⟩, sweeping_of_chunkReady hr hx]

theorem grantTag_head {s : State} {id : Nat} {rest : List Nat} (ht : s.cipher.test.waiting = none)
    (hr : s.chunkReady = false ∨ s.erase.passedOver < s.store.effective.pace) (hq : s.filter.issueQ = id :: rest)
    (tag : Tag) : grantTag tag s = grantHead tag id rest s := by
  have hloses : s.chunkWins = false := by
    rw [Bool.eq_false_iff, ne_eq, chunkWins_iff, hq]
    rintro ⟨hready, hnil | hpace⟩
    · cases hnil
    · rcases hr with hr | hr
      · rw [hr] at hready; cases hready
      · exact absurd hpace (Nat.not_le.mpr hr)
  simp [grantTag, ht, hloses, hq]

end Sys2Proof.Machine

namespace Sys2Proof.Proofs

open Sys2Proof Sys2Proof.Machine

/-- Settles O27: sizing starts on the lowest FREE tag, a restart failing the one command outstanding before it. -/
theorem mediaReadySizes : Obligations.MediaReadySizes := by
  refine ⟨fun s => ⟨fun hl => ?_, fun tag hl hm hlow => ?_, fun hl hm hbusy hdr hru => ?_⟩, ?_⟩
  · simp [exec, execMediaReady, hl]
  · simp only [exec, execMediaReady, hl, hm, ne_eq, not_true_eq_false, ↓reduceIte]
    rw [startSizing_lowest hlow]
  · rw [exec_mediaReady_restart hl hm, busyCommands_none hbusy, List.filter_nil]
    refine congrArg Host.Outcome.next ?_
    rw [show failAll [] s.freed = s.freed from rfl, abortTest_calm (s := s.freed) hdr hru,
      startSizing_freed (s := s.freed) rfl]
    rfl
  · intro s tag c hl hm htag hother hdr hru hq he
    generalize hv : failAll ((busyCommands s.media.tags).filter (fun c => c.requester != .size)) s.freed = v
    have hmedia : v.media = ⟨s.media.state, s.media.capacity, Vector.replicate 16 .free, 0, false⟩ ∧
        v.mediaOut = s.mediaOut := by
      rw [← hv]
      exact failAll_media (fun d hd => by simpa using (List.mem_filter.mp hd).2) _
    have hone {d : Command} (hd : c = d) (hne : d.requester ≠ .size) :
        v = deliverResult d false 0 [] s.freed := by
      rw [← hv, busyCommands_one htag hother, hd, List.filter_singleton, bne_iff_ne.mpr hne]
      rfl
    have hu : (startSizing (abortTest v)).media =
        ⟨.sizing, none, (Vector.replicate 16 .free).set 0 (.busy ⟨.size, .size, ⟨0, 0⟩, [], 2000⟩), 0, false⟩ ∧
        (startSizing (abortTest v)).mediaOut = s.mediaOut ++ [.command 0 .size ⟨0, 0⟩ []] := by
      rw [startSizing_freed (by simp [hmedia.1])]
      simp [hmedia.1, hmedia.2]
    refine ⟨startSizing (abortTest v), (exec_mediaReady_restart hl hm).trans (by rw [hv]), hu.1, hu.2,
      fun t g hreq hnames hmem hf hs hd => ?_, fun x n hreq hx hk hp hr hdrive => ?_⟩
    · obtain ⟨l, hfail⟩ := deliverResult_fails (s := s.freed) hreq
        ((State.carries.of_names hnames hmem).of_txns rfl) hf ⟨.inl hq, .inr he⟩ hs hd 0 []
      rw [hone rfl (by simp [hreq]), hfail]
      generalize hw : endReply t.tag .mediaError none [] (lowerCounts g (removeTxn t.id { s.freed with flash := l })) =
          w
      rw [abortTest_calm (s := w) (by subst hw; exact hdr) (by subst hw; exact hru),
        startSizing_freed (s := w) (by subst hw; rfl), ← hw]
      exact ⟨rfl, rfl, rfl, rfl⟩
    · obtain ⟨l, hl⟩ := imageResult_flash c false s.freed
      have hfail : v = { s.freed with
          flash := l
          erase.sweep := some { x with retry := x.retry + 1, chunk := some ⟨n, false⟩ } } := by
        rw [hone rfl (by simp [hreq]), deliverResult_chunk hreq, hl]
        refine (chunkResult_inFlight ?_ hk false).trans ((chunkFail_retries ?_ ?_ hp hr).trans rfl)
        exacts [hx, hx, hdrive]
      rw [abortTest_calm (s := v) (by subst hfail; exact hdr) (by subst hfail; exact hru),
        startSizing_freed (s := v) (by subst hfail; rfl), hfail]
      exact ⟨rfl, rfl, rfl⟩

/-- Settles O32: a timeout retires the tag, and the eighth one fails what is outstanding and frees every tag. -/
theorem tagsRetireAndReturn : Obligations.TagsRetireAndReturn := by
  refine ⟨fun s tag status span data => ⟨fun h => ?_, fun h hw => ?_⟩, fun s tag => ⟨fun h => ?_,
    fun c htag hsize hw => ?_⟩, ?_⟩
  · simp only [exec, execMediaCompletion, h]
  · simp only [exec, execMediaCompletion, h]
    exact congrArg _ (serveSize_idle (s := { s with
      media := { s.media with tags := s.media.tags.set tag .free, retired := s.media.retired - 1 } }) hw)
  · simp only [exec, execTagTimeout]
  · obtain ⟨hmedia, hout⟩ := deliverResult_media (hsize tag c htag) false 0 [] (s.retiring tag)
    refine ⟨_, exec_tagTimeout htag, ?_⟩
    generalize deliverResult c false 0 [] (s.retiring tag) = v at hmedia hout
    have hretired : v.media.retired = s.media.retired + 1 := by rw [hmedia]; rfl
    have hports : ∀ d ∈ busyCommands v.media.tags, d.requester ≠ .size := by
      intro d hd
      obtain ⟨i, hi⟩ := mem_busyCommands hd
      rw [hmedia] at hi
      exact hsize i d (busy_of_retiring hi).2
    obtain ⟨hreset, hsignal⟩ := failAll_media hports { freeTags v with mediaOut := v.mediaOut ++ [.linkReset] }
    have hidle : serveSize (mediaLinkReset v) = mediaLinkReset v := by
      refine serveSize_idle ?_
      rw [mediaLinkReset, hreset]
      simpa [freeTags, hmedia, State.retiring] using hw
    refine ⟨?_, ?_, fun h => ?_, fun h => ?_⟩
    · split_ifs
      · rw [hidle, mediaLinkReset, hreset]
        simp [freeTags, hmedia, State.retiring]
      · rw [hmedia]
        rfl
    · split_ifs
      · rw [hidle, mediaLinkReset, hreset]
        simp [freeTags, hmedia, State.retiring]
      · rw [hmedia]
        rfl
    · rw [if_neg (by omega), hmedia, hout]
      exact ⟨rfl, rfl, rfl⟩
    · rw [if_pos (by omega), hidle, mediaLinkReset, hreset, hsignal, hout]
      exact ⟨rfl, rfl, rfl⟩
  · intro s tag other c d t y g h hne htag hother hnone hw hret hq he hcr hdr hnames ht hy hf hfy hst hsy hdt hdy hid
    have hcalm : (s.retiring tag).calm := ⟨.inl hq, .inr he⟩
    obtain ⟨l, hfirst⟩ := deliverResult_fails (s := s.retiring tag) hcr
        ((State.carries.of_names hnames ht).of_txns rfl) hf
      hcalm hst hdt 0 []
    refine ⟨_, exec_tagTimeout htag, ?_⟩
    generalize deliverResult c false 0 [] (s.retiring tag) = v at hfirst
    have hcary : v.carries y := by
      rw [hfirst]
      exact ((State.carries.of_names hnames hy).remove (Ne.symm hid)).of_txns rfl
    have hone : busyCommands v.media.tags = [d] := by
      have htags : v.media.tags = (s.retiring tag).media.tags := by rw [hfirst]; rfl
      rw [htags]
      refine busyCommands_one (tag := other) ?_ (fun i b hi hb => ?_)
      · rw [← hother]
        exact Vector.getElem_set_ne tag.isLt other.isLt (fun hv => hne (Fin.ext hv))
      · obtain ⟨hit, hb⟩ := busy_of_retiring hb
        exact hnone i b hit hi hb
    obtain ⟨k, hsecond⟩ := deliverResult_fails (s := { freeTags v with mediaOut := v.mediaOut ++ [.linkReset] }) hdr
      (hcary.of_txns rfl) hfy (hcalm.of_ground (by rw [hfirst]; rfl)) hsy hdy 0 []
    have hreset : mediaLinkReset v =
        endReply y.tag .mediaError none [] (lowerCounts h (removeTxn y.id { freeTags v with
          mediaOut := v.mediaOut ++ [.linkReset], flash := k })) := by
      rw [mediaLinkReset, hone]
      exact hsecond
    have hretired : 8 ≤ v.media.retired := by
      have hv : v.media.retired = s.media.retired + 1 := by rw [hfirst]; rfl
      omega
    have hwait : v.media.sizeWaiting = false := by rw [hfirst]; exact hw
    rw [if_pos hretired, hreset, serveSize_idle (by exact hwait), hfirst]
    refine ⟨?_, rfl, ?_, rfl, rfl, rfl⟩
    · exact (List.append_assoc ..).trans rfl
    · refine (List.filter_filter ..).trans (List.filter_congr (fun x _ => ?_))
      exact Bool.and_comm ..

/-- Settles O29: the completion of SIZE by its status and the capacity. -/
theorem sizeCompletion : Obligations.SizeCompletion := by
  intro s tag status span data c htag hreq hkind hw hx hq hp
  have hres {ok : Bool} (hok : statusIsOk status = ok) :
      deliverResult c (statusIsOk status) span.toNat (mediaSectors data c)
        { s with media.tags := s.media.tags.set tag .free } =
      sizeResult ok span.toNat { s with media.tags := s.media.tags.set tag .free } := by
    rw [deliverResult_size hreq (by simp [hkind]), hok]
  refine ⟨fun h0 hcap => ?_, fun h0 hcap hd => ?_, fun low h0 hlow => ?_⟩
  · refine exec_mediaCompletion htag ((hres ((statusIsOk_iff status).mpr h0)).trans ?_) hw (.inl hp)
    rw [sizeResult, Bool.not_true, if_neg Bool.false_ne_true, if_pos hcap]
    exact sweepAtReady_without_sweep (s := { s with media := { s.media with
      state := .ready, capacity := some span.toNat, tags := s.media.tags.set tag .free } }) hx
  · generalize hb : ({ s with media := { s.media with
      state := .notReady, capacity := none, tags := s.media.tags.set tag .free } } : State) = b
    have hdrive : b.ctl.drive ≠ .fault := by rw [← hb]; exact hd
    have hfault := enterFault_without_sweep hdrive .mediaSmall (by rw [← hb]; exact hx)
    have hqueue : (enterFault .mediaSmall b).filter.issueQ = [] := by
      obtain ⟨q, hf⟩ := faulted_filter b .mediaSmall
      rw [hfault, faultWaits_issueQ, hf, ← hb]
      exact hq
    have hsmall : deliverResult c (statusIsOk status) span.toNat (mediaSectors data c)
        { s with media.tags := s.media.tags.set tag .free } = enterFault .mediaSmall b := by
      rw [hres ((statusIsOk_iff status).mpr h0), sizeResult, Bool.not_true, if_neg Bool.false_ne_true,
        if_neg (Nat.not_le.mpr hcap)]
      exact (congrArg (fun t => failIssueQueue (enterFault .mediaSmall t)) hb).trans (failIssueQueue_empty hqueue)
    refine ⟨_, exec_mediaCompletion htag hsmall (by simp [← hb, hw]) (.inl (by simp [← hb, hp])), ?_⟩
    have hslots : (enterFault .mediaSmall b).cipher.slots = (closeSlots b).cipher.slots := by
      rw [hfault, (faultWaits_frame _).2.2.1, faulted_slots]
    have hregions : (enterFault .mediaSmall b).regions = (endApply b).regions := by
      rw [hfault, (faultWaits_frame _).2.1, faulted_regions]
    have hstore : (enterFault .mediaSmall b).store = b.store := by
      rw [hfault]
      simp [State.faulted]
    obtain ⟨hselection, hbuffer, hphase, htimer⟩ := enterFault_keypad hdrive .mediaSmall
    refine ⟨by simp [← hb], by rw [enterFault_ctl hdrive, ← hb], hselection, hbuffer, hphase, htimer, fun k => ?_,
      ?_, ?_, ?_, ?_, ?_, by simp [← hb], ?_, by simp [← hb]⟩
    · rw [hslots, closeSlots_slots, ← hb]
    · rw [enterFault_cred hdrive]
    · rw [enterFault_cred hdrive]
    · rw [enterFault_cred hdrive]
    · rw [hregions, (endApply_regions b).2]
    · rw [hstore, ← hb]
    · rw [hregions, (endApply_regions b).1, ← hb]
  · refine exec_mediaCompletion htag ((hres (statusIsOk_of_ne h0)).trans
      ((issueSize_lowest (s := { s with media.tags := s.media.tags.set tag .free }) hlow).trans ?_)) hw (.inl hp)
    rw [State.sized, ← hw]

/-- Settles O28: the winner of a grant, and the command that goes out to it. -/
theorem slotGrantChooses : Obligations.SlotGrantChooses := by
  refine ⟨fun s => ⟨fun h => ?_, fun tag hl hm hlow => ⟨fun ht => ?_, fun ht => ?_, fun ht => ⟨fun x w q hr hq hx hk hw
    he => ?_, fun id rest t g hr hq hfind => ?_⟩⟩⟩, fun s tag x n hl hm hlow ht hr hq hx hk => ?_⟩
  · refine congrArg Host.Outcome.next ?_
    split_ifs with hup
    · rcases h with h | h | h | ⟨ht, hr, hq⟩
      · exact absurd (hup.1.symm.trans h) (by simp)
      · exact absurd hup.2 h
      · rw [lowestFree_none h]
      · split
        · next tag _ => simp [grantTag, ht, hq, State.chunkWins, hr]
        · rfl
    · rfl
  · rw [exec_slotGrant hl hm hlow, grantTag_test ht]
    rfl
  · rw [exec_slotGrant hl hm hlow, grantTag_test ht]
    rfl
  · subst hw he
    rw [exec_slotGrant hl hm hlow, grantTag_chunk ht hr hq hx, grantChunk, formChunk, hk]
    rfl
  · refine ⟨_, exec_slotGrant hl hm hlow, ?_⟩
    rw [grantTag_head ht hr hq, grantHead, hfind]
    refine ⟨rfl, rfl, rfl, rfl, rfl, fun hd => if_neg hd, fun hd a => ?_, rfl, rfl, rfl, rfl, rfl, rfl, rfl, rfl, rfl,
      rfl⟩
    exact (congrArg (fun l => flashRead l a) (if_pos hd)).trans (flashRead_forget _ _ _)
  · rw [exec_slotGrant hl hm hlow, grantTag_chunk ht hr hq hx, grantChunk, formChunk, hk]
    rfl

end Sys2Proof.Proofs
end

section
/-! SUPPORT. What a WRITE's end does to the image, and a chunk's result to the sweep (R57, R73, R94 to R100). -/

namespace Sys2Proof.Machine

open Sys2Proof

/-! ### The image (R73) -/

theorem flashRead_writeAll (xs : List Content) (b a : Nat) {l : List (Nat × Content)} (hl : flashWf l = true) :
    flashRead (flashWriteAll b xs l) a =
      if b ≤ a ∧ a < b + xs.length then xs.getD (a - b) .unknown else flashRead l a := by
  induction xs generalizing b l with
  | nil => rw [if_neg (by simp)]; rfl
  | cons x xs ih =>
    rw [flashWriteAll, ih (b + 1) (flashWrite_wf b x hl), flashRead_write b a x hl, List.length_cons]
    by_cases hab : a = b
    · subst hab
      rw [if_neg (by omega), if_pos rfl, if_pos (by omega), Nat.sub_self]
      rfl
    · by_cases hin : b + 1 ≤ a ∧ a < b + 1 + xs.length
      · rw [if_pos hin, if_pos (by omega), show a - b = a - (b + 1) + 1 by omega]
        rfl
      · rw [if_neg hin, if_neg hab, if_neg (by omega)]

theorem deliverResult_flash (c : Command) (ok : Bool) (span : Nat) (data : List Content) (s : State) :
    (deliverResult c ok span data s).flash = (imageResult c ok s).flash := by
  unfold deliverResult
  cases c.requester <;> simp

/-- What the image holds once a WRITE that still counts for it has ended. -/
theorem flashRead_ended {s : State} {c : Command} (hs : s.imageInv) (hk : c.kind = .write)
    (hlen : c.data.length = c.range.len) (hkept : s.commandKept c = true) (ok : Bool) (span : Nat)
    (data : List Content) (a : Nat) : flashRead (deliverResult c ok span data s).flash a =
      if c.range.has a then (if ok then c.data.getD (a - c.range.lo) .unknown else .unknown)
      else flashRead s.flash a := by
  have hhas : c.range.has a = true ↔ c.range.lo ≤ a ∧ a < c.range.lo + c.data.length := by
    rw [hlen, Range.len, Range.has, Bool.and_eq_true, decide_eq_true_eq, decide_eq_true_eq]
    omega
  rw [deliverResult_flash, imageResult_write hk hkept]
  cases ok with
  | true =>
    refine (flashRead_writeAll c.data c.range.lo a hs).trans ?_
    by_cases h : c.range.lo ≤ a ∧ a < c.range.lo + c.data.length
    · rw [if_pos h, if_pos (hhas.mpr h), if_pos rfl]
    · rw [if_neg h, if_neg (fun hno => h (hhas.mp hno))]
  | false => exact flashRead_forget c.range a s.flash

/-- A FAIL leaves the retired count. -/
theorem deliverResult_fail_retired (c : Command) (span : Nat) (data : List Content) (s : State) :
    (deliverResult c false span data s).media.retired = s.media.retired := by
  have hissue (t : State) : (issueSize t).media.retired = t.media.retired := by
    unfold issueSize
    split <;> rfl
  unfold deliverResult
  cases c.requester with
  | size => exact (hissue _).trans (by simp)
  | _ => simp

/-! ### The chunk's result (R94 to R100) -/

/-- With no HOLD piece over it, nothing is released. -/
theorem releaseHolds_none {s : State} {n : Nat} (h : ∀ t ∈ s.filter.txns, ∀ g ∈ t.frags, g.kind ≠ .hold n) :
    releaseHolds n s = s := by
  have hids : s.filter.txns.flatMap (fun t => (t.frags.filter (fun g => g.kind == .hold n)).map Frag.id) = [] := by
    refine List.flatMap_eq_nil_iff.mpr (fun t ht => ?_)
    rw [List.map_eq_nil_iff, List.filter_eq_nil_iff]
    exact fun g hg => by simpa using h t ht g hg
  rw [releaseHolds, hids]
  rfl

section Chunk

variable {s : State} {x : Sweep} {n : Nat} (hx : s.erase.sweep = some x)

include hx

theorem beginEnding_eq (r : SweepResult) : beginEnding r s = requestCommit .sweep []
    { s with erase.sweep := some { x with phase := .ending, outcome := r } } := by
  rw [beginEnding, setSweep_eq hx]

theorem sweepDecide_finishes (hs : s.erase.stage = .sweeping) (hd : s.ctl.drive ≠ .fault) (hp : x.phase = .running)
    (hk : x.chunk = none) {l : Nat} (hl : s.sweepLimit x.pos = some l) (h : l ≤ stepOver x.keep x.q) :
    sweepDecide s = beginEnding .done s := by
  rw [sweepDecide, State.sweeping, if_pos hs, hx]
  dsimp only
  rw [hl]
  exact if_pos ⟨hd, hp, hk, h⟩

variable (hk : x.chunk = some ⟨n, true⟩) (hn : ∀ t ∈ s.filter.txns, ∀ g ∈ t.frags, g.kind ≠ .hold n)

include hk hn

theorem releaseChunkHolds_none : releaseChunkHolds s = s := by
  rw [releaseChunkHolds, hx, Option.bind_some, hk]
  exact releaseHolds_none hn

/-- The drop of a chunk over which no HOLD piece lies, and the end of its sweep. -/
theorem beginEnding_dropChunk (r : SweepResult) : beginEnding r (dropChunk (releaseChunkHolds s)) =
    requestCommit .sweep [] { s with
      erase.sweep := some { x with q := x.w, chunk := none, phase := .ending, outcome := r } } := by
  rw [releaseChunkHolds_none hx hk hn, dropChunk, setSweep_eq hx]
  exact beginEnding_eq (s := { s with erase.sweep := some { x with q := x.w, chunk := none } })
    (x := { x with q := x.w, chunk := none }) rfl r

theorem chunkFail_abandons (hd : s.ctl.drive ≠ .fault) (hp : x.phase = .running) (hr : 3 ≤ x.retry) :
    chunkFail x ⟨n, true⟩ s = requestCommit .sweep [] { s with
      erase.sweep := some { x with q := x.w, chunk := none, phase := .ending, outcome := .failed x.w } } := by
  rw [chunkFail, if_neg hd, if_neg (by simp [hp]), if_neg (Nat.not_lt.mpr hr)]
  exact beginEnding_dropChunk hx hk hn _

theorem chunkFail_cancelled (hd : s.ctl.drive ≠ .fault) (hp : x.phase = .cancelling) :
    chunkFail x ⟨n, true⟩ s = requestCommit .sweep [] { s with
      erase.sweep := some { x with q := x.w, chunk := none, phase := .ending, outcome := .cancelled } } := by
  rw [chunkFail, if_neg hd, if_pos hp]
  exact beginEnding_dropChunk hx hk hn _

/-- The state once the chunk's sectors are done, and their checkpoint asked for where it is due (R94). -/
def State.chunkDone (s : State) (x : Sweep) : State :=
  if 4096 ≤ x.q - x.c then
    requestCommit .sweep [] { s with erase.sweep := some { x with w := x.q, chunk := none, retry := 0 } }
  else { s with erase.sweep := some { x with w := x.q, chunk := none, retry := 0 } }

theorem chunkOk_eq (hd : s.ctl.drive ≠ .fault) : chunkOk x s =
    if x.phase = .cancelling then beginEnding .cancelled (s.chunkDone x) else sweepDecide (s.chunkDone x) := by
  unfold chunkOk
  rw [releaseChunkHolds_none hx hk hn]
  dsimp only
  rw [if_neg hd, setSweep_eq hx]
  rfl

end Chunk

theorem chunkDone_frame (s : State) (x : Sweep) :
    (s.chunkDone x).erase = { s.erase with sweep := some { x with w := x.q, chunk := none, retry := 0 } } ∧
    (s.chunkDone x).media = s.media ∧ (s.chunkDone x).ctl = s.ctl ∧ (s.chunkDone x).regions = s.regions ∧
    (s.chunkDone x).power = s.power := by
  unfold State.chunkDone
  split_ifs <;> simp

theorem sweepLimit_of {s t : State} (hm : t.media = s.media) (hr : t.regions = s.regions) (p : Pos) :
    t.sweepLimit p = s.sweepLimit p := by
  simp only [State.sweepLimit, State.uSpan, State.cEff, State.regionEnd, State.entryAt, hm, hr]

/-! ### The release of a HOLD piece (R57) -/

/-- The HOLD piece of the one transaction admitted is released, and joins the issue queue if all of it has been
pulled. -/
theorem releaseHolds_one {s : State} {t : Txn} {g : Frag} {n : Nat} (hs : s.filter.txns = [t]) (hf : t.frags = [g])
    (hk : g.kind = .hold n) (hw : g.state = .waiting) (hm : s.media.state = .ready) :
    (releaseHolds n s).filter.txns = [{ t with frags := [{ g with kind := .pass }] }] ∧
    (releaseHolds n s).filter.issueQ =
      if g.stored.length = g.range.len then s.filter.issueQ ++ [g.id] else s.filter.issueQ := by
  generalize hr : setFrag g.id (fun g => { g with kind := .pass }) s = r
  have htxns : r.filter.txns = [{ t with frags := [{ g with kind := .pass }] }] := by
    rw [← hr]
    simp [setFrag, hs, hf]
  have hqueue : r.filter.issueQ = s.filter.issueQ := by rw [← hr]; rfl
  have hmedia : r.media.state = .ready := by rw [← hr]; exact hm
  have hfind : r.findFrag g.id = some ({ t with frags := [{ g with kind := .pass }] }, { g with kind := .pass }) := by
    simp [State.findFrag, htxns]
  have hrelease : releaseHolds n s = joinIfPulled g.id r := by
    rw [releaseHolds, hs]
    simp [hf, hk, hr]
  have hjoin : joinIfPulled g.id r = if g.stored.length = g.range.len then
      { r with filter.issueQ := r.filter.issueQ ++ [g.id] } else r := by
    rw [joinIfPulled, hfind]
    simp [hw, Frag.pulled, joinIssue, hmedia]
  rw [hrelease, hjoin]
  split_ifs
  · exact ⟨htxns, congrArg (· ++ [g.id]) hqueue⟩
  · exact ⟨htxns, hqueue⟩

theorem chunkOk_filter (s : State) (x : Sweep) : (chunkOk x s).filter = (releaseChunkHolds s).filter := by
  unfold chunkOk
  dsimp only
  split_ifs <;> simp

end Sys2Proof.Machine

namespace Sys2Proof.Proofs

open Sys2Proof Sys2Proof.Machine

/-- Settles O31: the image by the end of the WRITE, the sweep by the chunk's result, and the HOLD piece released. -/
theorem writeOutcomeOnMedia : Obligations.WriteOutcomeOnMedia := by
  refine ⟨fun s tag c hs htag hk hlen hkept => ⟨fun status span data => ?_, fun hret => ?_⟩,
    fun s tag status span c x n htag hreq hk hx hkc hd hp hw hn t u y ht hy hu => ?_,
    fun s tag span c x n t g htag hreq hx hkc hp hw hm hs hf hk hg => ?_⟩
  · refine ⟨_, by simp only [exec, execMediaCompletion, htag]; rfl, fun a => ?_⟩
    rw [(standbyCheck_frame _).2.2.2.2.2.2.2.2.2.2.1, (serveSize_frame _).2.2.2.2.2.2.2.2.2.2.2.1]
    refine (flashRead_ended (s := { s with media.tags := s.media.tags.set tag .free }) hs hk hlen hkept _ _ _ a).trans
        ?_
    simp only [statusIsOk_iff]
  · refine ⟨_, exec_tagTimeout htag, fun a => ?_⟩
    rw [deliverResult_fail_retired, if_neg]
    · exact (flashRead_ended (s := s.retiring tag) hs hk hlen hkept _ _ _ a).trans (by simp [State.retiring])
    · simp only [State.retiring]
      omega
  · have hkept : ({ s with media.tags := s.media.tags.set tag .free } : State).commandKept c = true := by
      simp [State.commandKept, hreq]
    have htx : t.erase.sweep = some x := by rw [ht]; exact hx
    have htd : t.ctl.drive ≠ .fault := by rw [ht]; exact hd
    have htn : ∀ y ∈ t.filter.txns, ∀ g ∈ y.frags, g.kind ≠ .hold n := by rw [ht]; exact hn
    have hdone : u = t.chunkDone x := by rw [hu, hy]; rfl
    have hres {ok : Bool} (hok : statusIsOk status = ok) {v : State}
        (hv : (if ok then chunkOk x t else chunkFail x ⟨n, true⟩ t) = v) :
        exec (.mediaCompletion tag status span .asStored) s = .next v := by
      refine exec_mediaCompletion htag ?_ ?_ ?_
      · rw [deliverResult_chunk hreq, imageResult_write hk hkept, ← hv, ← chunkResult_inFlight htx hkc, hok, ht]
        have hstatus : (ok = true) = (status = 0) := propext (by rw [← hok, statusIsOk_iff])
        simp only [hstatus]
      · rw [← hv]
        split_ifs <;> simp [ht, hw]
      · rw [← hv]
        exact .inl (by split_ifs <;> simp [ht, hp])
    have hok := (statusIsOk_iff status).mpr
    obtain ⟨herase, hmedia, hctl, hregions, -⟩ := chunkDone_frame t x
    have hlimit : u.sweepLimit x.pos = s.sweepLimit x.pos := by
      rw [hdone, sweepLimit_of hmedia hregions, ht]
      rfl
    have hux : u.erase.sweep = some y := by rw [hdone, herase, hy]
    have hstage (h : s.erase.stage = .sweeping) : u.erase.stage = .sweeping := by
      rw [hdone, herase, ht]
      exact h
    have hud : u.ctl.drive ≠ .fault := by rw [hdone, hctl]; exact htd
    have hrun : chunkOk x t = if x.phase = .cancelling then beginEnding .cancelled u else sweepDecide u := by
      rw [hdone]
      exact chunkOk_eq htx hkc htn htd
    refine ⟨fun h0 hph hr => hres (statusIsOk_of_ne h0) (chunkFail_retries htx htd hph hr),
      fun h0 hph hr => hres (statusIsOk_of_ne h0) (chunkFail_abandons htx hkc htn htd hph hr),
      fun h0 hph => hres (statusIsOk_of_ne h0) (chunkFail_cancelled htx hkc htn htd hph),
      fun h0 hph hst hleft => hres (hok h0) (hrun.trans ?_), fun l h0 hph hst hl hle => hres (hok h0) (hrun.trans ?_),
      fun h0 hph => hres (hok h0) (hrun.trans ?_)⟩
    · rw [if_neg (by simp [hph])]
      exact sweepDecide_of_left hux (by rw [hy]; exact hlimit ▸ hleft)
    · rw [if_neg (by simp [hph]),
        sweepDecide_finishes hux (hstage hst) hud (by rw [hy]; exact hph) (by rw [hy]) (l := l)
          (by rw [hy]; exact hlimit.trans hl) (by rw [hy]; exact hle)]
      exact beginEnding_eq hux _
    · rw [if_pos hph]
      exact beginEnding_eq hux _
  · obtain ⟨l, hl⟩ := imageResult_flash c true { s with media.tags := s.media.tags.set tag .free }
    generalize hv : ({ s with media.tags := s.media.tags.set tag .free, flash := l } : State) = v at hl
    have hvx : v.erase.sweep = some x := by rw [← hv]; exact hx
    have hres : deliverResult c true span.toNat (mediaSectors .asStored c)
        { s with media.tags := s.media.tags.set tag .free } = chunkOk x v := by
      rw [deliverResult_chunk hreq, hl]
      exact chunkResult_inFlight hvx hkc true
    have hrelease : releaseChunkHolds v = releaseHolds n v := by
      rw [releaseChunkHolds, hvx, Option.bind_some, hkc]
    obtain ⟨htxns, hqueue⟩ := releaseHolds_one (s := v) (by rw [← hv]; exact hs) hf hk hg (by rw [← hv]; exact hm)
    refine ⟨_, exec_mediaCompletion htag hres (by simp [← hv, hw]) (.inl (by simp [← hv, hp])), ?_⟩
    rw [chunkOk_filter, hrelease, htxns, hqueue, ← hv]
    exact ⟨rfl, rfl⟩

end Sys2Proof.Proofs
end

section
/-! SUPPORT. The drops of DETACH and LINK_RESET (R16, R19, R20, R73). -/

namespace Sys2Proof.Machine

open Sys2Proof

/-! ### The lock trigger (R162, R163) -/

theorem lockDrive_ctl (s : State) : (lockDrive s).ctl =
    { s.ctl with drive := .locked, openProfile := none, window := none, inactivity := none } := by
  unfold lockDrive
  simp

theorem lockDrive_cipher (s : State) : (lockDrive s).cipher = (closeSlots s).cipher := by
  unfold lockDrive
  simp

theorem lockTrigger_test (s : State) : (lockTrigger s).cipher.test = s.cipher.test := by
  unfold lockTrigger
  split
  · rw [lockDrive_cipher]
    rfl
  · rfl

/-! ### The reports that follow a drop (R44, R64) -/

/-- The reports change nothing of the filter but the quiesce. -/
theorem notifyCounts_filter (s : State) : ∃ q, (notifyCounts s).filter = { s.filter with quiesce := q } := by
  have hdrain : ∃ q, (drainCheck s).filter = { s.filter with quiesce := q } := by
    rcases drainCheck_cases s with h | ⟨-, -, n, -, -, h⟩ | ⟨-, -, -, h⟩
    · exact ⟨_, by rw [h]⟩
    · exact ⟨s.filter.quiesce, by rw [h]; simp [swapTables]⟩
    · exact ⟨.none, by rw [h]; rfl⟩
  rw [notifyCounts, (headCheck_frame _).2.2.2.1]
  exact hdrain

theorem foldl_lowerCounts_total (l : List Frag) (s : State) :
    (l.foldl (fun s g => lowerCounts g s) s).filter.total = s.filter.total - l.length := by
  induction l generalizing s with
  | nil => rfl
  | cons g l ih => rw [List.foldl_cons, ih, List.length_cons, lowerCounts, Nat.sub_sub, Nat.add_comm]

/-! ### What LINK_RESET drops (R19, R73) -/

theorem drop_eq_some {t u : Txn} (h : t.drop = some u) :
    u.dropped = true ∧ u.frags ≠ [] ∧ ∀ g ∈ u.frags, g.state = .issued := by
  simp only [Txn.drop] at h
  split at h
  · cases h
  · next hne =>
    obtain rfl := Option.some.inj h
    exact ⟨rfl, by simpa using hne, fun g hg => by simpa using (List.mem_filter.mp hg).2⟩

/-- The pieces of a WRITE dropped now whose sectors become unknown (R73). -/
def Txn.issuedPieces (t : Txn) : List Frag :=
  if t.kind = .write ∧ t.dropped = false then t.frags.filter (fun g => g.state == .issued) else []

theorem mem_issuedPieces {t : Txn} {g : Frag} :
    g ∈ t.issuedPieces ↔ (t.kind = .write ∧ t.dropped = false) ∧ g ∈ t.frags ∧ g.state = .issued := by
  unfold Txn.issuedPieces
  split_ifs with h <;> simp [h]

theorem forgetIssued_eq (t : Txn) (l : List (Nat × Content)) :
    forgetIssued t l = t.issuedPieces.foldl (fun l g => flashForget g.range l) l := by
  unfold forgetIssued Txn.issuedPieces
  split_ifs <;> rfl

/-- The drop makes the sectors of those pieces unknown, in any order. -/
theorem foldl_forgetIssued (ts : List Txn) (l : List (Nat × Content)) :
    ts.foldl (fun l t => forgetIssued t l) l =
      (ts.flatMap Txn.issuedPieces).foldl (fun l g => flashForget g.range l) l := by
  induction ts generalizing l with
  | nil => rfl
  | cons t ts ih => rw [List.foldl_cons, ih, forgetIssued_eq, List.flatMap_cons, List.foldl_append]

theorem flashRead_forgetIssued_unknown {ts : List Txn} {t : Txn} (ht : t ∈ ts) {g : Frag} (hg : g ∈ t.issuedPieces)
    {a : Nat} (ha : g.range.has a = true) (l : List (Nat × Content)) :
    flashRead (ts.foldl (fun l t => forgetIssued t l) l) a = .unknown := by
  rw [foldl_forgetIssued]
  exact flashRead_foldl_forgotten (fun g : Frag => some g.range) (fun _ _ => rfl) (List.mem_flatMap.mpr ⟨t, ht, hg⟩) rfl
    ha l

theorem flashRead_forgetIssued_kept {ts : List Txn} {a : Nat}
    (h : ∀ t ∈ ts, ∀ g ∈ t.issuedPieces, g.range.has a = false) (l : List (Nat × Content)) :
    flashRead (ts.foldl (fun l t => forgetIssued t l) l) a = flashRead l a := by
  rw [foldl_forgetIssued]
  refine flashRead_foldl_kept (fun g : Frag => some g.range) (fun _ _ => rfl) (fun g hg r hr => ?_) l
  obtain ⟨t, ht, hg⟩ := List.mem_flatMap.mp hg
  obtain rfl := Option.some.inj hr
  exact h t ht g hg

theorem dropFront_flash (s : State) :
    (dropFront s).flash = s.filter.txns.foldl (fun l x => forgetIssued x l) s.flash := by
  have hfold : ((waitingFrags s.filter.txns).foldl (fun s g => lowerCounts g s) s).flash = s.flash :=
    foldl_keeps State.flash (fun s g => lowerCounts g s) (fun _ _ => rfl) _ s
  exact congrArg (fun f => s.filter.txns.foldl (fun l x => forgetIssued x l) f) hfold

theorem dropFront_window (s : State) : (dropFront s).window = { s.window with response := ⟨0, 0, .none, []⟩ } := by
  have hfold : ((waitingFrags s.filter.txns).foldl (fun s g => lowerCounts g s) s).window = s.window :=
    foldl_keeps State.window (fun s g => lowerCounts g s) (fun _ _ => rfl) _ s
  exact congrArg (fun w : Window => { w with response := ⟨0, 0, .none, []⟩ }) hfold

theorem dropFront_front (s : State) : (dropFront s).front = ⟨s.front.link, Vector.replicate 16 .free⟩ := by
  have hfold : ((waitingFrags s.filter.txns).foldl (fun s g => lowerCounts g s) s).front = s.front :=
    foldl_keeps State.front (fun s g => lowerCounts g s) (fun _ _ => rfl) _ s
  exact congrArg (fun f : FrontPort => { f with tags := Vector.replicate 16 .free }) hfold

/-! ### DETACH (R16, R20, R109) -/

/-- The chunk in flight is abandoned at w; the rest of the sweep stays, but for the end of one being cancelled. -/
theorem detachSweep_sweep {s : State} {x : Sweep} (hx : s.erase.sweep = some x) :
    ∃ y, (detachSweep s).erase.sweep = some y ∧ y.w = x.w ∧ y.q = x.w ∧ y.c = x.c ∧ y.chunk = none ∧
      y.keep = x.keep := by
  rw [detachSweep, hx]
  dsimp only
  rw [setSweep_eq hx]
  split_ifs
  · refine ⟨{ x with q := x.w, chunk := none, retry := 0, phase := .ending, outcome := .cancelled }, ?_, rfl, rfl, rfl,
      rfl, rfl⟩
    simp [beginEnding, setSweep]
  · exact ⟨_, rfl, rfl, rfl, rfl, rfl, rfl⟩

theorem detachSweep_queue (s : State) : (detachSweep s).erase.queue = s.erase.queue := by
  unfold detachSweep
  split
  · rfl
  · dsimp only
    split_ifs
    · simp [beginEnding, setSweep]
    · rfl

/-- The state as DETACH comes to its lock. -/
def State.unlinked (s : State) : State :=
  { abortTest (detachSweep (mediaDown (dropAll s))) with
    front.link := .detached, power.source := .battery, ctl.attached := false }

theorem detachTaken_eq {s : State} (hq : s.filter.quiesce = .none) (he : s.erase.stage ≠ .waitCount) :
    detachTaken s = standbyCheck (selectBackground (lockTrigger s.unlinked)) := by
  have hcalm : notifyCounts (mediaDown (dropAll s)) = mediaDown (dropAll s) :=
    notifyCounts_calm (s := mediaDown (dropAll s)) ⟨.inl hq, .inr he⟩
  rw [detachTaken, hcalm]
  rfl

theorem unlinked_filter {s : State} (hq : s.filter.quiesce = .none) :
    s.unlinked.filter = ⟨[], [], [], 0, Vector.replicate 16 0, .none⟩ := by
  have habort {t : State} (ht : t.filter.quiesce = .none) : (abortTest t).filter = t.filter := by
    unfold abortTest
    split_ifs with hb hquiesce
    · exact absurd (ht.symm.trans hquiesce) (by simp)
    · rfl
    · rfl
  refine (habort ?_).trans ?_ <;> simp [mediaDown, dropAll, hq]

theorem unlinked_aborted {s : State} (h : s.testBusy = true) : s.unlinked.cipher.test.state = .aborted := by
  have hbusy : (detachSweep (mediaDown (dropAll s))).testBusy = true := by
    simpa [State.testBusy, mediaDown, dropAll] using h
  simp [State.unlinked, abortTest, hbusy]

end Sys2Proof.Machine

namespace Sys2Proof.Proofs

open Sys2Proof Sys2Proof.Machine

/-- Settles O26: the drop, and the reports that follow it, which leave everything named alone. -/
theorem linkResetTaken : Obligations.LinkResetTaken := by
  refine fun s => ⟨fun hl => by simp [exec, execLinkReset, hl], fun hl => ⟨notifyCounts (dropFront s),
    congrArg _ (if_pos hl), ?_⟩⟩
  obtain ⟨q, hfilter⟩ := notifyCounts_filter (dropFront s)
  simp only [notifyCounts_frame, hfilter, dropFront_frame, dropFront_flash, and_true]
  refine ⟨by rw [dropFront_front, hl], dropFront_window s, rfl, rfl, fun x hx => ?_, foldl_lowerCounts_total _ s,
    fun a ⟨x, hx, g, hg, hk, hd, hs, ha⟩ => ?_, fun a h => ?_⟩
  · obtain ⟨t, -, ht⟩ := List.mem_filterMap.mp hx
    exact drop_eq_some ht
  · exact flashRead_forgetIssued_unknown hx (mem_issuedPieces.mpr ⟨⟨hk, hd⟩, hg, hs⟩) ha _
  · refine flashRead_forgetIssued_kept (fun x hx g hg => ?_) _
    obtain ⟨⟨hk, hd⟩, hg, hs⟩ := mem_issuedPieces.mp hg
    exact h x hx g hg hk hd hs

/-- Settles O25: everything is dropped, and the lock trigger comes with both links down. -/
theorem detachTaken : Obligations.DetachTaken := by
  refine fun s => ⟨fun hl => by simp [exec, execDetach, hl], fun hl hq he => ⟨Machine.detachTaken s, congrArg _ (if_pos hl), ?_⟩⟩
  rw [detachTaken_eq hq he]
  have hslots (h : lockTrigger s.unlinked = lockDrive s.unlinked) (k : SlotIx) :
      (lockTrigger s.unlinked).cipher.slots[k].state ≠ .opened := by
    rw [h, lockDrive_cipher]
    exact closeSlots_not_opened _ k
  simp only [standbyCheck_frame, selectBackground_frame, lockTrigger_frame, lockTrigger_test, unlinked_filter hq]
  have hflash : s.unlinked.flash = forgetBusy s.media.tags s.flash := by simp [State.unlinked, mediaDown, dropAll]
  have hctl : s.unlinked.ctl = { s.ctl with attached := false } := by simp [State.unlinked, mediaDown, dropAll]
  have hcred : s.unlinked.cred = s.cred := by simp [State.unlinked, mediaDown, dropAll]
  have herase : s.unlinked.erase = (detachSweep (mediaDown (dropAll s))).erase := by simp [State.unlinked]
  rw [hflash, hctl, hcred, herase]
  refine ⟨?_, ?_, trivial, ?_, ?_, ?_, rfl, rfl, fun a ⟨tag, c, htag, hk, ha⟩ => flashRead_forgetBusy_unknown htag hk
      ha _,
    fun a h => flashRead_forgetBusy_kept h _, fun h => ?_, fun hd => ?_, fun e hd hee ho => ?_, fun x hx => ?_, ?_, ?_,
    rfl, rfl⟩
  · simp [State.unlinked, mediaDown, dropAll]
  · simp [State.unlinked, mediaDown, dropAll]
  · simp [State.unlinked, mediaDown, dropAll, Response.noneResponse]
  · simp [State.unlinked, mediaDown, dropAll]
  · simp [State.unlinked, mediaDown, dropAll]
  · exact unlinked_aborted ((testBusy_iff s).mpr h)
  · have hlock := lockTrigger_of_opened (s := s.unlinked) (by rw [hctl]; exact hd)
    refine ⟨?_, ?_, ?_, ?_, hslots hlock⟩ <;> rw [hlock, lockDrive_ctl]
  · have hee' : s.unlinked.cred.enroll = some e := by rw [hcred]; exact hee
    have hlock := lockTrigger_of_enrolling (s := s.unlinked) (by rw [hctl]; exact hd) hee' ho
    obtain ⟨k, hshut, -⟩ := lockDrive_lockedFrom hee' ho
    refine ⟨by rw [hlock, lockDrive_ctl, hctl], ?_, hslots hlock⟩
    rw [hlock, hshut, hcred]
  · exact detachSweep_sweep (s := mediaDown (dropAll s)) hx
  · simp [State.unlinked, mediaDown, dropAll]
  · exact detachSweep_queue _

end Sys2Proof.Proofs
end

section
/-! SUPPORT. The split of a request (R46), and the checks and refusals of admission (R42, R45, R47, R51). -/

namespace Sys2Proof.Machine

open Sys2Proof

/-! ### The parts of a request (R46) -/

/-- The range of a part. -/
def Part.range : Part → Range
  | .beyond r | .gap r | .segment _ _ r => r

theorem mem_partIf {r : Range} {x y : Part} : y ∈ partIf r x ↔ r.lo < r.hi ∧ y = x := by
  unfold partIf
  split_ifs with h <;> simp [h]

theorem partIf_empty {r : Range} (h : r.hi ≤ r.lo) (x : Part) : partIf r x = [] := if_neg (Nat.not_lt.mpr h)

theorem partIf_full {r : Range} (h : r.lo < r.hi) (x : Part) : partIf r x = [x] := if_pos h

/-- The parts of a split lie in [a, b), each after the ones before it. -/
theorem splitTable_ordered (a b p : Nat) (es : List Entry) :
    (∀ x ∈ splitTable a b p es, a ≤ x.range.lo ∧ x.range.hi ≤ b) ∧
      (splitTable a b p es).Pairwise (fun x y => x.range.hi ≤ y.range.lo) := by
  induction es generalizing a p with
  | nil =>
    refine ⟨fun x hx => ?_, ?_⟩
    · obtain ⟨-, rfl⟩ := mem_partIf.mp hx
      exact ⟨le_rfl, le_rfl⟩
    · rw [splitTable, partIf]
      split_ifs <;> simp
  | cons e es ih =>
    obtain ⟨hin, hpair⟩ := ih (max a e.stop) (p + 1)
    rw [splitTable]
    refine ⟨fun x hx => ?_, ?_⟩
    · simp only [List.mem_append, mem_partIf] at hx
      rcases hx with (⟨-, rfl⟩ | ⟨-, rfl⟩) | hx
      · exact ⟨le_rfl, Nat.min_le_left ..⟩
      · exact ⟨Nat.le_max_left .., Nat.min_le_left ..⟩
      · exact ⟨(Nat.le_max_left ..).trans (hin x hx).1, (hin x hx).2⟩
    · have hsmall (r : Range) (x : Part) : (partIf r x).Pairwise (fun x y => x.range.hi ≤ y.range.lo) := by
        unfold partIf
        split_ifs <;> simp
      refine List.pairwise_append.mpr ⟨List.pairwise_append.mpr ⟨hsmall _ _, hsmall _ _, fun x hx y hy => ?_⟩, hpair,
        fun x hx y hy => ?_⟩
      · obtain ⟨-, rfl⟩ := mem_partIf.mp hx
        obtain ⟨-, rfl⟩ := mem_partIf.mp hy
        exact (Nat.min_le_right ..).trans (Nat.le_max_right ..)
      · have hy := (hin y hy).1
        have hbase : e.base ≤ e.stop := Nat.le_add_right ..
        simp only [List.mem_append, mem_partIf] at hx
        refine le_trans (?_ : x.range.hi ≤ max a e.stop) hy
        rcases hx with ⟨-, rfl⟩ | ⟨-, rfl⟩ <;> simp only [Part.range] <;> omega

/-- Of ranges each of which ends before the next ones begin, two that share a sector are one. -/
theorem eq_of_ordered {α : Type} {range : α → Range} {l : List α}
    (h : l.Pairwise (fun x y => (range x).hi ≤ (range y).lo)) {x y : α} (hx : x ∈ l) (hy : y ∈ l) {a : Nat}
    (hxa : (range x).has a = true) (hya : (range y).has a = true) : x = y := by
  simp only [Range.has, Bool.and_eq_true, decide_eq_true_eq] at hxa hya
  induction l with
  | nil => cases hx
  | cons z l ih =>
    obtain ⟨hz, hl⟩ := List.pairwise_cons.mp h
    rcases List.mem_cons.mp hx with rfl | hxl <;> rcases List.mem_cons.mp hy with rfl | hyl
    · rfl
    · have := hz y hyl
      omega
    · have := hz x hxl
      omega
    · exact ih hl hxl hyl

/-- Two parts of a split that share a sector are one. -/
theorem splitRequest_unique {u : Nat} {table : List Entry} {r : Range} {x y : Part}
    (hx : x ∈ splitRequest u table r) (hy : y ∈ splitRequest u table r) {a : Nat} (hxa : x.range.has a = true)
    (hya : y.range.has a = true) : x = y := by
  obtain ⟨hin, hpair⟩ := splitTable_ordered r.lo (min r.hi u) 0 table
  have hall : (splitRequest u table r).Pairwise (fun x y => x.range.hi ≤ y.range.lo) := by
    refine List.pairwise_append.mpr ⟨hpair, ?_, fun x hx y hy => ?_⟩
    · unfold partIf
      split_ifs <;> simp
    · obtain ⟨-, rfl⟩ := mem_partIf.mp hy
      have hx := (hin x hx).2
      exact hx.trans ((Nat.min_le_right ..).trans (Nat.le_max_right ..))
  exact eq_of_ordered hall hx hy hxa hya

/-! ### The laws of the table (R22) -/

theorem tableLaw_tail {n : Nat} {e : Entry} {es : List Entry} (h : tableLaw n (e :: es) = true) :
    n ≤ e.base ∧ tableLaw e.stop es = true := by
  simp only [tableLaw, Bool.and_eq_true, decide_eq_true_eq] at h
  exact ⟨h.1.1.1.1, h.2⟩

theorem base_le_of_tableLaw {n : Nat} {es : List Entry} (h : tableLaw n es = true) {i : Nat} {e : Entry}
    (he : es[i]? = some e) : n ≤ e.base := by
  induction es generalizing n i with
  | nil => cases he
  | cons f es ih =>
    obtain ⟨hbase, htail⟩ := tableLaw_tail h
    cases i with
    | zero => obtain rfl := Option.some.inj he; exact hbase
    | succ i => exact (hbase.trans (Nat.le_add_right ..)).trans (ih htail he)

/-- The entries that end at or below the start of a range have no part of it. -/
theorem splitTable_drop {n : Nat} {es : List Entry} (h : tableLaw n es = true) {i : Nat} {e : Entry}
    (he : es[i]? = some e) {a : Nat} (ha : e.base ≤ a) (b p : Nat) :
    splitTable a b p es = splitTable a b (p + i) (es.drop i) := by
  induction es generalizing n i p with
  | nil => cases he
  | cons f es ih =>
    obtain ⟨-, htail⟩ := tableLaw_tail h
    cases i with
    | zero => rfl
    | succ i =>
      have hstop : f.stop ≤ a := (base_le_of_tableLaw htail he).trans ha
      have hbase : f.base ≤ f.stop := Nat.le_add_right ..
      rw [splitTable, partIf_empty (by simp only; omega), partIf_empty (by simp only; omega), List.nil_append,
        List.nil_append, Nat.max_eq_left hstop, ih htail he, List.drop_succ_cons, Nat.add_assoc, Nat.add_comm 1 i]

theorem splitTable_empty {a b : Nat} (h : b ≤ a) (p : Nat) (es : List Entry) : splitTable a b p es = [] := by
  induction es generalizing a p with
  | nil => exact partIf_empty h _
  | cons e es ih =>
    rw [splitTable, partIf_empty (by simp only; omega), partIf_empty (by simp only; omega), ih (by omega)]
    rfl

/-- The split from the entry on in which a range starts. -/
theorem splitTable_head {a b : Nat} {e : Entry} (hlo : e.base ≤ a) (ha : a < e.stop) (hab : a < b) (p : Nat)
    (es : List Entry) : splitTable a b p (e :: es) =
      .segment (Fin.ofNat 16 p) e ⟨a, min b e.stop⟩ :: splitTable e.stop b (p + 1) es := by
  rw [splitTable, partIf_empty (by simp only; omega), partIf_full (by simp only; omega), Nat.max_eq_left hlo,
    Nat.max_eq_right ha.le]
  rfl

/-- A sector of an entry lies in a segment of it. -/
theorem splitTable_segment {n : Nat} {es : List Entry} (h : tableLaw n es = true) {i : Nat} {e : Entry}
    (he : es[i]? = some e) {a b x : Nat} (hax : a ≤ x) (hxb : x < b) (hlo : e.base ≤ x) (hhi : x < e.stop) (p : Nat) :
    ∃ q, .segment (Fin.ofNat 16 (p + i)) e q ∈ splitTable a b p es ∧ q.has x = true := by
  induction es generalizing n i a p with
  | nil => cases he
  | cons f es ih =>
    obtain ⟨-, htail⟩ := tableLaw_tail h
    rw [splitTable]
    cases i with
    | zero =>
      obtain rfl := Option.some.inj he
      refine ⟨⟨max a f.base, min b f.stop⟩, ?_, ?_⟩
      · simp only [List.mem_append, mem_partIf]
        exact .inl (.inr ⟨by omega, rfl⟩)
      · simp only [Range.has, Bool.and_eq_true, decide_eq_true_eq]
        omega
    | succ i =>
      have hstop : f.stop ≤ x := (base_le_of_tableLaw htail he).trans hlo
      obtain ⟨q, hq, hqx⟩ := ih htail he (a := max a f.stop) (by omega) (p + 1)
      exact ⟨q, List.mem_append_right _ (by rwa [show p + (i + 1) = p + 1 + i by omega]), hqx⟩

/-- A sector of no entry lies in a gap. -/
theorem splitTable_gap {es : List Entry} {a b x : Nat} (hax : a ≤ x) (hxb : x < b)
    (h : ∀ e ∈ es, ¬(e.base ≤ x ∧ x < e.stop)) (p : Nat) :
    ∃ q, .gap q ∈ splitTable a b p es ∧ q.has x = true := by
  induction es generalizing a p with
  | nil =>
    refine ⟨⟨a, b⟩, mem_partIf.mpr ⟨by simp only; omega, rfl⟩, ?_⟩
    simp only [Range.has, Bool.and_eq_true, decide_eq_true_eq]
    omega
  | cons f es ih =>
    have hf := h f List.mem_cons_self
    rw [splitTable]
    by_cases hlo : f.base ≤ x
    · obtain ⟨q, hq, hqx⟩ := ih (a := max a f.stop) (by omega) (fun e he => h e (List.mem_cons_of_mem _ he)) (p + 1)
      exact ⟨q, List.mem_append_right _ hq, hqx⟩
    · refine ⟨⟨a, min b f.base⟩, ?_, ?_⟩
      · simp only [List.mem_append, mem_partIf]
        exact .inl (.inl ⟨by omega, trivial⟩)
      · simp only [Range.has, Bool.and_eq_true, decide_eq_true_eq]
        omega

/-! ### A request in one region, or in two adjacent ones -/

section Regions

variable {s : State} {t : Txn} {p : Pos} {e : Entry} {u : Nat}

theorem drop_of_getElem? {α : Type} {l : List α} {i : Nat} {x : α} (h : l[i]? = some x) :
    l.drop i = x :: l.drop (i + 1) := by
  obtain ⟨hi, rfl⟩ := List.getElem?_eq_some_iff.mp h
  exact List.drop_eq_getElem_cons hi

theorem splitRequest_one {table : List Entry} {r : Range} (hlaw : tableLaw 0 table = true)
    (he : table[p.val]? = some e) (hlo : e.base ≤ r.lo) (hr : r.lo < r.hi) (hhi : r.hi ≤ e.stop) (hu : r.hi ≤ u) :
    splitRequest u table r = [.segment p e r] := by
  rw [splitRequest, partIf_empty (by simp only; omega), Nat.min_eq_left hu, splitTable_drop hlaw he hlo,
    drop_of_getElem? he, splitTable_head hlo (by omega) hr, splitTable_empty hhi, Nat.min_eq_left hhi, Nat.zero_add,
    Fin.ofNat_val_eq_self]
  rfl

theorem splitRequest_two {table : List Entry} {r : Range} {q : Pos} {f : Entry} (hlaw : tableLaw 0 table = true)
    (hq : q.val = p.val + 1) (he : table[p.val]? = some e) (hf : table[q.val]? = some f) (hlo : e.base ≤ r.lo)
    (hr : r.lo < f.base) (hstop : e.stop = f.base) (hlast : f.base < r.hi) (hhi : r.hi ≤ f.stop) (hu : r.hi ≤ u) :
    splitRequest u table r = [.segment p e ⟨r.lo, f.base⟩, .segment q f ⟨f.base, r.hi⟩] := by
  rw [splitRequest, partIf_empty (by simp only; omega), Nat.min_eq_left hu, splitTable_drop hlaw he hlo,
    drop_of_getElem? he, splitTable_head hlo (by omega) (by omega), ← hq, drop_of_getElem? hf, hstop,
    Nat.zero_add, ← hq, splitTable_head le_rfl (by omega) hlast, splitTable_empty hhi, Nat.min_eq_left hhi,
    Nat.min_eq_right hlast.le, Fin.ofNat_val_eq_self, Fin.ofNat_val_eq_self]
  rfl

end Regions

/-! ### The row (R42, R45) -/

/-- The state once the head has left the admission queue. -/
def State.dequeued (s : State) (rest : List Txn) : State := { s with filter.queue := rest }

theorem exec_admission_empty {s : State} (h : s.filter.queue = []) : exec .admission s = .next s := by
  simp [exec, execAdmission, h]

section Head

variable {s : State} {t : Txn} {rest : List Txn} (hq : s.filter.queue = t :: rest)

include hq

theorem exec_admission_held (h : s.admits t.need = false) : exec .admission s = .next s := by
  simp [exec, execAdmission, hq, h]

theorem exec_admission_taken (hq' : s.filter.quiesce = .none) (hr : s.cipher.run = none)
    (hb : t.need + s.bufferHeld ≤ 2048 ∨ t.need = 0) :
    exec .admission s = .next (admitTxn t (s.dequeued rest)) := by
  have hadmits : s.admits t.need = true := by
    have hfree : t.need ≤ 2048 - s.bufferHeld := by omega
    rw [State.admits, hq', hr, show decide (t.need ≤ s.bufferFree) = true from decide_eq_true hfree]
    rfl
  simp [exec, execAdmission, hq, hadmits, State.dequeued]

end Head

theorem refuse_eq (t : Txn) (st : FrontStatus) (s : State) : refuse t st s = s.concluded t.tag st none [] := rfl

theorem driveRefuses_iff (s : State) : driveRefuses s = true ↔
    s.ctl.drive = .wiping ∨ s.ctl.drive = .fault ∨ s.media.state ≠ .ready ∨ s.cipher.test.state = .running := by
  simp [driveRefuses, State.testRunning, or_assoc]

theorem driveRefuses_false {s : State} (hw : s.ctl.drive ≠ .wiping) (hf : s.ctl.drive ≠ .fault)
    (hm : s.media.state = .ready) (ht : s.cipher.test.state ≠ .running) : driveRefuses s = false := by
  rw [← Bool.not_eq_true, driveRefuses_iff]
  tauto

section Admit

variable {t : Txn} {s : State}

theorem admitTxn_driveRefuses (hk : t.kind ≠ .size) (h : driveRefuses s = true) :
    admitTxn t s = refuse t .notReady s := by
  unfold admitTxn
  cases hkind : t.kind with
  | size => exact absurd hkind hk
  | _ => simp [h]

variable (hk : t.kind = .read ∨ t.kind = .write ∨ t.kind = .discard) (h : driveRefuses s = false)

include hk h

theorem admitTxn_refuses {st : FrontStatus} (hst : firstFailure (cutRequest s t.kind t.range) = some st) :
    admitTxn t s = refuse t st s := by
  unfold admitTxn
  rcases hk with hkind | hkind | hkind <;> simp only [hkind, h] <;> rw [hkind] at hst <;> simp [hst]

theorem admitTxn_passes (hst : firstFailure (cutRequest s t.kind t.range) = none) :
    admitTxn t s = admitWith t ((passedPieces (cutRequest s t.kind t.range)).flatMap Pieces.frags)
      ((passedPieces (cutRequest s t.kind t.range)).findSome? Pieces.recorded) s := by
  unfold admitTxn
  rcases hk with hkind | hkind | hkind <;> simp only [hkind, h] <;> rw [hkind] at hst <;> simp [hst]

end Admit

/-! ### The checks of a segment (R47) -/

section Segment

variable {s : State} {e : Entry}

theorem slotOpen_iff : slotOpen s e = true ↔ ∃ k : SlotIx, e.slot = some k ∧ s.cipher.slots[k].state = .opened := by
  cases hk : e.slot <;> simp [slotOpen, hk]

theorem segmentStatus_shut (k : Kind) (p : Pos) (hc : e.cls = .priv)
    (h : ∀ k : SlotIx, e.slot = some k → s.cipher.slots[k].state ≠ .opened) :
    segmentStatus s k p e = some (if s.ctl.openProfile = none then .locked else .noAccess) := by
  have hshut : slotOpen s e = false := by
    rw [← Bool.not_eq_true, slotOpen_iff]
    exact fun ⟨k, hk, hopen⟩ => h k hk hopen
  rw [segmentStatus, if_pos ⟨hc, hshut⟩]
  cases s.ctl.openProfile <;> rfl

variable (ho : e.cls = .pub ∨ ∃ k : SlotIx, e.slot = some k ∧ s.cipher.slots[k].state = .opened)

include ho

theorem segmentStatus_reachable (k : Kind) (p : Pos) : segmentStatus s k p e =
    if (k = .write ∨ k = .discard) ∧ (e.cls = .pub ∨ e.writable = false ∨ s.readerOpen = true) then some .readOnly
    else if s.eraseState p = .erasePending then some .eraseBusy else none := by
  refine if_neg (fun hno => ?_)
  rcases ho with hpub | hopen
  · exact absurd (hpub.symm.trans hno.1) (by simp)
  · exact absurd (slotOpen_iff.mpr hopen) (by simp [hno.2])

theorem segmentStatus_readOnly {k : Kind} (hk : k = .write ∨ k = .discard)
    (h : e.cls = .pub ∨ e.writable = false ∨ s.readerOpen = true) (p : Pos) :
    segmentStatus s k p e = some .readOnly := by
  rw [segmentStatus_reachable ho, if_pos ⟨hk, h⟩]

theorem segmentStatus_writable {k : Kind}
    (h : k = .read ∨ (e.cls = .priv ∧ e.writable = true ∧ s.readerOpen = false)) (p : Pos) :
    segmentStatus s k p e = if s.eraseState p = .erasePending then some .eraseBusy else none := by
  rw [segmentStatus_reachable ho, if_neg]
  rintro ⟨hk, hbad⟩
  rcases h with rfl | ⟨hc, hw, hr⟩
  · simp at hk
  · rcases hbad with hpub | hro | hreader
    · exact absurd (hpub.symm.trans hc) (by simp)
    · exact absurd (hro.symm.trans hw) (by simp)
    · exact absurd (hr.symm.trans hreader) (by simp)

end Segment

theorem cutSegment_fails {s : State} {k : Kind} {p : Pos} {e : Entry} {st : FrontStatus}
    (h : segmentStatus s k p e = some st) (r : Range) : cutSegment s k p e r = .error st := by
  simp only [cutSegment, h]

/-- The cuts of a request do not look at the admission queue. -/
theorem cutPart_queue (s : State) (rest : List Txn) (k : Kind) (x : Part) :
    cutPart (s.dequeued rest) k x = cutPart s k x := by
  cases x <;> rfl

theorem cutRequest_dequeued {s : State} {u : Nat} (hu : s.uSpan = some u) (rest : List Txn) (k : Kind) (r : Range) :
    cutRequest (s.dequeued rest) k r = (splitRequest u s.regions.table r).map (cutPart s k) := by
  have hspan : (s.dequeued rest).uSpan = some u := hu
  rw [cutRequest, hspan, Option.getD_some]
  exact List.map_congr_left (fun x _ => cutPart_queue s rest k x)

theorem firstFailure_append {before after : List (Except FrontStatus Pieces)} {st : FrontStatus}
    (h : ∀ x ∈ before, ∃ g, x = .ok g) : firstFailure (before ++ .error st :: after) = some st := by
  induction before with
  | nil => rfl
  | cons x before ih =>
    obtain ⟨g, rfl⟩ := h x List.mem_cons_self
    exact ih (fun y hy => h y (List.mem_cons_of_mem _ hy))

/-! ### A head that is taken and refused -/

/-- What the rows of a READ, a WRITE and a DISCARD at the head have in common: the conditions of R42 and R45 hold. -/
structure State.takes (s : State) (t : Txn) (rest : List Txn) : Prop where
  head : s.filter.queue = t :: rest
  kind : t.kind = .read ∨ t.kind = .write ∨ t.kind = .discard
  calm : s.filter.quiesce = .none
  idle : s.cipher.run = none
  room : t.need + s.bufferHeld ≤ 2048
  open_ : driveRefuses s = false

theorem State.takes.exec {s : State} {t : Txn} {rest : List Txn} (h : s.takes t rest) :
    exec .admission s = .next (admitTxn t (s.dequeued rest)) :=
  exec_admission_taken h.head h.calm h.idle (.inl h.room)

/-- The first part that fails refuses the request. -/
theorem State.takes.refused {s : State} {t : Txn} {rest : List Txn} (h : s.takes t rest) {u : Nat}
    (hu : s.uSpan = some u) {before after : List Part} {x : Part} {st : FrontStatus}
    (hsplit : splitRequest u s.regions.table t.range = before ++ x :: after)
    (hb : ∀ y ∈ before, ∃ g, cutPart s t.kind y = .ok g) (hx : cutPart s t.kind x = .error st) :
    Machine.exec .admission s = .next (State.concluded { s with filter.queue := rest } t.tag st none []) := by
  rw [h.exec, admitTxn_refuses (s := s.dequeued rest) (st := st) h.kind h.open_]
  · rfl
  rw [cutRequest_dequeued hu, hsplit, List.map_append, List.map_cons, hx]
  refine firstFailure_append (fun y hy => ?_)
  obtain ⟨z, hz, rfl⟩ := List.mem_map.mp hy
  exact hb z hz

end Sys2Proof.Machine

namespace Sys2Proof.Proofs

open Sys2Proof Sys2Proof.Machine

/-- Settles O35: the parts are ordered, so that no sector lies in two, and each sector lies in one of its class. -/
theorem splitCoversRequest : Obligations.SplitCoversRequest := by
  intro u table r a hlaw hlen ha
  have hra : r.lo ≤ a ∧ a < r.hi := by simpa [Range.has] using ha
  have huniq {x y : Part} (hx : x ∈ splitRequest u table r) (hy : y ∈ splitRequest u table r)
      (hxa : x.range.has a = true) (hya : y.range.has a = true) : x = y := splitRequest_unique hx hy hxa hya
  refine ⟨fun hu => ?_, fun p e hu he hlo hhi => ?_, fun hu hnone => ?_, fun x y hx hy ⟨q, hxq, hqa⟩ ⟨z, hyz, hza⟩ =>
      ?_⟩
  · have hmem : Part.beyond ⟨max r.lo u, r.hi⟩ ∈ splitRequest u table r :=
      List.mem_append_right _ (mem_partIf.mpr ⟨by simp only; omega, rfl⟩)
    have hhas : (⟨max r.lo u, r.hi⟩ : Range).has a = true := by simp [Range.has]; omega
    refine ⟨_, ⟨hmem, _, rfl, hhas⟩, fun y ⟨hy, q, hyq, hq⟩ => huniq hy hmem (by rw [hyq]; exact hq) hhas⟩
  · obtain ⟨q, hq, hqa⟩ := splitTable_segment hlaw he (a := r.lo) (b := min r.hi u) hra.1 (by omega) hlo hhi 0
    rw [Nat.zero_add, Fin.ofNat_val_eq_self] at hq
    have hmem : Part.segment p e q ∈ splitRequest u table r := List.mem_append_left _ hq
    exact ⟨_, ⟨hmem, q, rfl, hqa⟩, fun y ⟨hy, z, hyz, hz⟩ => huniq hy hmem (by rw [hyz]; exact hz) hqa⟩
  · obtain ⟨q, hq, hqa⟩ := splitTable_gap (a := r.lo) (b := min r.hi u) hra.1 (by omega) hnone 0
    have hmem : Part.gap q ∈ splitRequest u table r := List.mem_append_left _ hq
    exact ⟨_, ⟨hmem, q, rfl, hqa⟩, fun y ⟨hy, z, hyz, hz⟩ => huniq hy hmem (by rw [hyz]; exact hz) hqa⟩
  · refine huniq hx hy ?_ ?_
    · rcases hxq with rfl | rfl | ⟨p, e, rfl⟩ <;> exact hqa
    · rcases hyz with rfl | rfl | ⟨p, e, rfl⟩ <;> exact hza

/-- Settles O33: the conditions of R42, the checks in their order, and the first part that fails. -/
theorem admissionRefuses : Obligations.AdmissionRefuses := by
  refine ⟨fun s => ⟨exec_admission_empty, fun t rest hq =>
      ⟨fun h => exec_admission_held hq ?_, fun hquiesce hrun hroom =>
    ⟨fun hk hm => ?_, fun hk hm => ?_, fun hk h => ?_⟩⟩⟩, ?_, fun s k r => ⟨rfl, fun h => ?_, fun hf he => ?_⟩, ?_⟩
  · rw [← Bool.not_eq_true]
    intro hadmits
    simp only [State.admits, Bool.and_eq_true, beq_iff_eq, Option.isNone_iff_eq_none, decide_eq_true_eq] at hadmits
    obtain ⟨⟨hquiesce, hrun⟩, hroom⟩ := hadmits
    rcases h with h | h | h
    · exact h hquiesce
    · exact h hrun
    · have hroom : t.need ≤ 2048 - s.bufferHeld := hroom
      omega
  · rw [exec_admission_taken hq hquiesce hrun (.inl hroom), admitTxn]
    simp only [hk]
    exact congrArg _ (if_pos hm)
  · rw [exec_admission_taken hq hquiesce hrun (.inl hroom), admitTxn]
    simp only [hk]
    exact congrArg _ (if_neg hm)
  · rw [exec_admission_taken hq hquiesce hrun (.inl hroom), admitTxn_driveRefuses (s := s.dequeued rest) hk
        ((driveRefuses_iff _).mpr h)]
    rfl
  · intro s t rest p e u hq hk hquiesce hrun hroom hw hf hm ht hu hlaw hlen he hlo hr hhi hru
    have htakes : s.takes t rest := ⟨hq, hk, hquiesce, hrun, hroom, driveRefuses_false hw hf hm ht⟩
    have hfails {st : FrontStatus} (h : segmentStatus s t.kind p e = some st) :
        exec .admission s = .next (State.concluded { s with filter.queue := rest } t.tag st none []) :=
      htakes.refused hu (before := []) (splitRequest_one hlaw he hlo hr hhi hru) (by simp) (cutSegment_fails h _)
    refine ⟨fun ⟨hc, h⟩ => hfails (segmentStatus_shut t.kind p hc h), fun ho => ⟨fun hnr h =>
      hfails (segmentStatus_readOnly ho (hk.resolve_left hnr) h p), fun h hpend => hfails ?_⟩⟩
    rw [segmentStatus_writable ho h, if_pos hpend]
  · have hfactory : s.ctl.drive = .factory ∨ s.enrollingFrom .factory = true := by
      rcases h with h | ⟨h, e, he, ho⟩
      · exact .inl h
      · exact .inr (by simp [State.enrollingFrom, h, he, ho])
    exact congrArg _ (if_pos hfactory)
  · have hother : ¬(s.ctl.drive = .factory ∨ s.enrollingFrom .factory = true) := by
      rintro (h | h)
      · exact hf h
      · unfold State.enrollingFrom at h
        cases hee : s.cred.enroll with
        | none => simp [hee] at h
        | some e =>
          simp only [hee, Bool.and_eq_true, beq_iff_eq] at h
          exact he e h.1 hee h.2
    exact congrArg _ (if_neg hother)
  · intro s t rest u before after x st hq hk hquiesce hrun hroom hw hf hm ht hu hsplit hb hx
    exact State.takes.refused ⟨hq, hk, hquiesce, hrun, hroom, driveRefuses_false hw hf hm ht⟩ hu hsplit hb hx

end Sys2Proof.Proofs
end

section
/-! SUPPORT. The admission of a request that passes (R51, R53, R55, R63, R64). -/

namespace Sys2Proof.Machine

open Sys2Proof

/-! ### The names of fragments -/

theorem nameFrags_waiting {n : Nat} {gs : List Frag} (h : ∀ g ∈ gs, g.state = .waiting) :
    ∀ g ∈ nameFrags n gs, g.state = .waiting := by
  induction gs generalizing n with
  | nil => exact fun g hg => absurd hg List.not_mem_nil
  | cons x gs ih =>
    intro g hg
    rcases List.mem_cons.mp hg with rfl | hg
    · exact h x List.mem_cons_self
    · exact ih (fun y hy => h y (List.mem_cons_of_mem _ hy)) g hg

/-! ### The record of an admitted transaction -/

/-- The record of a transaction that is admitted with the fragments given (R51, R54). -/
def Txn.admitted (t : Txn) (s : State) (gs : List Frag) (recorded : Option Range) : Txn :=
  { t with
    state := .admitted, frags := nameFrags s.counters.ids gs, status := .good
    held := if t.kind = .read ∨ t.kind = .write then t.need else 0
    waiting := recorded.isSome, recorded := recorded
    addition := recorded.map (fun _ => s.erase.additions + 1) }

/-- The state once the record has been made and the counts have risen. -/
def State.entered (s : State) (t : Txn) (gs : List Frag) (recorded : Option Range) : State :=
  (nameFrags s.counters.ids gs).foldl (fun s g => raiseCounts g s) { s with
    filter.txns := s.filter.txns ++ [t.admitted s gs recorded]
    counters.ids := s.counters.ids + gs.length }

/-- The rises touch the counts alone, and each is one of the total. -/
theorem foldl_raiseCounts (l : List Frag) (s : State) : ∃ v, l.foldl (fun s g => raiseCounts g s) s =
    { s with filter.total := s.filter.total + l.length, filter.inFlight := v } := by
  induction l generalizing s with
  | nil => exact ⟨_, rfl⟩
  | cons g l ih =>
    obtain ⟨v, hv⟩ := ih (raiseCounts g s)
    refine ⟨v, hv.trans ?_⟩
    rw [List.length_cons, Nat.add_comm l.length, ← Nat.add_assoc]
    rfl

theorem joinIssue_ready {s : State} (h : s.media.state = .ready) (id : Nat) :
    joinIssue id s = { s with filter.issueQ := s.filter.issueQ ++ [id] } :=
  if_neg (by simp [h])

theorem foldl_joinIssue {s : State} (h : s.media.state = .ready) (l : List Frag) :
    l.foldl (fun s g => joinIssue g.id s) s = { s with filter.issueQ := s.filter.issueQ ++ l.map Frag.id } := by
  induction l generalizing s with
  | nil => rw [List.foldl_nil, List.map_nil, List.append_nil]
  | cons g l ih =>
    rw [List.foldl_cons, joinIssue_ready h]
    refine (ih (s := { s with filter.issueQ := s.filter.issueQ ++ [g.id] }) h).trans ?_
    simp

/-- A transaction with a fragment that has not ended is not complete. -/
theorem completeTxn_pending {s : State} {id : Nat} {t : Txn} (hfind : s.findTxn id = some t) {g : Frag}
    (hg : g ∈ t.frags) (hw : g.ended = false) : completeTxn id s = s := by
  have hall : t.frags.all Frag.ended = false := List.all_eq_false.mpr ⟨g, hg, by simp [hw]⟩
  simp [completeTxn, hfind, hall]

theorem findTxn_last {s : State} {l : List Txn} {t : Txn} (hs : s.filter.txns = l ++ [t])
    (h : ∀ x ∈ l, x.id ≠ t.id) : s.findTxn t.id = some t := by
  have hnone : l.find? (fun x => x.id == t.id) = none := List.find?_eq_none.mpr (fun x hx => by simpa using h x hx)
  rw [State.findTxn, hs, List.find?_append, hnone]
  simp

section Enter

variable {s : State} {t : Txn} {gs : List Frag} (hids : ∀ x ∈ s.filter.txns, x.id ≠ t.id) (hne : gs ≠ [])
  (hw : ∀ g ∈ gs, g.state = .waiting)

include hids hne hw

/-- With its fragments waiting, the admission does not complete the transaction. -/
theorem completeTxn_entered {u : State} {recorded : Option Range}
    (hu : u.filter.txns = s.filter.txns ++ [t.admitted s gs recorded]) : completeTxn t.id u = u := by
  obtain ⟨g, hg⟩ : ∃ g, g ∈ nameFrags s.counters.ids gs := by
    refine List.exists_mem_of_ne_nil _ (fun hnil => hne (List.length_eq_zero_iff.mp ?_))
    rw [← nameFrags_length s.counters.ids gs, hnil]
    rfl
  exact completeTxn_pending (findTxn_last (t := t.admitted s gs recorded) hu hids) hg
    (by simp [Frag.ended, nameFrags_waiting hw g hg])

theorem admitWith_none (hm : s.media.state = .ready) : admitWith t gs none s =
    if t.kind = .write then s.entered t gs none
    else { s.entered t gs none with
      filter.issueQ := s.filter.issueQ ++ (nameFrags s.counters.ids gs).map Frag.id } := by
  have hall : (nameFrags s.counters.ids gs).filter (fun g => g.state == .waiting) = nameFrags s.counters.ids gs :=
    List.filter_eq_self.mpr (fun g hg => by simpa using nameFrags_waiting hw g hg)
  obtain ⟨v, hv⟩ := foldl_raiseCounts (nameFrags s.counters.ids gs) { s with
    filter.txns := s.filter.txns ++ [t.admitted s gs none], counters.ids := s.counters.ids + gs.length }
  have hentered : s.entered t gs none = _ := hv
  have hadmit : admitWith t gs none s = completeTxn t.id (if t.kind = .write then s.entered t gs none
      else (nameFrags s.counters.ids gs).foldl (fun s g => joinIssue g.id s) (s.entered t gs none)) := by
    unfold admitWith
    dsimp only
    rw [hall, nameFrags_length]
    rfl
  rw [hadmit]
  split
  · exact completeTxn_entered hids hne hw (recorded := none) (by rw [hentered])
  · rw [foldl_joinIssue (by rw [hentered]; exact hm)]
    refine (completeTxn_entered hids hne hw (recorded := none) (by rw [hentered])).trans ?_
    rw [hentered]

theorem admitWith_some (hk : t.kind = .write) (r : Range) :
    admitWith t gs (some r) s = addKeep r (s.entered t gs (some r)) := by
  have hall : (nameFrags s.counters.ids gs).filter (fun g => g.state == .waiting) = nameFrags s.counters.ids gs :=
    List.filter_eq_self.mpr (fun g hg => by simpa using nameFrags_waiting hw g hg)
  obtain ⟨v, hv⟩ := foldl_raiseCounts (nameFrags s.counters.ids gs) { s with
    filter.txns := s.filter.txns ++ [t.admitted s gs (some r)], counters.ids := s.counters.ids + gs.length }
  have hentered : s.entered t gs (some r) = _ := hv
  have hadmit : admitWith t gs (some r) s = completeTxn t.id (addKeep r (s.entered t gs (some r))) := by
    unfold admitWith
    dsimp only
    rw [hall, nameFrags_length, if_pos hk]
    rfl
  rw [hadmit]
  refine completeTxn_entered hids hne hw (recorded := some r) ?_
  rw [(addKeep_frame r _).2.2.2.1, hentered]

end Enter

/-- The head of the queue has a name of its own (assumption 7). -/
theorem head_not_admitted {s : State} (h : s.namesInv) {t : Txn} {rest : List Txn} (hq : s.filter.queue = t :: rest) :
    ∀ x ∈ s.filter.txns, x.id ≠ t.id := by
  intro x hx hid
  have hnodup := h.1
  rw [hq, List.cons_append, List.map_cons, List.nodup_cons] at hnodup
  exact hnodup.1 (hid ▸ List.mem_map_of_mem (List.mem_append_right _ hx))

/-! ### The pieces of a region without an erase (R51, R53, R75) -/

theorem newFrag_pass (s : State) (k : Kind) (n : Nat) (p : Pos) (e : Entry) (r : Range) :
    { newFrag s k p e .pass false [] r with id := n } = s.passPiece k n p e r := by
  unfold newFrag State.passPiece
  cases k <;> cases s.instanceOf e <;> rfl

theorem cutSegment_passes {s : State} {k : Kind} {p : Pos} {e : Entry} (h : segmentStatus s k p e = none)
    (hs : s.eraseState p ≠ .sweeping) (r : Range) :
    cutSegment s k p e r = .ok ⟨[newFrag s k p e .pass false [] r], none⟩ := by
  simp only [cutSegment, h, if_neg hs]

/-- A segment of a region with no erase that passes its checks. -/
theorem cutPart_idle {s : State} {k : Kind} {p : Pos} {e : Entry} (hi : s.eraseState p = .idle)
    (ho : e.cls = .pub ∨ ∃ k : SlotIx, e.slot = some k ∧ s.cipher.slots[k].state = .opened)
    (hw : k = .read ∨ (e.cls = .priv ∧ e.writable = true ∧ s.readerOpen = false)) (r : Range) :
    cutPart s k (.segment p e r) = .ok ⟨[newFrag s k p e .pass false [] r], none⟩ :=
  cutSegment_passes (by rw [segmentStatus_writable ho hw, if_neg (by simp [hi])]) (by simp [hi]) r

theorem firstFailure_ok (l : List Pieces) : firstFailure (l.map .ok) = none := by
  induction l with
  | nil => rfl
  | cons x l ih => exact ih

theorem passedPieces_ok (l : List Pieces) : passedPieces (l.map .ok) = l := by
  induction l with
  | nil => rfl
  | cons x l ih => exact congrArg (x :: ·) ih

/-- The admission of a request all of whose parts pass. -/
theorem State.takes.passed {s : State} {t : Txn} {rest : List Txn} (h : s.takes t rest) {u : Nat}
    (hu : s.uSpan = some u) {l : List Pieces}
    (hcut : (splitRequest u s.regions.table t.range).map (cutPart s t.kind) = l.map .ok) :
    Machine.exec .admission s =
      .next (admitWith t (l.flatMap Pieces.frags) (l.findSome? Pieces.recorded) (s.dequeued rest)) := by
  have hall : cutRequest (s.dequeued rest) t.kind t.range = l.map .ok := (cutRequest_dequeued hu ..).trans hcut
  rw [h.exec, admitTxn_passes (s := s.dequeued rest) h.kind h.open_ (by rw [hall, firstFailure_ok]), hall,
    passedPieces_ok]

theorem held_of_takes {t : Txn} (hk : t.kind = .read ∨ t.kind = .write ∨ t.kind = .discard) :
    (if t.kind = .read ∨ t.kind = .write then t.need else 0) = if t.kind = .discard then 0 else t.range.len := by
  rcases hk with h | h | h <;> simp [Txn.need, h]

end Sys2Proof.Machine

namespace Sys2Proof.Proofs

open Sys2Proof Sys2Proof.Machine

/-- Settles O34: the pieces of the parts, and the record that the admission makes of them. -/
theorem admissionPasses : Obligations.AdmissionPasses := by
  refine ⟨?_, ?_, ?_⟩
  · intro s t rest p e u hq hk hquiesce hrun hroom hw hf hm ht hu hlaw hlen he hlo hr hhi hru hnames hi ho hpass
    have htakes : s.takes t rest := ⟨hq, hk, hquiesce, hrun, hroom, driveRefuses_false hw hf hm ht⟩
    rw [htakes.passed hu (l := [⟨[newFrag s t.kind p e .pass false [] t.range], none⟩])
      (by rw [splitRequest_one hlaw he hlo hr hhi hru, List.map_singleton, cutPart_idle hi ho hpass]; rfl)]
    refine congrArg Host.Outcome.next ((admitWith_none (s := s.dequeued rest) (head_not_admitted hnames hq) (by simp)
      (by simp [newFrag]) hm).trans ?_)
    rw [← held_of_takes hk, ← State.passPiece, ← newFrag_pass]
    by_cases hkind : t.kind = .write
    · rw [if_pos hkind, if_pos hkind]
      rfl
    · rw [if_neg hkind, if_neg hkind]
      rfl
  · intro s t rest hq hk hquiesce hrun hw hf hm ht hnames
    have hopen : driveRefuses (s.dequeued rest) = false := driveRefuses_false (s := s.dequeued rest) hw hf hm ht
    have hadmit : admitTxn t (s.dequeued rest) = admitWith t [syncFrag] none (s.dequeued rest) := by
      rw [admitTxn, hk]
      exact if_neg (by simp [hopen])
    rw [exec_admission_taken hq hquiesce hrun (.inr (by simp [Txn.need, hk])), hadmit]
    refine congrArg Host.Outcome.next ((admitWith_none (s := s.dequeued rest) (head_not_admitted hnames hq) (by simp)
      (by simp [syncFrag]) hm).trans ?_)
    rw [if_neg (by simp [hk])]
    have hheld : (if t.kind = .read ∨ t.kind = .write then t.need else 0) = 0 := by simp [hk]
    rw [State.entered, Txn.admitted, hheld]
    rfl
  · intro s t rest p q e f u hq hk hquiesce hrun hroom hw hf hm ht hu hlaw hlen hpq he hfe hlo hr hstop hlast hhi hru
      hnames hip hiq hboth
    have htakes : s.takes t rest := ⟨hq, hk, hquiesce, hrun, hroom, driveRefuses_false hw hf hm ht⟩
    obtain ⟨hoe, hpe⟩ := hboth e (.inl rfl)
    obtain ⟨hof, hpf⟩ := hboth f (.inr rfl)
    have hcut := splitRequest_two hlaw hpq he hfe hlo hr hstop hlast hhi hru
    rw [htakes.passed hu (l := [⟨[newFrag s t.kind p e .pass false [] ⟨t.range.lo, f.base⟩], none⟩,
      ⟨[newFrag s t.kind q f .pass false [] ⟨f.base, t.range.hi⟩], none⟩])
      (by rw [hcut, List.map_cons, List.map_singleton, cutPart_idle hip hoe hpe, cutPart_idle hiq hof hpf]; rfl)]
    refine congrArg Host.Outcome.next ((admitWith_none (s := s.dequeued rest) (head_not_admitted hnames hq) (by simp)
      (by simp [newFrag]) hm).trans ?_)
    have hother : (s.filter.inFlight.set p (s.filter.inFlight[p] + 1))[q] = s.filter.inFlight[q] :=
      Vector.getElem_set_ne p.isLt q.isLt (by omega)
    rw [← held_of_takes hk, ← newFrag_pass, ← newFrag_pass, ← hother]
    by_cases hkind : t.kind = .write
    · rw [if_pos hkind, if_pos hkind]
      rfl
    · rw [if_neg hkind, if_neg hkind]
      rfl

end Sys2Proof.Proofs
end

section
/-! SUPPORT. Ranges of the keep list: merge, pruning and removal (R48, R101 to R103), and the completion of a SWEEP
commit (R99, R106). -/

namespace Sys2Proof.Machine

open Sys2Proof

/-! ### The law of the keep list (R101) -/

/-- The law in terms of all pairs. -/
theorem keepSorted_iff (l : List Range) :
    keepSorted l = true ↔ (∀ k ∈ l, k.lo < k.hi) ∧ l.Pairwise (fun k j => k.hi < j.lo) := by
  induction l with
  | nil => simp [keepSorted]
  | cons k l ih =>
    rw [List.pairwise_cons, List.forall_mem_cons]
    cases l with
    | nil => simp [keepSorted]
    | cons j l =>
      have hnext : (∀ i ∈ j :: l, k.hi < i.lo) ↔ k.hi < j.lo ∧ ∀ i ∈ l, k.hi < i.lo := List.forall_mem_cons
      simp only [keepSorted, Bool.and_eq_true, decide_eq_true_eq, ih, hnext, List.pairwise_cons, List.forall_mem_cons]
      constructor
      · rintro ⟨⟨hk, hkj⟩, ⟨hj, hl⟩, hjl, hpair⟩
        exact ⟨⟨hk, hj, hl⟩, ⟨hkj, fun i hi => by have := hjl i hi; omega⟩, hjl, hpair⟩
      · rintro ⟨⟨hk, hj, hl⟩, ⟨hkj, -⟩, hjl, hpair⟩
        exact ⟨⟨hk, hkj⟩, ⟨hj, hl⟩, hjl, hpair⟩

theorem has_iff (r : Range) (a : Nat) : r.has a = true ↔ r.lo ≤ a ∧ a < r.hi := by simp [Range.has]

theorem has_false_iff (r : Range) (a : Nat) : r.has a = false ↔ ¬(r.lo ≤ a ∧ a < r.hi) := by
  rw [← has_iff, Bool.not_eq_true]

/-- Two ranges of a list that obeys the law are one, or lie apart. -/
theorem apart_of_keepSorted {l : List Range} (h : keepSorted l = true) {k j : Range} (hk : k ∈ l) (hj : j ∈ l) :
    k = j ∨ k.hi < j.lo ∨ j.hi < k.lo := by
  obtain ⟨-, hpair⟩ := (keepSorted_iff l).mp h
  induction l with
  | nil => cases hk
  | cons i l ih =>
    obtain ⟨hi, hpair'⟩ := List.pairwise_cons.mp hpair
    have hl : keepSorted l = true :=
      (keepSorted_iff l).mpr ⟨fun m hm => ((keepSorted_iff _).mp h).1 m (List.mem_cons_of_mem _ hm), hpair'⟩
    rcases List.mem_cons.mp hk with rfl | hkl <;> rcases List.mem_cons.mp hj with rfl | hjl
    · exact .inl rfl
    · exact .inr (.inl (hi j hjl))
    · exact .inr (.inr (hi k hkl))
    · exact ih hl hkl hjl hpair'

theorem keepSorted_filter {l : List Range} (h : keepSorted l = true) (p : Range → Bool) :
    keepSorted (l.filter p) = true := by
  obtain ⟨hne, hpair⟩ := (keepSorted_iff l).mp h
  exact (keepSorted_iff _).mpr ⟨fun k hk => hne k (List.mem_filter.mp hk).1, hpair.filter p⟩

/-! ### The merge (R102) -/

theorem mergedLo_le {r : Range} {l : List Range} {a : Nat} :
    mergedLo r l ≤ a ↔ r.lo ≤ a ∨ ∃ k ∈ l, k.lo ≤ a := by
  have key (n : Nat) : l.foldl (fun m k => min m k.lo) n ≤ a ↔ n ≤ a ∨ ∃ k ∈ l, k.lo ≤ a := by
    induction l generalizing n with
    | nil => simp
    | cons k l ih => rw [List.foldl_cons, ih, List.exists_mem_cons_iff, min_le_iff, or_assoc]
  exact key r.lo

theorem lt_mergedHi {r : Range} {l : List Range} {a : Nat} :
    a < mergedHi r l ↔ a < r.hi ∨ ∃ k ∈ l, a < k.hi := by
  have key (n : Nat) : a < l.foldl (fun m k => max m k.hi) n ↔ a < n ∨ ∃ k ∈ l, a < k.hi := by
    induction l generalizing n with
    | nil => simp
    | cons k l ih => rw [List.foldl_cons, ih, List.exists_mem_cons_iff, lt_max_iff, or_assoc]
  exact key r.hi

theorem touches_iff (r k : Range) : r.touches k = true ↔ k.lo ≤ r.hi ∧ r.lo ≤ k.hi := by simp [Range.touches]

theorem mem_insertSorted (r k : Range) (l : List Range) : k ∈ insertSorted r l ↔ k = r ∨ k ∈ l := by
  induction l with
  | nil => simp [insertSorted]
  | cons j l ih =>
    rw [insertSorted]
    split_ifs
    · simp
    · rw [List.mem_cons, ih, List.mem_cons, or_left_comm]

theorem length_insertSorted (r : Range) (l : List Range) : (insertSorted r l).length = l.length + 1 := by
  induction l with
  | nil => rfl
  | cons j l ih =>
    rw [insertSorted]
    split_ifs
    · rfl
    · rw [List.length_cons, ih, List.length_cons]

/-- A range that touches none of a list that obeys the law goes into its place. -/
theorem keepSorted_insertSorted {r : Range} (hr : r.lo < r.hi) {l : List Range} (h : keepSorted l = true)
    (hapart : ∀ k ∈ l, k.hi < r.lo ∨ r.hi < k.lo) : keepSorted (insertSorted r l) = true := by
  rw [keepSorted_iff] at h ⊢
  obtain ⟨hne, hpair⟩ := h
  refine ⟨fun k hk => ?_, ?_⟩
  · rcases (mem_insertSorted r k l).mp hk with rfl | hk
    · exact hr
    · exact hne k hk
  · induction l with
    | nil => exact List.pairwise_singleton ..
    | cons j l ih =>
      obtain ⟨hj, hpair⟩ := List.pairwise_cons.mp hpair
      have hjne := hne j List.mem_cons_self
      have hjr := hapart j List.mem_cons_self
      rw [insertSorted]
      split_ifs with hlt
      · refine List.pairwise_cons.mpr ⟨fun k hk => ?_, List.pairwise_cons.mpr ⟨hj, hpair⟩⟩
        rcases List.mem_cons.mp hk with rfl | hk
        · omega
        · have := hj k hk
          omega
      · refine List.pairwise_cons.mpr ⟨fun k hk => ?_, ih (fun k hk => hapart k (List.mem_cons_of_mem _ hk))
          (fun k hk => hne k (List.mem_cons_of_mem _ hk)) hpair⟩
        rcases (mem_insertSorted r k l).mp hk with rfl | hk
        · omega
        · exact hj k hk

section Merge

variable {r : Range} {keep : List Range} (hr : r.lo < r.hi) (hk : keepSorted keep = true)

/-- The range that the merge makes of `r` and the ranges that it touches (R102). -/
def merged (r : Range) (keep : List Range) : Range :=
  ⟨mergedLo r (keep.filter (Range.touches r)), mergedHi r (keep.filter (Range.touches r))⟩

theorem mem_keepMerge {k : Range} :
    k ∈ keepMerge r keep ↔ k = merged r keep ∨ k ∈ keep ∧ r.touches k = false := by
  simp [keepMerge, mem_insertSorted, merged]

theorem merged_lo_le {a : Nat} : (merged r keep).lo ≤ a ↔ r.lo ≤ a ∨ ∃ k ∈ keep, r.touches k = true ∧ k.lo ≤ a := by
  simp [merged, mergedLo_le, and_assoc]

theorem lt_merged_hi {a : Nat} : a < (merged r keep).hi ↔ a < r.hi ∨ ∃ k ∈ keep, r.touches k = true ∧ a < k.hi := by
  simp [merged, lt_mergedHi, and_assoc]

include hr in
/-- The merged range covers `r` and what it touches, and no more. -/
theorem merged_has (a : Nat) : (merged r keep).has a = true ↔
    r.has a = true ∨ ∃ k ∈ keep, r.touches k = true ∧ k.has a = true := by
  rw [has_iff, has_iff, merged_lo_le, lt_merged_hi]
  constructor
  · rintro ⟨hlo, hhi⟩
    by_cases hin : r.lo ≤ a ∧ a < r.hi
    · exact .inl hin
    · right
      by_cases hbelow : a < r.lo
      · obtain ⟨k, hk, ht, hka⟩ := hlo.resolve_left (Nat.not_le.mpr hbelow)
        have := (touches_iff r k).mp ht
        exact ⟨k, hk, ht, (has_iff k a).mpr ⟨hka, by omega⟩⟩
      · obtain ⟨k, hk, ht, hka⟩ := hhi.resolve_left (by omega)
        have := (touches_iff r k).mp ht
        exact ⟨k, hk, ht, (has_iff k a).mpr ⟨by omega, hka⟩⟩
  · rintro (⟨hlo, hhi⟩ | ⟨k, hk, ht, hka⟩)
    · exact ⟨.inl hlo, .inl hhi⟩
    · obtain ⟨hlo, hhi⟩ := (has_iff k a).mp hka
      exact ⟨.inr ⟨k, hk, ht, hlo⟩, .inr ⟨k, hk, ht, hhi⟩⟩

include hr in
theorem merged_nonempty : (merged r keep).lo < (merged r keep).hi :=
  lt_merged_hi.mpr (.inl (lt_of_le_of_lt (merged_lo_le.mpr (.inl le_rfl)) hr))

include hr hk in
/-- What `r` does not touch lies apart from the merged range. -/
theorem apart_of_untouched {k : Range} (hkm : k ∈ keep) (ht : r.touches k = false) :
    k.hi < (merged r keep).lo ∨ (merged r keep).hi < k.lo := by
  have hne := ((keepSorted_iff keep).mp hk).1
  have hkne := hne k hkm
  have hout : ¬(k.lo ≤ r.hi ∧ r.lo ≤ k.hi) := fun h => by
    rw [(touches_iff r k).mpr h] at ht
    cases ht
  by_cases hbelow : k.hi < r.lo
  · left
    rw [← Nat.not_le, merged_lo_le]
    rintro (hno | ⟨j, hj, htj, hjk⟩)
    · omega
    · have htj := (touches_iff r j).mp htj
      have hjne := hne j hj
      rcases apart_of_keepSorted hk hkm hj with rfl | hapart | hapart <;> omega
  · right
    have hnot : ¬(k.lo - 1 < (merged r keep).hi) := by
      rw [lt_merged_hi]
      rintro (hno | ⟨j, hj, htj, hjk⟩)
      · omega
      · have htj := (touches_iff r j).mp htj
        have hjne := hne j hj
        rcases apart_of_keepSorted hk hkm hj with rfl | hapart | hapart <;> omega
    omega

include hr hk in
theorem keepSorted_keepMerge : keepSorted (keepMerge r keep) = true := by
  refine keepSorted_insertSorted (merged_nonempty hr) (keepSorted_filter hk _) (fun k hkm => ?_)
  obtain ⟨hkm, ht⟩ := List.mem_filter.mp hkm
  exact apart_of_untouched hr hk hkm (by simpa using ht)

end Merge

/-! ### Removal of the keep ranges (R48) -/

theorem subtractKeep_bounds {lo hi : Nat} {keep : List Range} (hk : keepSorted keep = true) :
    (∀ z ∈ subtractKeep lo hi keep, lo ≤ z.lo ∧ z.lo < z.hi ∧ z.hi ≤ hi) ∧
      (subtractKeep lo hi keep).Pairwise (fun z y => z.hi < y.lo) := by
  induction keep generalizing lo with
  | nil =>
    rw [subtractKeep]
    split_ifs with h
    · simp [h]
    · simp
  | cons k keep ih =>
    have hne := ((keepSorted_iff _).mp hk).1 k List.mem_cons_self
    have htail : keepSorted keep = true := by
      obtain ⟨hne, hpair⟩ := (keepSorted_iff _).mp hk
      exact (keepSorted_iff _).mpr ⟨fun j hj => hne j (List.mem_cons_of_mem _ hj), (List.pairwise_cons.mp hpair).2⟩
    rw [subtractKeep]
    split_ifs with h1 h2 h3 h4
    · exact ih htail
    · simp [h3]
    · simp
    · obtain ⟨hin, hpair⟩ := ih (lo := k.hi) htail
      refine ⟨fun z hz => ?_, List.pairwise_cons.mpr ⟨fun z hz => lt_of_lt_of_le hne (hin z hz).1, hpair⟩⟩
      rcases List.mem_cons.mp hz with rfl | hz
      · exact ⟨le_rfl, h4, by simp only; omega⟩
      · have := hin z hz
        omega
    · obtain ⟨hin, hpair⟩ := ih (lo := k.hi) htail
      exact ⟨fun z hz => by have := hin z hz; omega, hpair⟩

theorem subtractKeep_has {lo hi : Nat} {keep : List Range} (hk : keepSorted keep = true) (a : Nat) :
    (∃ z ∈ subtractKeep lo hi keep, z.has a = true) ↔ (lo ≤ a ∧ a < hi) ∧ ∀ k ∈ keep, k.has a = false := by
  induction keep generalizing lo with
  | nil =>
    rw [subtractKeep]
    split_ifs with h
    · simp [has_iff]
    · simp
      omega
  | cons k keep ih =>
    obtain ⟨hne, hpair⟩ := (keepSorted_iff _).mp hk
    obtain ⟨hlater, hpair⟩ := List.pairwise_cons.mp hpair
    have htail : keepSorted keep = true :=
      (keepSorted_iff _).mpr ⟨fun j hj => hne j (List.mem_cons_of_mem _ hj), hpair⟩
    have hkne := hne k List.mem_cons_self
    have hbelow (h : a < k.hi) : ∀ j ∈ keep, j.has a = false := fun j hj => by
      have := hlater j hj
      rw [has_false_iff]
      omega
    rw [subtractKeep, List.forall_mem_cons, has_false_iff]
    split_ifs with h1 h2 h3 h4
    · rw [ih htail]
      exact ⟨fun ⟨hin, hrest⟩ => ⟨hin, by omega, hrest⟩, fun ⟨hin, _, hrest⟩ => ⟨hin, hrest⟩⟩
    · rw [List.exists_mem_cons_iff, has_iff]
      refine ⟨fun h => ?_, fun ⟨hin, _⟩ => .inl hin⟩
      have hin : lo ≤ a ∧ a < hi := h.resolve_right (by simp)
      exact ⟨hin, by omega, hbelow (by omega)⟩
    · exact ⟨fun ⟨z, hz, _⟩ => absurd hz List.not_mem_nil, fun ⟨hin, _⟩ => absurd hin (by omega)⟩
    · rw [List.exists_mem_cons_iff, has_iff, ih htail]
      refine ⟨fun h => ?_, fun ⟨hin, hk, hrest⟩ => ?_⟩
      · rcases h with ⟨hlo, hhi⟩ | ⟨hin, hrest⟩
        · have hhi : a < k.lo := hhi
          exact ⟨⟨hlo, by omega⟩, by omega, hbelow (by omega)⟩
        · exact ⟨by omega, by omega, hrest⟩
      · by_cases hak : a < k.lo
        · exact .inl ⟨hin.1, hak⟩
        · exact .inr ⟨by omega, hrest⟩
    · rw [ih htail]
      exact ⟨fun ⟨hin, hrest⟩ => ⟨by omega, by omega, hrest⟩, fun ⟨hin, hk, hrest⟩ => ⟨by omega, hrest⟩⟩

/-! ### The completion of a SWEEP commit (R99, R103, R106) -/

section SweepCommit

variable {s : State} {r : SweepRecord} {a : BitVec 32}

/-- A verified SWEEP commit tells the erase engine alone. -/
theorem exec_sweepCommit (hs : s.staysAwake) (hd : s.ctl.drive ≠ .fault)
    (hb : s.store.busy = some ⟨.sweep r, [], a⟩) : exec (.commitCompletion true) s =
      .next (startNext { sweepStored r a { s with store := s.store.write (.sweep r) } with store.busy := none }) := by
  rw [exec_commitVerified hs hb, commitVerified_tells hd, tellRequesters_sweep rfl]
  rfl

variable (hw : ∀ t ∈ s.filter.txns, t.waiting = false)

include hw

theorem sweepStored_recorded {y : StoredSweep} (hr : r.sweep = some y) : sweepStored r a s = moveCheckpoint y s := by
  simp only [sweepStored, hr]
  exact endWaits_none (by simpa [moveCheckpoint] using hw)

theorem sweepStored_without (hr : r.sweep = none) (h : ∀ x, s.erase.sweep = some x → x.phase ≠ .ending) :
    sweepStored r a s = s := by
  simp only [sweepStored, hr]
  rw [endWaits_none hw]
  cases hx : s.erase.sweep with
  | none => rfl
  | some x => exact if_neg (h x hx)

theorem sweepStored_ends {x : Sweep} (hr : r.sweep = none) (hx : s.erase.sweep = some x) (hp : x.phase = .ending) :
    sweepStored r a s = endSweep x s := by
  simp only [sweepStored, hr]
  rw [endWaits_none hw, hx]
  exact if_pos hp

omit hw in
/-- Nothing moves for a commit that recorded another sweep than the one of the context. -/
theorem moveCheckpoint_other {y : StoredSweep} (h : ∀ x, s.erase.sweep = some x → x.pos ≠ y.pos ∨ x.gen ≠ y.gen) :
    moveCheckpoint y s = s := by
  unfold moveCheckpoint setSweep
  have hsame : s.erase.sweep.map (fun x => if x.named y then
      { x with c := y.checkpoint, keep := keepPrune y.checkpoint x.keep } else x) = s.erase.sweep := by
    cases hx : s.erase.sweep with
    | none => rfl
    | some x =>
      refine congrArg some (if_neg (fun hnamed => ?_))
      have hboth : x.pos = y.pos ∧ x.gen = y.gen := by simpa [Sweep.named] using hnamed
      exact (h x hx).elim (fun hp => hp hboth.1) (fun hg => hg hboth.2)
  rw [hsame]

omit hw in
/-- The head leaves, and the next job, if there is one, waits for its region's count (R87, R99). -/
theorem headLeaves_waits (hb : s.store.busy ≠ none) {j : Job} {rest : List Job} (hq : s.erase.queue = j :: rest)
    (h : ∀ k ∈ rest.head?, s.filter.inFlight[k.pos] ≠ 0) : headLeaves s = requestCommit .sweep [] { s with
      erase := { s.erase with
        queue := rest, stage := if rest = [] then .idle else .waitCount, sweep := none } } := by
  have hdrop : dropHead rest s = requestCommit .sweep [] { s with
      erase := { s.erase with
        queue := rest, stage := if rest = [] then .idle else .waitCount, sweep := none } } := by
    have hwaits (e : EraseEngine) := requestCommit_waits (s := { s with erase := e }) (.inl hb) .sweep []
    rw [dropHead, hwaits, hwaits]
    cases rest <;> rfl
  rw [headLeaves, hq, List.tail_cons, hdrop, headCheck]
  simp only [requestCommit_frame]
  cases rest with
  | nil => rfl
  | cons k rest =>
    refine if_neg (fun hrun => ?_)
    simp only [requestCommit_frame] at hrun
    exact h k rfl hrun.2.1

end SweepCommit

end Sys2Proof.Machine

namespace Sys2Proof.Proofs

open Sys2Proof Sys2Proof.Machine

/-- Settles O37: the merge touches what overlaps or is adjacent, the pruning what ends at or below the checkpoint; and
the completion by what the commit recorded. -/
theorem keepMergeLaw : Obligations.KeepMergeLaw := by
  refine ⟨fun r keep hr hk => ⟨keepSorted_keepMerge hr hk, fun a => ?_, ?_⟩, fun c keep hk =>
    ⟨keepSorted_filter hk _, fun k => by simp [keepPrune]⟩, fun s r a hs hd hb hq hw => ?_⟩
  · constructor
    · rintro ⟨k, hk, hka⟩
      rcases mem_keepMerge.mp hk with rfl | ⟨hk, -⟩
      · exact ((merged_has hr a).mp hka).imp_right (fun ⟨j, hj, _, hja⟩ => ⟨j, hj, hja⟩)
      · exact .inr ⟨k, hk, hka⟩
    · rintro (hra | ⟨k, hk, hka⟩)
      · exact ⟨_, mem_keepMerge.mpr (.inl rfl), (merged_has hr a).mpr (.inl hra)⟩
      · cases ht : r.touches k with
        | true => exact ⟨_, mem_keepMerge.mpr (.inl rfl), (merged_has hr a).mpr (.inr ⟨k, hk, ht, hka⟩)⟩
        | false => exact ⟨k, mem_keepMerge.mpr (.inr ⟨hk, ht⟩), hka⟩
  · have htouch : keep.filter (fun k => decide (k.lo ≤ r.hi ∧ r.lo ≤ k.hi)) = keep.filter (Range.touches r) :=
      List.filter_congr (fun k _ => by rw [Bool.eq_iff_iff, touches_iff, decide_eq_true_iff])
    have hsplit := List.length_eq_length_filter_add (l := keep) (Range.touches r)
    rw [htouch, keepMerge, length_insertSorted]
    omega
  · generalize ht : ({ s with store := s.store.write (.sweep r) } : State) = t
    have htw : ∀ x ∈ t.filter.txns, x.waiting = false := by rw [← ht]; exact hw
    have htx : t.erase = s.erase := by rw [← ht]
    have htq : t.store.queue = [] := by rw [← ht]; simpa using hq
    have htb : t.store.busy ≠ none := by rw [← ht]; simp [hb]
    have hcommitted : s.committed (.sweep r) = { t with store.busy := none } := by rw [← ht]; rfl
    have hexec := exec_sweepCommit hs hd hb
    rw [ht] at hexec
    rw [hexec, hcommitted]
    refine ⟨fun x y hr hx hp hg => ?_, fun y hr h => ?_, fun hr h => ?_, fun x j rest hr hx hp hq h => ?_⟩
    · have hnamed : x.named y = true := by simp [Sweep.named, hp, hg]
      rw [sweepStored_recorded htw hr, startNext_empty (by simpa [moveCheckpoint] using htq), moveCheckpoint,
        setSweep_eq (htx ▸ hx), hnamed, htx]
      rfl
    · rw [sweepStored_recorded htw hr, moveCheckpoint_other (by rwa [htx])]
      exact congrArg _ (startNext_empty (t := { t with store.busy := none }) htq)
    · rw [sweepStored_without htw hr (by rwa [htx])]
      exact congrArg _ (startNext_empty (t := { t with store.busy := none }) htq)
    · have hleaves := headLeaves_waits (s := { t with erase.lastResult := x.outcome }) htb (j := j) (rest := rest)
        (by rw [← hq, ← htx]) (by rw [← ht]; exact h)
      rw [sweepStored_ends htw hr (htx ▸ hx) hp, endSweep, hleaves, ← htx]
      exact congrArg _ (startNext_requested (t := { t with
        erase := { t.erase with
          queue := rest, stage := if rest = [] then .idle else .waitCount, sweep := none, lastResult := x.outcome } })
        htb .sweep [])

end Sys2Proof.Proofs
end

section
/-! SUPPORT. The cuts of a segment of the sweeping region (R48 to R50), and the admission of a WRITE there (R51,
R102). -/

namespace Sys2Proof.Machine

open Sys2Proof

/-! ### The cut of a READ (R48) -/

/-- Ranges within one, each apart from the next, leave a sector of it unless they are that range alone. -/
theorem exists_uncovered {r : Range} (hr : r.lo < r.hi) {l : List Range}
    (hin : ∀ z ∈ l, r.lo ≤ z.lo ∧ z.lo < z.hi ∧ z.hi ≤ r.hi) (hpair : l.Pairwise (fun z y => z.hi < y.lo))
    (hne : l ≠ [r]) : ∃ a, r.has a = true ∧ ∀ z ∈ l, z.has a = false := by
  cases l with
  | nil => exact ⟨r.lo, (has_iff r _).mpr ⟨le_rfl, hr⟩, fun z hz => absurd hz List.not_mem_nil⟩
  | cons z l =>
    obtain ⟨hz, -⟩ := List.pairwise_cons.mp hpair
    have hzin := hin z List.mem_cons_self
    by_cases hlo : r.lo < z.lo
    · refine ⟨r.lo, (has_iff r _).mpr ⟨le_rfl, hr⟩, fun y hy => (has_false_iff y _).mpr ?_⟩
      rcases List.mem_cons.mp hy with rfl | hy
      · omega
      · have := hz y hy
        omega
    · by_cases hhi : z.hi < r.hi
      · refine ⟨z.hi, (has_iff r _).mpr (by omega), fun y hy => (has_false_iff y _).mpr ?_⟩
        rcases List.mem_cons.mp hy with rfl | hy
        · omega
        · have := hz y hy
          omega
      · refine absurd ?_ hne
        cases l with
        | nil =>
          have hlo' : z.lo = r.lo := by omega
          have hhi' : z.hi = r.hi := by omega
          obtain ⟨zlo, zhi⟩ := z
          obtain rfl : zlo = r.lo := hlo'
          obtain rfl : zhi = r.hi := hhi'
          rfl
        | cons y l =>
          have hy := hz y List.mem_cons_self
          have hyin := hin y (List.mem_cons_of_mem _ List.mem_cons_self)
          omega

/-! ### Fragments in order -/

theorem mem_fragIf {f : Range → Frag} {r : Range} {g : Frag} : g ∈ fragIf f r ↔ r.lo < r.hi ∧ g = f r := by
  unfold fragIf
  split_ifs with h <;> simp [h]

theorem fragIf_empty {f : Range → Frag} {r : Range} (h : r.hi ≤ r.lo) : fragIf f r = [] := if_neg (Nat.not_lt.mpr h)

theorem fragIf_full {f : Range → Frag} {r : Range} (h : r.lo < r.hi) : fragIf f r = [f r] := if_pos h

theorem fragIf_ordered (f : Range → Frag) (r : Range) :
    (fragIf f r).Pairwise (fun g h => g.range.hi ≤ h.range.lo) := by
  unfold fragIf
  split_ifs <;> simp

/-! ### The cut of a WRITE (R49) -/

section Write

variable {s : State} {p : Pos} {e : Entry} {x : Sweep} {r : Range}

/-- The pieces of a recorded range (R49). -/
def State.recordedPieces (s : State) (p : Pos) (e : Entry) (x : Sweep) (r : Range) : List Frag :=
  fragIf (newFrag s .write p e .pass true []) ⟨max r.lo x.c, min r.hi x.w⟩ ++
    fragIf (newFrag s .write p e (.hold ((x.chunk.map Chunk.serial).getD 0)) true []) ⟨max r.lo x.w, min r.hi x.q⟩ ++
    fragIf (newFrag s .write p e .pass true []) ⟨max (max r.lo x.c) x.q, r.hi⟩

/-- The piece below the checkpoint, which is not recorded (R49). -/
def State.belowPieces (s : State) (p : Pos) (e : Entry) (x : Sweep) (r : Range) : List Frag :=
  fragIf (newFrag s .write p e .pass false []) ⟨r.lo, min r.hi x.c⟩

theorem cutWrite_below (hr : r.lo < r.hi) (h : r.hi ≤ x.c) :
    cutWrite s p e x r = some ⟨[newFrag s .write p e .pass false [] r], none⟩ := by
  rw [cutWrite, if_pos (by simp only; omega), Nat.min_eq_left h, fragIf_full hr]

theorem cutWrite_full (hr : r.lo < r.hi) (h : x.c < r.hi)
    (hk : 16 < (keepMerge ⟨max r.lo x.c, r.hi⟩ x.keep).length) : cutWrite s p e x r = none := by
  rw [cutWrite, if_neg (by simp only; omega)]
  exact if_pos hk

theorem cutWrite_recorded (hr : r.lo < r.hi) (h : x.c < r.hi)
    (hk : (keepMerge ⟨max r.lo x.c, r.hi⟩ x.keep).length ≤ 16) : cutWrite s p e x r =
      some ⟨s.belowPieces p e x r ++ s.recordedPieces p e x r, some ⟨max r.lo x.c, r.hi⟩⟩ := by
  rw [cutWrite, if_neg (by simp only; omega)]
  refine (if_neg (Nat.not_lt.mpr hk)).trans ?_
  simp only [State.belowPieces, State.recordedPieces, List.append_assoc]

/-- What each recorded piece is. -/
theorem mem_recordedPieces {g : Frag} : g ∈ s.recordedPieces p e x r ↔
    (max r.lo x.c < min r.hi x.w ∧ g = newFrag s .write p e .pass true [] ⟨max r.lo x.c, min r.hi x.w⟩) ∨
    (max r.lo x.w < min r.hi x.q ∧ g =
      newFrag s .write p e (.hold ((x.chunk.map Chunk.serial).getD 0)) true [] ⟨max r.lo x.w, min r.hi x.q⟩) ∨
    (max (max r.lo x.c) x.q < r.hi ∧ g = newFrag s .write p e .pass true [] ⟨max (max r.lo x.c) x.q, r.hi⟩) := by
  simp only [State.recordedPieces, List.mem_append, mem_fragIf, or_assoc]

theorem mem_belowPieces {g : Frag} : g ∈ s.belowPieces p e x r ↔
    r.lo < min r.hi x.c ∧ g = newFrag s .write p e .pass false [] ⟨r.lo, min r.hi x.c⟩ := mem_fragIf

/-- The pieces stand in LBA order. -/
theorem writePieces_ordered (hcw : x.c ≤ x.w) (hwq : x.w ≤ x.q) :
    (s.belowPieces p e x r ++ s.recordedPieces p e x r).Pairwise (fun g h => g.range.hi ≤ h.range.lo) := by
  refine List.pairwise_append.mpr ⟨fragIf_ordered _ _, List.pairwise_append.mpr ⟨List.pairwise_append.mpr
    ⟨fragIf_ordered _ _, fragIf_ordered _ _, fun g hg h hh => ?_⟩, fragIf_ordered _ _, fun g hg h hh => ?_⟩,
    fun g hg h hh => ?_⟩
  · obtain ⟨-, rfl⟩ := mem_fragIf.mp hg
    obtain ⟨-, rfl⟩ := mem_fragIf.mp hh
    simp only [newFrag]
    omega
  · obtain ⟨-, rfl⟩ := mem_fragIf.mp hh
    rcases List.mem_append.mp hg with hg | hg <;> obtain ⟨-, rfl⟩ := mem_fragIf.mp hg <;> simp only [newFrag] <;> omega
  · obtain ⟨-, rfl⟩ := mem_belowPieces.mp hg
    rcases mem_recordedPieces.mp hh with ⟨-, rfl⟩ | ⟨-, rfl⟩ | ⟨-, rfl⟩ <;> simp only [newFrag] <;> omega

/-- Every piece is a part of the segment that waits for its data, under the slot's key. -/
theorem writePieces_fields {g : Frag} (hg : g ∈ s.belowPieces p e x r ++ s.recordedPieces p e x r) :
    g.range.lo < g.range.hi ∧ r.lo ≤ g.range.lo ∧ g.range.hi ≤ r.hi ∧ g.key = s.instanceOf e ∧ g.pos = some p ∧
      g.state = .waiting ∧ g.stored = [] := by
  rcases List.mem_append.mp hg with hg | hg
  · obtain ⟨hlt, rfl⟩ := mem_belowPieces.mp hg
    refine ⟨hlt, ?_, ?_, rfl, rfl, rfl, rfl⟩ <;> simp only [newFrag] <;> omega
  · rcases mem_recordedPieces.mp hg with ⟨hlt, rfl⟩ | ⟨hlt, rfl⟩ | ⟨hlt, rfl⟩ <;>
      refine ⟨hlt, ?_, ?_, rfl, rfl, rfl, rfl⟩ <;> simp only [newFrag] <;> omega

/-- The piece that a sector lies in, and its kind. -/
theorem writePieces_at (hcw : x.c ≤ x.w) (hwq : x.w ≤ x.q) {a : Nat} (ha : r.has a = true) :
    ∃ g ∈ s.belowPieces p e x r ++ s.recordedPieces p e x r, g.range.has a = true ∧ (g.recorded = true ↔ x.c ≤ a) ∧
      (a < x.w ∨ x.q ≤ a → g.kind = .pass) ∧
      (∀ n b, x.w ≤ a → a < x.q → x.chunk = some ⟨n, b⟩ → g.kind = .hold n) := by
  have ha := (has_iff r a).mp ha
  by_cases hc : a < x.c
  · refine ⟨_, List.mem_append_left _ (mem_belowPieces.mpr ⟨by omega, rfl⟩), (has_iff _ a).mpr ?_, ?_, fun _ => rfl,
      fun n b hw => by omega⟩
    · simp only [newFrag]
      omega
    · simp only [newFrag, Bool.false_eq_true, false_iff]
      omega
  · have hrec : x.c ≤ a := Nat.not_lt.mp hc
    by_cases hw : a < x.w
    · refine ⟨_, List.mem_append_right _ (mem_recordedPieces.mpr (.inl ⟨by omega, rfl⟩)), (has_iff _ a).mpr ?_,
        iff_of_true rfl hrec, fun _ => rfl, fun n b hwa => by omega⟩
      simp only [newFrag]
      omega
    · by_cases hq : a < x.q
      · refine ⟨_, List.mem_append_right _ (mem_recordedPieces.mpr (.inr (.inl ⟨by omega, rfl⟩))), (has_iff _ a).mpr ?_,
          iff_of_true rfl hrec, fun h => by omega, fun n b _ _ hk => ?_⟩
        · simp only [newFrag]
          omega
        · simp [newFrag, hk]
      · refine ⟨_, List.mem_append_right _ (mem_recordedPieces.mpr (.inr (.inr ⟨by omega, rfl⟩))), (has_iff _ a).mpr ?_,
          iff_of_true rfl hrec, fun _ => rfl, fun n b _ hqa => by omega⟩
        simp only [newFrag]
        omega

/-- What the cut of a WRITE gives is not empty, and waits. -/
theorem cutWrite_waiting (hr : r.lo < r.hi) {gs : List Frag} {k : Option Range}
    (h : cutWrite s p e x r = some ⟨gs, k⟩) : gs ≠ [] ∧ ∀ g ∈ gs, g.state = .waiting := by
  by_cases hbelow : r.hi ≤ x.c
  · rw [cutWrite_below hr hbelow] at h
    obtain ⟨rfl, -⟩ := Pieces.mk.inj (Option.some.inj h)
    exact ⟨by simp, by simp [newFrag]⟩
  · have hc := Nat.not_le.mp hbelow
    by_cases hk : (keepMerge ⟨max r.lo x.c, r.hi⟩ x.keep).length ≤ 16
    · rw [cutWrite_recorded hr hc hk] at h
      obtain ⟨rfl, -⟩ := Pieces.mk.inj (Option.some.inj h)
      refine ⟨fun hnil => ?_, fun g hg => (writePieces_fields hg).2.2.2.2.2.1⟩
      have hnone (g : Frag) : g ∉ s.belowPieces p e x r ++ s.recordedPieces p e x r := by
        rw [hnil]
        exact List.not_mem_nil
      by_cases h1 : r.lo < x.c
      · exact hnone _ (List.mem_append_left _ (mem_belowPieces.mpr ⟨by omega, rfl⟩))
      · by_cases h2 : r.lo < x.w
        · exact hnone _ (List.mem_append_right _ (mem_recordedPieces.mpr (.inl ⟨by omega, rfl⟩)))
        · by_cases h3 : r.lo < x.q
          · exact hnone _ (List.mem_append_right _ (mem_recordedPieces.mpr (.inr (.inl ⟨by omega, rfl⟩))))
          · exact hnone _ (List.mem_append_right _ (mem_recordedPieces.mpr (.inr (.inr ⟨by omega, rfl⟩))))
    · rw [cutWrite_full hr hc (Nat.not_le.mp hk)] at h
      cases h

end Write

/-! ### The admission of a WRITE to the sweeping region (R51, R102) -/

theorem sweepDecide_sweepAsked {s : State} (h : s.sweepAsked) : (sweepDecide s).sweepAsked := by
  rcases sweepDecide_cases s with hd | ⟨x, l, -, -, -, -, -, -, hd⟩
  · rwa [hd]
  · rw [hd]
    exact requestCommit_sweepAsked (.inr rfl) _

/-- The finish leaves the progress and the keep list of the sweep. -/
theorem sweepDecide_sweep {s : State} {x : Sweep} (hx : s.erase.sweep = some x) :
    (sweepDecide s).erase.additions = s.erase.additions ∧
      ∃ y, (sweepDecide s).erase.sweep = some y ∧ y.keep = x.keep ∧ y.c = x.c ∧ y.w = x.w ∧ y.q = x.q ∧
        y.chunk = x.chunk := by
  rcases sweepDecide_cases s with hd | ⟨-, l, -, -, -, -, -, -, hd⟩
  · rw [hd]
    exact ⟨rfl, x, hx, rfl, rfl, rfl, rfl, rfl⟩
  · rw [hd, beginEnding_eq hx]
    simp only [requestCommit_frame]
    exact ⟨trivial, _, rfl, rfl, rfl, rfl, rfl, rfl⟩

/-- The cut of a WRITE segment of the sweeping region that passes its checks. -/
theorem cutPart_sweeping {s : State} {p : Pos} {e : Entry} {x : Sweep}
    (ho : e.cls = .pub ∨ ∃ k : SlotIx, e.slot = some k ∧ s.cipher.slots[k].state = .opened)
    (hw : e.cls = .priv ∧ e.writable = true ∧ s.readerOpen = false) (hs : s.eraseState p = .sweeping)
    (hx : s.erase.sweep = some x) (r : Range) :
    (cutWrite s p e x r = none → cutPart s .write (.segment p e r) = .error .eraseBusy) ∧
    (∀ y, cutWrite s p e x r = some y → cutPart s .write (.segment p e r) = .ok y) := by
  have hpass : segmentStatus s .write p e = none := by
    rw [segmentStatus_writable ho (.inr hw), if_neg (by simp [hs])]
  have hcut : cutPart s .write (.segment p e r) =
      (cutWrite s p e x r).elim (.error .eraseBusy) .ok := by
    simp only [cutPart, cutSegment, hpass, hs, hx, ↓reduceIte]
    cases cutWrite s p e x r <;> rfl
  rw [hcut]
  exact ⟨fun h => by rw [h]; rfl, fun y h => by rw [h]; rfl⟩

theorem entered_frame (s : State) (t : Txn) (gs : List Frag) (k : Option Range) :
    (s.entered t gs k).filter.queue = s.filter.queue ∧ (s.entered t gs k).replies = s.replies ∧
      (s.entered t gs k).erase = s.erase ∧ (s.entered t gs k).store = s.store ∧
      (s.entered t gs k).filter.txns = s.filter.txns ++ [t.admitted s gs k] ∧
      (s.entered t gs k).filter.issueQ = s.filter.issueQ ∧
      (s.entered t gs k).filter.total = s.filter.total + gs.length := by
  obtain ⟨v, hv⟩ := foldl_raiseCounts (nameFrags s.counters.ids gs) { s with
    filter.txns := s.filter.txns ++ [t.admitted s gs k], counters.ids := s.counters.ids + gs.length }
  rw [nameFrags_length] at hv
  rw [State.entered, hv]
  exact ⟨rfl, rfl, rfl, rfl, rfl, rfl, rfl⟩

end Sys2Proof.Machine

namespace Sys2Proof.Proofs

open Sys2Proof Sys2Proof.Machine

/-- Settles O36: the zero set, the pieces of a WRITE and of a DISCARD sector by sector, and the admission of the
WRITE's pieces. -/
theorem sweepReadCut : Obligations.SweepReadCut := by
  refine ⟨fun s p e x r hr hk => ?_, fun s p e x r hr hcw hwq => ⟨fun h => ?_, fun h hfull => cutWrite_full hr h hfull,
    fun h hroom => ?_⟩, fun s p e x r hr => ?_, ?_⟩
  · obtain ⟨hin, hpair⟩ := subtractKeep_bounds (lo := max r.lo x.w) (hi := r.hi) hk
    have hhas (a : Nat) (ha : r.has a = true) : (∃ z ∈ subtractKeep (max r.lo x.w) r.hi x.keep, z.has a = true) ↔
        x.w ≤ a ∧ ∀ k ∈ x.keep, k.has a = false := by
      have ha := (has_iff r a).mp ha
      rw [subtractKeep_has hk a]
      exact and_congr_left' (by omega)
    generalize hz : subtractKeep (max r.lo x.w) r.hi x.keep = z at hin hpair hhas
    rw [cutRead, hz]
    by_cases hnil : z = []
    · refine ⟨_, if_pos hnil, rfl, rfl, rfl, fun _ => ⟨rfl, fun a ha hno => ?_⟩, fun h => ?_, fun h => ?_, .inl rfl⟩
      · obtain ⟨y, hy, -⟩ := (hhas a ha).mpr hno
        rw [hnil] at hy
        exact absurd hy List.not_mem_nil
      · cases h
      · cases h
    · by_cases hone : z = [r]
      · refine ⟨_, (if_neg hnil).trans (if_pos hone), rfl, rfl, rfl, fun h => ?_, fun _ => ⟨rfl, fun a ha =>
          (hhas a ha).mp ⟨r, by rw [hone]; exact List.mem_singleton_self r, ha⟩⟩, fun h => ?_, .inr (.inl rfl)⟩
        · cases h
        · cases h
      · refine ⟨_, (if_neg hnil).trans (if_neg hone), rfl, rfl, rfl, fun h => ?_, fun h => ?_, fun _ => ⟨rfl, ?_, ?_,
          fun a ha => hhas a ha⟩, .inr (.inr rfl)⟩
        · cases h
        · cases h
        · obtain ⟨y, hy⟩ := List.exists_mem_of_ne_nil z hnil
          have hyin := hin y hy
          have hr' : r.has y.lo = true := (has_iff r _).mpr (by omega)
          exact ⟨y.lo, hr', (hhas _ hr').mp ⟨y, hy, (has_iff y _).mpr (by omega)⟩⟩
        · obtain ⟨a, ha, hno⟩ := exists_uncovered hr (fun y hy => by have := hin y hy; omega) hpair hone
          refine ⟨a, ha, fun h => ?_⟩
          obtain ⟨y, hy, hya⟩ := (hhas a ha).mpr h
          exact absurd hya (by simp [hno y hy])
  · exact ⟨_, cutWrite_below hr h, rfl, rfl, rfl, rfl, rfl⟩
  · refine ⟨_, cutWrite_recorded hr h hroom, fun g hg => writePieces_fields hg, fun a ha => ?_⟩
    obtain ⟨g, hg, hga, hrec, hpass, hhold⟩ := writePieces_at (s := s) (p := p) (e := e) hcw hwq ha
    exact ⟨g, hg, hga, fun y hy hya => eq_of_ordered (writePieces_ordered hcw hwq) hy hg hya hga, hrec, hpass, hhold⟩
  · refine ⟨_, rfl, fun a ha => ?_⟩
    have ha := (has_iff r a).mp ha
    have hord : (fragIf (newFrag s .discard p e .pass false []) ⟨r.lo, min r.hi x.w⟩ ++
        fragIf (newFrag s .discard p e .skip false []) ⟨max r.lo x.w, r.hi⟩).Pairwise
        (fun g h => g.range.hi ≤ h.range.lo) := by
      refine List.pairwise_append.mpr ⟨fragIf_ordered _ _, fragIf_ordered _ _, fun g hg h hh => ?_⟩
      obtain ⟨-, rfl⟩ := mem_fragIf.mp hg
      obtain ⟨-, rfl⟩ := mem_fragIf.mp hh
      simp only [newFrag]
      omega
    by_cases hw : a < x.w
    · have hmem := List.mem_append_left (fragIf (newFrag s .discard p e .skip false []) ⟨max r.lo x.w, r.hi⟩)
        (mem_fragIf (f := newFrag s .discard p e .pass false []) (r := ⟨r.lo, min r.hi x.w⟩) |>.mpr
            ⟨by simp only; omega, rfl⟩)
      have hga : (newFrag s .discard p e .pass false [] ⟨r.lo, min r.hi x.w⟩).range.has a = true :=
        (has_iff _ a).mpr (by simp only [newFrag]; omega)
      exact ⟨_, hmem, hga, fun y hy hya => eq_of_ordered hord hy hmem hya hga, fun _ => ⟨rfl, rfl⟩, fun h => by omega⟩
    · have hmem := List.mem_append_right (fragIf (newFrag s .discard p e .pass false []) ⟨r.lo, min r.hi x.w⟩)
        (mem_fragIf (f := newFrag s .discard p e .skip false []) (r := ⟨max r.lo x.w, r.hi⟩) |>.mpr
            ⟨by simp only; omega, rfl⟩)
      have hga : (newFrag s .discard p e .skip false [] ⟨max r.lo x.w, r.hi⟩).range.has a = true :=
        (has_iff _ a).mpr (by simp only [newFrag]; omega)
      exact ⟨_, hmem, hga, fun y hy hya => eq_of_ordered hord hy hmem hya hga, fun h => absurd h hw, fun _ =>
          ⟨rfl, rfl⟩⟩
  · intro s t rest p e u k x hq hk hquiesce hrun hroom hw hf hm ht hu hlaw hlen he hlo hr hhi hru hnames hc hslot hopen
        hwr
      hreader hsweep hx
    have htakes : s.takes t rest := ⟨hq, .inr (.inl hk), hquiesce, hrun, hroom, driveRefuses_false hw hf hm ht⟩
    have hsplit := splitRequest_one hlaw he hlo hr hhi hru
    obtain ⟨hbusy, hok⟩ := cutPart_sweeping (s := s) (p := p) (.inr ⟨k, hslot, hopen⟩) ⟨hc, hwr, hreader⟩ hsweep hx
        t.range
    have hpassed {gs : List Frag} {kept : Option Range} (h : cutWrite s p e x t.range = some ⟨gs, kept⟩) :
        exec .admission s = .next (admitWith t gs kept (s.dequeued rest)) := by
      rw [htakes.passed hu (l := [⟨gs, kept⟩]) (by rw [hsplit, List.map_singleton, hk, hok _ h]; rfl)]
      cases kept <;> simp
    have hids := head_not_admitted hnames hq
    have hheld : (if t.kind = .read ∨ t.kind = .write then t.need else 0) = t.range.len := by simp [hk, Txn.need]
    refine ⟨fun h => htakes.refused hu (before := []) hsplit (by simp) (by rw [hk]; exact hbusy h), fun gs h => ?_,
      fun gs r h => ?_⟩
    · obtain ⟨hne, hwait⟩ := cutWrite_waiting hr h
      obtain ⟨hqueue, hreplies, herase, -, htxns, -, -⟩ := entered_frame (s.dequeued rest) t gs none
      refine ⟨_, (hpassed h).trans (congrArg _ ((admitWith_none (s := s.dequeued rest) hids hne hwait hm).trans
          (if_pos hk))),
        hqueue, hreplies, herase, htxns.trans ?_⟩
      rw [Txn.admitted, hheld]
      rfl
    · obtain ⟨hne, hwait⟩ := cutWrite_waiting hr h
      obtain ⟨hqueue, hreplies, herase, -, htxns, hissue, htotal⟩ := entered_frame (s.dequeued rest) t gs (some r)
      have hexec := (hpassed h).trans
        (congrArg _ (admitWith_some (s := s.dequeued rest) hids hne hwait hk r))
      generalize (s.dequeued rest).entered t gs (some r) = v at hqueue hreplies herase htxns hissue htotal hexec
      generalize hb : requestCommit .sweep [] { v with
        erase.sweep := v.erase.sweep.map (fun x => { x with keep := keepMerge r x.keep })
        erase.additions := v.erase.additions + 1 } = b
      have hadd : addKeep r v = sweepDecide b := by rw [← hb]; rfl
      have hbe : b.erase = { s.erase with
          sweep := some { x with keep := keepMerge r x.keep }, additions := s.erase.additions + 1 } := by
        rw [← hb]
        simp [herase, State.dequeued, hx]
      have hbf : b.filter = v.filter := by rw [← hb]; simp
      have hbr : b.replies = v.replies := by rw [← hb]; simp
      have hasked : b.sweepAsked := by rw [← hb]; exact requestCommit_sweepAsked (.inr rfl) _
      obtain ⟨hadditions, y, hy, hkeep, hyc, hyw, hyq, hychunk⟩ :=
        sweepDecide_sweep (s := b) (x := { x with keep := keepMerge r x.keep }) (by rw [hbe])
      refine ⟨_, y, hexec.trans (congrArg _ hadd), ?_, ?_, ?_, ?_, ?_, ?_, hy, hkeep, hyc, hyw, hyq, hychunk,
        sweepDecide_sweepAsked hasked⟩
      · simp only [sweepDecide_frame, hbf, hqueue]
        rfl
      · simp only [sweepDecide_frame, hbr, hreplies]
        rfl
      · simp only [sweepDecide_frame, hbf, htxns, Txn.admitted, hheld]
        rfl
      · simp only [sweepDecide_frame, hbf, hissue]
        rfl
      · simp only [sweepDecide_frame, hbf, htotal]
        rfl
      · rw [hadditions, hbe]

end Sys2Proof.Proofs
end

section
/-! SUPPORT. The completion of a commit: what its requesters do, and the durability waits (R35, R37, R59, R60, R140,
R167, R192 to R195). -/

namespace Sys2Proof.Machine

open Sys2Proof

/-! ### The row (R192, R194, R195) -/

/-- The state as a completed commit's content is stored, the commit still in progress. -/
def State.storing (s : State) (x : RecordContent) : State := { s with store := s.store.write x }

section Row

variable {s : State} {c : Commit} (hb : s.store.busy = some c)

include hb

theorem exec_commitFault (hs : s.staysAwake) (hd : s.ctl.drive = .fault) :
    exec (.commitCompletion true) s = .next (s.committed c.content) := by
  rw [exec_commitVerified hs hb]
  exact congrArg _ (if_pos hd)

theorem exec_commitFailed : exec (.commitCompletion false) s = .next (standbyCheck (enterFault .storeWrite
    { s with store := { s.store.spoil c.content with busy := none } })) := by
  simp only [exec, execCommitCompletion, hb]
  rfl

/-- The requesters of a verified commit that is not one of SWEEP are told. -/
theorem exec_commitTold (hs : s.staysAwake) (hd : s.ctl.drive ≠ .fault) (hsweep : ∀ r, c.content ≠ .sweep r) :
    exec (.commitCompletion true) s = .next (startNext
      { c.waiters.foldl (fun s w => tellWaiter w s) (s.storing c.content) with store.busy := none }) := by
  rw [exec_commitVerified hs hb, commitVerified_tells hd, tellRequesters_other hsweep]
  rfl

end Row

theorem startNext_committed {s : State} (hq : s.store.queue = []) (x : RecordContent) :
    startNext { s.storing x with store.busy := none } = s.committed x :=
  startNext_empty (t := { s.storing x with store.busy := none }) (by simpa [State.storing] using hq)

@[simp] theorem spoil_queue (x : RecordContent) (st : Store) : (st.spoil x).queue = st.queue := by
  cases x <;> rfl

/-! ### The wipe's commits (R167) -/

theorem wipeRequest_profile {k : Nat} (h2 : k ≠ 2) (h11 : k ≠ 11) (h12 : k ≠ 12) (s : State) : wipeRequest k s =
    requestCommit (.profile (wipeProfile k)) [.wipe k] { s with ctl.wipeStep := some k } := by
  unfold wipeRequest
  split
  · exact absurd rfl h2
  · exact absurd rfl h11
  · exact absurd rfl h12
  · rfl

theorem wipeStepDone_next {s : State} {k : Nat} (h : s.ctl.wipeStep = some k) (h1 : k ≠ 1) (h2 : k ≠ 2)
    (h12 : k ≠ 12) : wipeStepDone k s = wipeRequest (k + 1) s := by
  unfold wipeStepDone
  rw [if_neg (not_not_intro h)]
  split
  · exact absurd rfl h1
  · exact absurd rfl h2
  · exact absurd rfl h12
  · rfl

theorem wipeProfile_succ {p : ProfIx} (h : p < 7) : wipeProfile (p.val + 3 + 1) = p + 1 := by
  revert p
  decide

/-! ### The durability waits (R59, R60) -/

theorem waitEnds_iff {c : Nat} {noted : BitVec 32} {t : Txn} : waitEnds (some c) noted t = true ↔
    (∃ b, t.addition = some b ∧ (noted - b).toNat < 2147483648) ∨ ∃ q, t.recorded = some q ∧ q.hi ≤ c := by
  unfold waitEnds addedBefore
  cases t.addition <;> cases t.recorded <;> simp

section Waits

variable {s : State} {before after : List Txn} {t : Txn}

theorem filter_middle {α : Type} {p : α → Bool} {before after : List α} {x : α}
    (h : ∀ z ∈ before ++ after, p z = false) :
    (before ++ x :: after).filter p = if p x then [x] else [] := by
  have hbefore : before.filter p = [] :=
    List.filter_eq_nil_iff.mpr (fun z hz => by simp [h z (List.mem_append_left _ hz)])
  have hafter : after.filter p = [] :=
    List.filter_eq_nil_iff.mpr (fun z hz => by simp [h z (List.mem_append_right _ hz)])
  rw [List.filter_append, List.filter_cons, hbefore, hafter, List.nil_append]

variable (hn : s.namesInv) (ht : s.filter.txns = before ++ t :: after)

include hn ht

theorem others_named : ∀ z ∈ before ++ after, z.id ≠ t.id := by
  have hids := hn.1
  rw [List.map_append, ht] at hids
  have hids := (List.nodup_append.mp hids).2.1
  rw [List.map_append, List.map_cons, List.nodup_middle, List.nodup_cons, ← List.map_append] at hids
  exact fun z hz hid => hids.1 (hid ▸ List.mem_map_of_mem hz)

omit hn ht in
theorem put_middle {u : State} (hu : u.filter.txns = before ++ t :: after) (hother : ∀ z ∈ before ++ after, z.id ≠ t.id)
    {v : Txn} (hv : v.id = t.id) : (u.put v).filter.txns = before ++ v :: after := by
  have hsame (l : List Txn) (hl : ∀ z ∈ l, z.id ≠ t.id) : l.map (fun x => if x.id = v.id then v else x) = l :=
    (List.map_congr_left (fun z hz => if_neg (hv ▸ hl z hz))).trans (List.map_id _)
  have hmap : (u.put v).filter.txns = u.filter.txns.map (fun x => if x.id = v.id then v else x) := rfl
  rw [hmap, hu, List.map_append, List.map_cons, if_pos hv.symm,
    hsame before (fun z hz => hother z (List.mem_append_left _ hz)),
    hsame after (fun z hz => hother z (List.mem_append_right _ hz))]

omit hn ht in
theorem remove_middle {u : State} (hu : u.filter.txns = before ++ t :: after)
    (hother : ∀ z ∈ before ++ after, z.id ≠ t.id) : (removeTxn t.id u).filter.txns = before ++ after := by
  have hremove : (removeTxn t.id u).filter.txns = u.filter.txns.filter (fun x => x.id != t.id) := rfl
  rw [hremove, hu, List.filter_append, List.filter_cons, if_neg (by simp), List.filter_eq_self.mpr,
      List.filter_eq_self.mpr]
  · exact fun z hz => by simpa using hother z (List.mem_append_right _ hz)
  · exact fun z hz => by simpa using hother z (List.mem_append_left _ hz)

/-- The record of the one WRITE that waits changes, and with its fragments ended the WRITE is complete. -/
theorem completeTxn_changed {v : Txn} (f : Txn → Txn) (hf : f t = v) (hid : v.id = t.id) (hfr : v.frags = t.frags)
    (hd : v.dropped = false) (hk : v.kind = .write) (hdone : ¬(v.status = .good ∧ v.waiting = true)) :
    ((∀ g ∈ t.frags, g.state = .done ∨ g.state = .failed) → completeTxn t.id (setTxn t.id f s) =
      endReply v.tag v.status none [] { s with filter.txns := before ++ after }) ∧
    ((∃ g ∈ t.frags, g.state ≠ .done ∧ g.state ≠ .failed) → completeTxn t.id (setTxn t.id f s) =
      { s with filter.txns := before ++ v :: after }) := by
  have hcar : s.carries t := State.carries.of_names hn (by rw [ht]; simp)
  have hother := others_named hn ht
  have hput : setTxn t.id f s = s.put v := by
    rw [setTxn_eq_put hcar (by rw [hf]; exact hid), hf]
  have hcarv : (s.put v).carries v := carries_put hcar hid (by rw [hfr])
  rw [hput, ← hid]
  refine ⟨fun hall => ?_, fun ⟨g, hg, hgd, hgf⟩ => ?_⟩
  · have hended : v.frags.all Frag.ended = true := by
      rw [hfr, List.all_eq_true]
      exact fun g hg => by simpa [Frag.ended] using hall g hg
    rw [completeTxn_ends hcarv hended hd (fun h => hdone h.2), if_neg (by simp [hk]), hid, removeTxn_put hcar hid]
    have hremove : removeTxn t.id s = { s with filter.txns := before ++ after } := by
      rw [← remove_middle ht hother]
      rfl
    rw [hremove]
  · rw [completeTxn_pending (findTxn_of_carries hcarv) (hfr ▸ hg) (by simp [Frag.ended, hgd, hgf]),
      ← put_middle ht hother hid]
    rfl

end Waits

end Sys2Proof.Machine

namespace Sys2Proof.Proofs

open Sys2Proof Sys2Proof.Machine

/-- Settles O40: what is stored, what the requesters do as they are told, and what starts or fails then. -/
theorem commitCompletes : Obligations.CommitCompletes := by
  refine ⟨fun s hs => ⟨fun v hb => ?_, fun o n hb hd hq => ?_, fun o n e rest hb hd hq => ?_, fun c hb hd =>
    exec_commitFault hb hs hd, fun c hb hd hq => ?_⟩, ?_, ?_, ?_, ?_, ?_⟩
  · simp [exec, execCommitCompletion, hb]
  · rw [exec_commitTold hb hs hd (by simp)]
    exact congrArg _ (startNext_committed hq _)
  · rw [exec_commitTold hb hs hd (by simp)]
    have hq' : (s.storing (.options o)).store.queue = e :: rest := by simpa [State.storing] using hq
    have hnext {t : State} (ht : t.ctl.drive ≠ .fault) (htb : t.store.busy = none) (htq : t.store.queue = e :: rest) :
        startNext t = { t with
          store := { t.store with
            queue := rest, busy := some ⟨t.capture e.record, e.waiters, t.erase.additions⟩ } } := by
      rw [startNext, if_neg (by simp [ht, htb]), htq]
    refine congrArg Host.Outcome.next ((hnext (t := { s.storing (.options o) with store.busy := none }) hd rfl
        hq').trans ?_)
    cases e.record <;> rfl
  · generalize hf : ({ s with store := { s.store.spoil c.content with busy := none } } : State) = b
    have hbd : b.ctl.drive ≠ .fault := by rw [← hf]; exact hd
    have hbq : b.filter.quiesce = .apply → b.regions.apply = .draining := by rw [← hf]; exact hq
    refine ⟨_, exec_commitFailed hb, ?_⟩
    rw [hf]
    simp only [standbyCheck_frame, enterFault_ctl hbd, enterFault_cred hbd, enterFault_store hbd _ hbq,
      enterFault_regions hbd _ hbq, endApply_regions, enterFault_frame, true_and]
    subst hf
    exact ⟨rfl, rfl, rfl, rfl⟩
  · intro s m a n hs hd hb hq hn hsw hap hqu
    rw [exec_commitTold hb hs hd (by simp)]
    have htell : applyStored (s.storing (.map m)) = { s.storing (.map m) with
        regions.apply := .idle, regions.snapshot := none, filter.quiesce := .none } := by
      have hany : (s.storing (.map m)).regions.snapshot.any Snapshot.swapped = true := by
        simp [State.storing, hn, hsw]
      rw [applyStored, if_pos hany, endApply]
      refine (if_pos hap).trans ?_
      rw [if_pos (by exact hqu)]
    have hq' : (s.storing (.map m)).store.queue = [] := by simpa [State.storing] using hq
    simp only [List.foldl_cons, List.foldl_nil, tellWaiter, htell]
    exact congrArg _ (startNext_empty (t := { s.storing (.map m) with
      regions.apply := .idle, regions.snapshot := none, filter.quiesce := .none, store.busy := none }) hq')
  · intro s r v a hs hd hb hq hr
    have hbusy : (s.storing (.profile r v)).store.busy ≠ none := by simp [State.storing, hb]
    have htell : removalStored r (s.storing (.profile r v)) = clearRemoved r { s.storing (.profile r v) with
        cred.removal := s.cred.removal.set r false } := if_pos hr
    rw [exec_commitTold hb hs hd (by simp)]
    simp only [List.foldl_cons, List.foldl_nil, tellWaiter, htell, clearRemoved]
    refine congrArg Host.Outcome.next ((startNext_requested ?_ .map []).trans rfl)
    exact hbusy
  · intro s x a k hs hd hk hb hq hsweep
    have hdf : s.ctl.drive ≠ .fault := by simp [hd]
    have hbusy : (s.storing x).store.busy ≠ none := by simp [State.storing, hb]
    have hother (hk2 : k ≠ 2) : exec (.commitCompletion true) s = .next (startNext
        { wipeStepDone k (s.storing x) with store.busy := none }) :=
      exec_commitTold hb hs hdf (fun r hx => hk2 (hsweep r hx))
    have hnext (h1 : k ≠ 1) (h2 : k ≠ 2) (h12 : k ≠ 12) : exec (.commitCompletion true) s = .next (startNext
        { wipeRequest (k + 1) (s.storing x) with store.busy := none }) := by
      rw [hother h2, wipeStepDone_next (s := s.storing x) hk h1 h2 h12]
    refine ⟨fun h => ?_, fun h hx hw => ?_, fun p h hp => ?_, fun h => ?_, fun h => ?_, fun h => ?_⟩
    · subst h
      rw [hother (by simp), wipeStepDone, if_neg (not_not_intro (by exact hk))]
      exact congrArg _ (startNext_requested (t := { s.storing x with
        ctl.wipeStep := some 2
        cred := { s.cred with
          profiles := Vector.replicate 8 none, removal := Vector.replicate 8 false, lastEnroll := .none } })
        hbusy .sweep [.wipe 2])
    · subst h
      have hdone : exec (.commitCompletion true) s = .next (startNext
          { wipeStepDone 2 (s.storing x) with store.busy := none }) := by
        by_cases hsweepx : ∃ r, x = .sweep r
        · obtain ⟨r, rfl⟩ := hsweepx
          have hsame : sweepStored r a (s.storing (.sweep r)) = s.storing (.sweep r) := by
            cases hr : r.sweep with
            | none => exact sweepStored_without (s := s.storing (.sweep r)) hw hr (fun y hy => by
                have hy : s.erase.sweep = some y := hy
                rw [hx] at hy
                cases hy)
            | some y =>
              rw [sweepStored_recorded (s := s.storing (.sweep r)) hw hr, moveCheckpoint_other]
              intro z hz
              have hz : s.erase.sweep = some z := hz
              rw [hx] at hz
              cases hz
          rw [exec_commitVerified hs hb, commitVerified_tells hdf, tellRequesters_sweep rfl]
          exact congrArg (fun t => Host.Outcome.next (startNext { wipeStepDone 2 t with store.busy := none })) hsame
        · exact exec_commitTold hb hs hdf (fun r hr => hsweepx ⟨r, hr⟩)
      have hwaits : wipeStepDone 2 (s.storing x) = wipeRequest 3 (s.storing x) := by
        rw [wipeStepDone, if_neg (not_not_intro (by exact hk))]
        exact congrArg (wipeRequest 3) (endWaits_none (s := s.storing x) hw)
      rw [hdone, hwaits]
      exact congrArg _ (startNext_requested (t := { s.storing x with ctl.wipeStep := some 3 }) hbusy _ _)
    · subst h
      have hp' : p.val < 7 := hp
      rw [hnext (by omega) (by omega) (by omega), wipeRequest_profile (k := p.val + 3 + 1) (by omega) (by omega)
          (by omega),
        wipeProfile_succ hp]
      exact congrArg _ (startNext_requested (t := { s.storing x with ctl.wipeStep := some (p.val + 3 + 1) }) hbusy _ _)
    · subst h
      rw [hnext (by simp) (by simp) (by simp)]
      exact congrArg _ (startNext_requested (t := { s.storing x with ctl.wipeStep := some 11, cred.n := 0 }) hbusy _ _)
    · subst h
      rw [hnext (by simp) (by simp) (by simp)]
      exact congrArg _ (startNext_requested (t := { s.storing x with
        ctl := { s.ctl with wipeStep := some 12, wipeFlag := false } }) hbusy _ _)
    · subst h
      have hdone : wipeStepDone 12 (s.storing x) = setDrive .factory { s.storing x with ctl.wipeStep := none } := by
        rw [wipeStepDone, if_neg (not_not_intro (by exact hk))]
      obtain ⟨hkeys, -, -, -, hshot, -⟩ := setDrive_keypad .factory { s.storing x with ctl.wipeStep := none }
      refine ⟨_, ?_, setDrive_selection rfl, hkeys, hshot⟩
      rw [hother (by simp), hdone, setDrive_eq]
      exact congrArg _ (startNext_empty (by simpa [State.storing] using hq))
  · intro s r a x y before after t u hs hd hb hq hr hx hp hg hn htxns hothers hwait hk hst hdrop hu
    have hmoved : moveCheckpoint y (s.storing (.sweep r)) = { s.storing (.sweep r) with
        erase := { s.erase with
          sweep := some { x with
            c := y.checkpoint, keep := x.keep.filter (fun k => decide (y.checkpoint < k.hi)) } } } := by
      have hnamed : x.named y = true := by simp [Sweep.named, hp, hg]
      rw [moveCheckpoint, setSweep_eq (s := s.storing (.sweep r)) hx, if_pos hnamed]
      rfl
    generalize hm : moveCheckpoint y (s.storing (.sweep r)) = m at hmoved
    have hmn : m.namesInv := by rw [hmoved]; exact hn
    have hmt : m.filter.txns = before ++ t :: after := by rw [hmoved]; exact htxns
    have hmq : m.store.queue = [] := by rw [hmoved]; simpa [State.storing] using hq
    have hum : u = { m with store.busy := none } := by rw [hu, hmoved]; rfl
    have hexec : exec (.commitCompletion true) s =
        .next (startNext { endWaits (waitEnds (some y.checkpoint) a) m with store.busy := none }) := by
      rw [exec_sweepCommit hs hd hb]
      simp only [sweepStored, hr]
      rw [← hm]
      rfl
    have hwaits : endWaits (waitEnds (some y.checkpoint) a) m = if waitEnds (some y.checkpoint) a t then
        completeTxn t.id (setTxn t.id (fun t => { t with waiting := false }) m) else m := by
      have hids : m.filter.txns.filter (fun t => t.waiting && waitEnds (some y.checkpoint) a t) =
          if waitEnds (some y.checkpoint) a t then [t] else [] := by
        rw [hmt, filter_middle (fun z hz => by simp [hothers z hz])]
        simp [hwait]
      rw [endWaits, hids]
      split_ifs <;> rfl
    rw [hexec, hwaits]
    obtain ⟨hended, hgoing⟩ := completeTxn_changed hmn hmt (v := { t with waiting := false })
      (fun t => { t with waiting := false }) rfl rfl rfl hdrop hk (by simp)
    refine ⟨fun h => ?_, fun ha hrec => ?_⟩
    · rw [if_pos (waitEnds_iff.mpr h)]
      refine ⟨fun hall => ?_, fun hsome => ?_⟩
      · rw [hended hall, hum]
        refine congrArg Host.Outcome.next ((startNext_empty ?_).trans ?_)
        · exact hmq
        · rw [hst]
          rfl
      · rw [hgoing hsome, hum]
        refine congrArg Host.Outcome.next ((startNext_empty ?_).trans rfl)
        exact hmq
    · have hleaves : ¬(waitEnds (some y.checkpoint) a t = true) := by
        rw [waitEnds_iff]
        rintro (⟨b, hb, hlt⟩ | ⟨q, hq, hle⟩)
        · exact absurd hlt (Nat.not_lt.mpr (ha b hb))
        · exact absurd hle (Nat.not_le.mpr (hrec q hq))
      rw [if_neg hleaves, hum]
      refine congrArg Host.Outcome.next (startNext_empty ?_)
      exact hmq
  · intro s c before after t hb hd hx hn htxns hothers hwait hk hst hdrop
    generalize hf : ({ s with store := { s.store.spoil c.content with busy := none } } : State) = b
    have hbd : b.ctl.drive ≠ .fault := by rw [← hf]; exact hd
    generalize hfl : b.faulted .storeWrite = f
    have hff : f.filter.txns = before ++ t :: after ∧ f.filter.queue = s.filter.queue ∧ f.counters = s.counters ∧
        f.replies = s.replies ∧ f.front = s.front := by
      obtain ⟨q, hfilter⟩ := faulted_filter b .storeWrite
      rw [← hfl, hfilter, ← hf]
      refine ⟨htxns, rfl, ?_, ?_, ?_⟩ <;> simp [State.faulted]
    obtain ⟨hft, hfq, hfc, hfr, hffront⟩ := hff
    have hfn : f.namesInv := by
      unfold State.namesInv
      rw [hft, hfq, hfc, ← htxns]
      exact hn
    have hfault : enterFault .storeWrite b = completeTxn t.id (setTxn t.id (Txn.fail .notReady) f) := by
      have hids : f.filter.txns.filter (fun t => t.kind == .write && t.waiting && t.status == .good && !t.dropped) =
          [t] := by
        rw [hft, filter_middle (fun z hz => by simp [hothers z hz])]
        simp [hwait, hk, hst, hdrop]
      rw [enterFault_without_sweep hbd _ (by rw [← hf]; exact hx), hfl, faultWaits, hids]
      rfl
    obtain ⟨hended, hgoing⟩ := completeTxn_changed hfn hft (v := { t with status := .notReady }) (Txn.fail .notReady)
      (Txn.fail_of_good hst) rfl rfl hdrop hk (by simp)
    refine ⟨_, exec_commitFailed hb, fun hall => ?_, fun hsome => ?_⟩
    · rw [hf, hfault, hended hall]
      simp only [standbyCheck_frame]
      exact ⟨congrArg (· ++ _) hfr, congrArg (fun f : FrontPort => f.tags.set t.tag .free) hffront, rfl⟩
    · rw [hf, hfault, hgoing hsome]
      simp only [standbyCheck_frame]
      exact ⟨hfr, trivial⟩

end Sys2Proof.Proofs
end

section
/-! SUPPORT. The commits of an evaluation and of an enrollment (R137, R139, R143, R144, R157), and the sectors pulled
for a WRITE (R10, R56, R75). -/

namespace Sys2Proof.Machine

open Sys2Proof

/-! ### The opening of a profile (R68, R157, R158) -/

/-- The state as a profile is opened, before the drive state is set. -/
def State.opening (s : State) (p : ProfIx) : State :=
  { s with
    ctl := { s.ctl with
      openProfile := some p
      inactivity :=
        if s.ctl.attached then
          (if s.store.effective.inactivity = 0 then none
           else some (60000 * 2 ^ (s.store.effective.inactivity - 1)))
        else s.ctl.inactivity
      window := if s.ctl.attached then s.ctl.window else some 30000 }
    cipher.slots := s.cipher.slots.map (fun x =>
      if x.state = .closed ∧ x.mask.getLsbD p.val = true then { x with state := .opened } else x) }

theorem openDrive_eq {s : State} (hf : s.ctl.drive ≠ .fault) (hw : s.ctl.drive ≠ .wiping) (p : ProfIx)
    (accept : Bool) : openDrive p accept s =
      if accept then requestOneShot .accept (setDrive .opened (s.opening p)) else setDrive .opened (s.opening p) := by
  have hopening : (if (openSlots p { s with ctl.openProfile := some p }).ctl.attached then
      startInactivity (openSlots p { s with ctl.openProfile := some p })
      else { openSlots p { s with ctl.openProfile := some p } with ctl.window := some 30000 }) = s.opening p := by
    unfold State.opening openSlots startInactivity
    by_cases ha : s.ctl.attached = true
    · simp [ha, inactivityMs, maskHas]
    · simp [ha, maskHas]
  rw [openDrive, if_neg (fun h => h.elim hf hw), ← hopening]

/-- The opening without ACCEPT. -/
theorem openDrive_quiet {s : State} (hf : s.ctl.drive ≠ .fault) (hw : s.ctl.drive ≠ .wiping) (p : ProfIx) :
    ∃ k : KeypadUnit, openDrive p false s = { s.opening p with
        ctl := { (s.opening p).ctl with drive := .opened }, keypad := k } ∧
      k.selection = (if s.ctl.attached then .opened else .openUnattached) ∧ k.keys = s.keypad.keys ∧
      k.oneShot = s.keypad.oneShot ∧ k.buffer = s.keypad.buffer ∧ k.phase = s.keypad.phase ∧
      k.timer = s.keypad.timer := by
  obtain ⟨hkeys, hbuffer, hphase, htimer, hshot, -⟩ := setDrive_keypad .opened (s.opening p)
  refine ⟨_, (openDrive_eq hf hw p false).trans (setDrive_eq ..), setDrive_selection rfl, hkeys, hshot, hbuffer, hphase,
    htimer⟩

/-- The opening with ACCEPT, which plays in ACTIVE. -/
theorem openDrive_accept {s : State} (hf : s.ctl.drive ≠ .fault) (hw : s.ctl.drive ≠ .wiping)
    (hm : s.power.mode = .active) (p : ProfIx) :
    ∃ k : KeypadUnit, openDrive p true s = { s.opening p with
        ctl := { (s.opening p).ctl with drive := .opened }, keypad := k } ∧
      k.selection = (if s.ctl.attached then .opened else .openUnattached) ∧ k.keys = s.keypad.keys ∧
      k.oneShot = some ⟨.accept, 0, 500, 1⟩ ∧ k.buffer = s.keypad.buffer ∧ k.phase = s.keypad.phase ∧
      k.timer = s.keypad.timer := by
  obtain ⟨k, hk, hselection, hkeys, -, hbuffer, hphase, htimer⟩ := openDrive_quiet hf hw p
  have hquiet : openDrive p false s = setDrive .opened (s.opening p) := openDrive_eq hf hw p false
  refine ⟨{ k with oneShot := some ⟨.accept, 0, 500, 1⟩ }, ?_, hselection, hkeys, rfl, hbuffer, hphase, htimer⟩
  rw [openDrive_eq hf hw, if_pos rfl, ← hquiet, hk]
  exact requestOneShot_active (s := { s.opening p with
    ctl := { (s.opening p).ctl with drive := .opened }, keypad := k }) hm _

/-! ### The commits of an enrollment (R137, R139) -/

/-- The drive state is set, and its background selected. -/
theorem setDrive_selects {d : DriveState} {s : State} {p : Pattern} (h : backgroundFor d s.ctl.attached = some p) :
    ∃ k : KeypadUnit, setDrive d s = { s with ctl := { s.ctl with drive := d }, keypad := k } ∧ k.selection = p ∧
      k.keys = s.keypad.keys ∧ k.oneShot = s.keypad.oneShot := by
  obtain ⟨hkeys, -, -, -, hshot, -⟩ := setDrive_keypad d s
  exact ⟨_, setDrive_eq d s, setDrive_selection h, hkeys, hshot⟩

theorem enrollStored_eq {s : State} {e : Enroll} (he : s.cred.enroll = some e) (hc : e.step = .committing) (b : Bool) :
    enrollStored b s =
      if (if b then { e with profileDone := true } else { e with mapDone := true }).profileDone = true ∧
          (if b then { e with profileDone := true } else { e with mapDone := true }).mapDone = true then
        finishEnroll (if b then { e with profileDone := true } else { e with mapDone := true }) s
      else { s with cred.enroll := some (if b then { e with profileDone := true } else { e with mapDone := true }) } := by
  simp only [enrollStored, he, hc]
  rfl

/-- The first of the two commits is noted. -/
theorem enrollStored_noted {s : State} {e : Enroll} (he : s.cred.enroll = some e) (hc : e.step = .committing) :
    (e.mapDone = false → enrollStored true s = { s with cred.enroll := some { e with profileDone := true } }) ∧
    (e.profileDone = false → enrollStored false s = { s with cred.enroll := some { e with mapDone := true } }) := by
  refine ⟨fun h => ?_, fun h => ?_⟩
  · rw [enrollStored_eq he hc]
    exact if_neg (by simp [h])
  · rw [enrollStored_eq he hc]
    exact if_neg (by simp [h])

/-- The last of the two commits ends the enrollment. -/
theorem enrollStored_finishes {s : State} {e : Enroll} (he : s.cred.enroll = some e) (hc : e.step = .committing)
    {b : Bool}
    (h : b = true ∧ e.mapDone = true ∨ b = false ∧ e.profileDone = true) :
    ∃ f : Enroll, f.origin = e.origin ∧ f.cancelled = e.cancelled ∧ enrollStored b s = finishEnroll f s := by
  rw [enrollStored_eq he hc]
  rcases h with ⟨rfl, h⟩ | ⟨rfl, h⟩
  · exact ⟨_, rfl, rfl, if_pos ⟨rfl, h⟩⟩
  · exact ⟨_, rfl, rfl, if_pos ⟨h, rfl⟩⟩

/-- The state as an enrollment has ended with OK. -/
def State.enrolled (s : State) : State := { s with cred := { s.cred with enroll := none, lastEnroll := .ok } }

theorem finishEnroll_eq (e : Enroll) (s : State) : finishEnroll e s =
    if e.origin = .opened then (if e.cancelled then s.enrolled else setDrive .opened s.enrolled)
    else if e.cancelled then setDrive .locked s.enrolled else openDrive 0 false s.enrolled := by
  unfold finishEnroll
  cases e.origin <;> cases e.cancelled <;> rfl

/-! ### The sectors pulled for a WRITE (R10, R56, R75) -/

theorem pulling_mem {s : State} {t : Txn} (h : s.pulling = some t) :
    t ∈ s.filter.txns ∧ t.kind = .write ∧ t.dropped = false ∧ t.pulled < t.range.len := by
  have hp := List.find?_some h
  simp only [Bool.and_eq_true, beq_iff_eq, Bool.not_eq_true', decide_eq_true_eq] at hp
  obtain ⟨⟨hk, hd⟩, hlt⟩ := hp
  exact ⟨List.mem_of_find?_eq_some h, hk, hd, hlt⟩

/-- A change of the one fragment of a name. -/
theorem map_middle {before after : List Frag} {g : Frag} (h : ((before ++ g :: after).map Frag.id).Nodup)
    (f : Frag → Frag) : (before ++ g :: after).map (fun y => if y.id = g.id then f y else y) =
      before ++ f g :: after := by
  rw [List.map_append, List.map_cons, List.nodup_middle, List.nodup_cons, ← List.map_append] at h
  have hsame (l : List Frag) (hl : ∀ z ∈ l, z ∈ before ++ after) :
      l.map (fun y => if y.id = g.id then f y else y) = l :=
    (List.map_congr_left (fun z hz => if_neg (fun hid : z.id = g.id =>
      h.1 (hid ▸ List.mem_map_of_mem (hl z hz))))).trans (List.map_id _)
  rw [List.map_append, List.map_cons, if_pos rfl, hsame before (fun z hz => List.mem_append_left _ hz),
    hsame after (fun z hz => List.mem_append_right _ hz)]

section Pull

variable {s : State} {t : Txn} {g : Frag} {before after : List Frag} (h : s.carries t)
  (hf : t.frags = before ++ g :: after)

include h hf

/-- The sector goes into the piece that its LBA lies in; a PASS piece that is full joins the issue queue. -/
theorem pullSector_middle (hhas : g.range.has (t.range.lo + t.pulled) = true)
    (hbefore : ∀ y ∈ before, y.range.has (t.range.lo + t.pulled) = false) (hw : g.state = .waiting)
    (hm : s.media.state = .ready) (x : Sector) : pullSector t x s =
      if g.kind = .pass ∧ g.stored.length + 1 = g.range.len then
        { s.put { t with pulled := t.pulled + 1, frags := before ++ storeSector x g :: after } with
          filter.issueQ := s.filter.issueQ ++ [g.id] }
      else s.put { t with pulled := t.pulled + 1, frags := before ++ storeSector x g :: after } := by
  generalize hu : ({ t with pulled := t.pulled + 1, frags := before ++ storeSector x g :: after } : Txn) = u
  have huid : u.id = t.id := by rw [← hu]
  have huf : u.frags = before ++ storeSector x g :: after := by rw [← hu]
  have hufid : u.frags.map Frag.id = t.frags.map Frag.id := by rw [huf, hf]; simp [storeSector]
  have hcar := carries_put h huid hufid
  have hfind : t.frags.find? (fun g => g.range.has (t.range.lo + t.pulled)) = some g := by
    rw [hf, List.find?_append, List.find?_eq_none.mpr (fun y hy => by simp [hbefore y hy]), Option.none_or]
    exact List.find?_cons_of_pos hhas
  have hpulled : setTxn t.id (fun t => { t with pulled := t.pulled + 1 }) s =
      s.put { t with pulled := t.pulled + 1 } :=
    setTxn_eq_put h (f := fun t => { t with pulled := t.pulled + 1 }) rfl
  have hset : setFrag g.id (storeSector x) (setTxn t.id (fun t => { t with pulled := t.pulled + 1 }) s) = s.put u := by
    have hmid := carries_put h (u := { t with pulled := t.pulled + 1 }) rfl rfl
    have hnodup : ((before ++ g :: after).map Frag.id).Nodup := hf ▸ h.nodup
    have hfrag := setFrag_eq_put hmid (g := g) (by simp [hf]) (storeSector x)
    rw [hpulled, hfrag, ← hu]
    refine (put_put (s := s) (u := { t with pulled := t.pulled + 1 }) (v := { t with
      pulled := t.pulled + 1
      frags := t.frags.map (fun y => if y.id = g.id then storeSector x y else y) }) h rfl).trans ?_
    rw [hf, map_middle hnodup]
  have hjoin : pullSector t x s = joinIfPulled g.id (s.put u) := by
    rw [pullSector, hfind, ← hset]
  have hfound : (s.put u).findFrag g.id = some (u, storeSector x g) :=
    findFrag_of_carries hcar (g := storeSector x g) (by simp [huf])
  have hready : (s.put u).media.state = .ready := hm
  have hfull : ((storeSector x g).pulled = true) = (g.stored.length + 1 = g.range.len) := by
    simp [Frag.pulled, storeSector]
  rw [hjoin, joinIfPulled, hfound]
  dsimp only
  simp only [hfull]
  rw [joinIssue_ready hready]
  by_cases hk : g.kind = .pass
  · by_cases hl : g.stored.length + 1 = g.range.len
    · rw [if_pos ⟨hk, hw, hl⟩, if_pos ⟨hk, hl⟩]
      rfl
    · rw [if_neg (fun hall => hl hall.2.2), if_neg (fun hall => hl hall.2)]
  · rw [if_neg (fun hall => hk hall.1), if_neg (fun hall => hk hall.1)]

omit hf in
theorem put_eq_map {u : Txn} (f : Txn → Txn) (hid : u.id = t.id) (hu : f t = u) : s.put u = { s with
    filter.txns := s.filter.txns.map (fun y => if y.id = t.id then f y else y) } := by
  rw [← hu]
  exact (setTxn_eq_put h (f := f) (by rw [hu]; exact hid)).symm

end Pull

end Sys2Proof.Machine

namespace Sys2Proof.Proofs

open Sys2Proof Sys2Proof.Machine

/-- Settles O41: the waiter of each commit, and the state that its answer finds. -/
theorem evaluationCommits : Obligations.EvaluationCommits := by
  refine ⟨fun s n a hs hm hq => ⟨fun d hd he hb => ?_, fun d p hd he hb => ?_⟩, ?_⟩
  · have htell : countStored (s.storing (.attempts n)) = { s.storing (.attempts n) with
        cred := { s.cred with eval := some ⟨d, .comparing⟩, comparison := some ⟨.evaluation, d, 320⟩ } } := by
      have he' : (s.storing (.attempts n)).cred.eval = some ⟨d, .counting⟩ := he
      simp only [countStored, he', ↓reduceIte]
      rfl
    rw [exec_commitTold hb hs (by simp [hd]) (by simp)]
    simp only [List.foldl_cons, List.foldl_nil, tellWaiter, htell]
    refine congrArg Host.Outcome.next ((startNext_empty ?_).trans rfl)
    exact hq
  · obtain ⟨k, hopen, hselection, hkeys, hshot, hbuffer, hphase, htimer⟩ :=
      openDrive_accept (s := { s.storing (.attempts n) with cred.eval := none }) (by simp [State.storing, hd])
        (by simp [State.storing, hd]) hm p
    have htell : resetStored (s.storing (.attempts n)) =
        openDrive p true { s.storing (.attempts n) with cred.eval := none } := by
      have he' : (s.storing (.attempts n)).cred.eval = some ⟨d, .resetting p⟩ := he
      simp only [resetStored, he']
    refine ⟨k, ?_, hselection, hshot, hkeys, hbuffer, hphase, htimer⟩
    rw [exec_commitTold hb hs (by simp [hd]) (by simp)]
    simp only [List.foldl_cons, List.foldl_nil, tellWaiter, htell, hopen]
    refine congrArg Host.Outcome.next ((startNext_empty ?_).trans rfl)
    exact hq
  · intro s e c w a hs hd hq hb he hc hsweep hw
    have hbool : ∃ b : Bool, w = (if b then .enrollProfile else .enrollMap) ∧
        exec (.commitCompletion true) s = .next (startNext
          { enrollStored b (s.storing c) with store.busy := none }) := by
      have hexec := exec_commitTold hb hs hd hsweep
      rcases hw with rfl | rfl
      · exact ⟨true, rfl, hexec⟩
      · exact ⟨false, rfl, hexec⟩
    obtain ⟨b, rfl, hexec⟩ := hbool
    have hq' : (s.storing c).store.queue = [] := by simpa [State.storing] using hq
    obtain ⟨hprofile, hmap⟩ := enrollStored_noted (s := s.storing c) he hc
    refine ⟨fun ⟨hb', h⟩ => ?_, fun ⟨hb', h⟩ => ?_, fun h => ?_⟩
    · obtain rfl : b = true := by cases b <;> simp_all
      rw [hexec, hprofile h]
      refine congrArg Host.Outcome.next ((startNext_empty ?_).trans rfl)
      exact hq'
    · obtain rfl : b = false := by cases b <;> simp_all
      rw [hexec, hmap h]
      refine congrArg Host.Outcome.next ((startNext_empty ?_).trans rfl)
      exact hq'
    · have hlast : b = true ∧ e.mapDone = true ∨ b = false ∧ e.profileDone = true := by cases b <;> simp_all
      obtain ⟨f, hfo, hfc, hfinish⟩ := enrollStored_finishes (s := s.storing c) he hc hlast
      rw [hexec, hfinish, finishEnroll_eq, hfo, hfc]
      refine ⟨fun ho hcan => ?_, fun ho hcan hde => ?_, fun ho hcan hde => ?_, fun ho hcan hde => ?_⟩
      · rw [if_pos ho, if_pos hcan]
        refine congrArg Host.Outcome.next ((startNext_empty ?_).trans rfl)
        exact hq'
      · obtain ⟨k, hk, hselection, hkeys, hshot⟩ := setDrive_selects (d := .opened) (s := (s.storing c).enrolled) rfl
        refine ⟨k, ?_, hselection, hkeys, hshot⟩
        rw [if_pos ho, if_neg (by simp [hcan]), hk]
        refine congrArg Host.Outcome.next ((startNext_empty ?_).trans rfl)
        exact hq'
      · obtain ⟨k, hk, hselection, hkeys, hshot⟩ := setDrive_selects (d := .locked) (s := (s.storing c).enrolled) rfl
        refine ⟨k, ?_, hselection, hkeys, hshot⟩
        rw [if_neg (by simp [ho]), if_pos hcan, hk]
        refine congrArg Host.Outcome.next ((startNext_empty ?_).trans rfl)
        exact hq'
      · obtain ⟨k, hk, hselection, hkeys, hshot, -⟩ := openDrive_quiet (s := (s.storing c).enrolled)
          (by simp [State.enrolled, State.storing, hde]) (by simp [State.enrolled, State.storing, hde]) 0
        refine ⟨k, ?_, hselection, hkeys, hshot⟩
        rw [if_neg (by simp [ho]), if_neg (by simp [hcan]), hk]
        refine congrArg Host.Outcome.next ((startNext_empty ?_).trans ?_)
        · exact hq'
        · cases c <;> rfl

/-- Settles O38: the piece is found by the sector's LBA, takes the sector, and joins the issue queue once full. -/
theorem writeDataPulled : Obligations.WriteDataPulled := by
  have pieces (s : State) (x : Sector) (t : Txn) (g : Frag) (before after : List Frag) (hp : s.pulling = some t)
      (hn : s.namesInv) (hf : t.frags = before ++ g :: after) (hhas : g.range.has (t.range.lo + t.pulled) = true)
      (hbefore : ∀ h ∈ before, h.range.has (t.range.lo + t.pulled) = false) (hw : g.state = .waiting)
      (hm : s.media.state = .ready) : exec (.writeDataSector x) s = .next { s with
        filter := { s.filter with
          txns := s.filter.txns.map (fun y => if y.id = t.id then
            { y with pulled := t.pulled + 1, frags := before ++ storeSector x g :: after } else y)
          issueQ := if g.kind = .pass ∧ g.stored.length + 1 = g.range.len then s.filter.issueQ ++ [g.id]
            else s.filter.issueQ } } := by
    have hcar : s.carries t := State.carries.of_names hn (pulling_mem hp).1
    have hexec : exec (.writeDataSector x) s = .next (pullSector t x s) := by
      simp only [exec, execWriteDataSector, hp]
    rw [hexec, pullSector_middle hcar hf hhas hbefore hw hm,
      put_eq_map (s := s) (t := t) (u := { t with
        pulled := t.pulled + 1
        frags := before ++ storeSector x g :: after }) hcar
        (fun y => { y with pulled := t.pulled + 1, frags := before ++ storeSector x g :: after }) rfl rfl]
    split_ifs <;> rfl
  refine ⟨fun s x => ⟨fun hp => by simp [exec, execWriteDataSector, hp], fun t g hp hn hf hr hk hw hl hm => ?_⟩,
    fun s x t g before after hp hn hf hhas hbefore hw hm => ?_⟩
  · obtain ⟨-, -, -, hlt⟩ := pulling_mem hp
    have hhas : g.range.has (t.range.lo + t.pulled) = true := by
      rw [hr, has_iff]
      unfold Range.len at hlt
      omega
    rw [pieces s x t g [] [] hp hn hf hhas (by simp) hw hm, storeSector, hl]
    cases g.key <;> simp [hk, mediaForm]
  · rw [pieces s x t g before after hp hn hf hhas hbefore hw hm, storeSector]
    cases g.key <;> rfl

end Sys2Proof.Proofs
end

section
/-! SUPPORT. The result of a comparison, in an evaluation and in an enrollment (R38, R132, R136 to R138, R143 to
R149). -/

namespace Sys2Proof.Machine

open Sys2Proof

/-! ### An evaluation (R144 to R149) -/

/-- The match of a profile that is not WIPE: n is reset, and the reset is to be stored (R144). -/
theorem evaluationResult_match {s : State} {d : List Digit} {p : ProfIx} {x : Profile}
    (hp : matchProfile s.cred.profiles none d = some p) (hx : s.cred.profiles[p] = some x) (hk : x.kind ≠ .wipe) :
    evaluationResult d s = requestCommit .attempts [.resetAttempts]
      { s with cred := { s.cred with eval := some ⟨[], .resetting p⟩, n := 0 } } := by
  unfold evaluationResult
  rw [hp]
  exact if_neg (by rw [hx]; simpa using hk)

/-- The match of a WIPE profile (R145). -/
theorem evaluationResult_wipe {s : State} {d : List Digit} {p : ProfIx} {x : Profile}
    (hp : matchProfile s.cred.profiles none d = some p) (hx : s.cred.profiles[p] = some x) (hk : x.kind = .wipe) :
    evaluationResult d s = startWipe { s with cred.eval := none } := by
  unfold evaluationResult
  rw [hp]
  exact if_pos (by rw [hx]; exact congrArg some hk)

/-- A miss with n at T wipes (R146). -/
theorem evaluationResult_miss_wipes {s : State} {d : List Digit} (hp : matchProfile s.cred.profiles none d = none)
    (ht : s.store.effective.threshold ≠ 0 ∧ s.store.effective.threshold ≤ s.cred.n) :
    evaluationResult d s = startWipe { s with cred.eval := none } := by
  unfold evaluationResult
  rw [hp]
  exact if_pos ht

/-- A miss that does not wipe sets the drive state, with the back-off timer from F on, and plays REJECT (R147 to
R149). -/
theorem evaluationResult_miss {s : State} {d : List Digit} (hp : matchProfile s.cred.profiles none d = none)
    (ht : ¬(s.store.effective.threshold ≠ 0 ∧ s.store.effective.threshold ≤ s.cred.n)) :
    evaluationResult d s = requestOneShot .reject
      (setDrive (if s.store.effective.free ≤ s.cred.n then .backoff else .locked) { s with
        cred := { s.cred with
          eval := none
          backoff :=
            if s.store.effective.free ≤ s.cred.n then
              some (1000 * backoffSeconds s.store.effective.free s.cred.n)
            else s.cred.backoff } }) := by
  unfold evaluationResult
  rw [hp]
  refine (if_neg ht).trans ?_
  split_ifs
  · rfl
  · rfl

/-- The choice of a miss, told by the resulting background. -/
theorem reject_selects {s : State} (hm : s.power.mode = .active) {d : DriveState} {p : Pattern}
    (hp : backgroundFor d s.ctl.attached = some p) :
    ∃ k : KeypadUnit, requestOneShot .reject (setDrive d s) =
        { s with ctl := { s.ctl with drive := d }, keypad := k } ∧
      k.selection = p ∧ k.oneShot = some ⟨.reject, 0, 100, 3⟩ ∧ k.keys = s.keypad.keys ∧
      k.buffer = s.keypad.buffer ∧ k.phase = s.keypad.phase ∧ k.timer = s.keypad.timer := by
  obtain ⟨hkeys, hbuffer, hphase, htimer, -, -⟩ := setDrive_keypad d s
  refine ⟨{ (setDrive d s).keypad with oneShot := some ⟨.reject, 0, 100, 3⟩ }, ?_, setDrive_selection hp, rfl, hkeys,
    hbuffer, hphase, htimer⟩
  rw [requestOneShot_active (s := setDrive d s) (by simpa using hm)]
  conv_lhs => rw [setDrive_eq]
  rfl

theorem backoff_milliseconds {free n : Nat} (h : free ≤ n) :
    1000 * backoffSeconds free n = 2000 * 2 ^ min (n - free) 10 := by
  rw [backoffSeconds, if_neg (Nat.not_lt.mpr h)]
  omega

/-- What the start of a wipe leaves of an evaluation. -/
theorem startWipe_evaluating {s : State} (hd : s.ctl.drive = .evaluating) (hc : s.cred.comparison = none) :
    (startWipe s).ctl.drive = .wiping ∧ (startWipe s).cred.comparison = none ∧ (startWipe s).cred.eval = none ∧
      (startWipe s).regions.table = [] ∧ (startWipe s).cred.n = s.cred.n ∧ (startWipe s).ctl.wipeFlag = true := by
  have h : ¬(s.ctl.drive = .fault ∨ s.ctl.drive = .wiping) := by simp [hd]
  have hcred (t : State) : (cancelEnrollAtWipe t).cred.eval = t.cred.eval ∧
      (cancelEnrollAtWipe t).cred.comparison = t.cred.comparison := by
    unfold cancelEnrollAtWipe
    split <;> exact ⟨rfl, rfl⟩
  have htable (t : State) : (wipeTable t).regions.table = [] := by
    unfold wipeTable endApply copyPending
    split <;> rfl
  refine ⟨(startWipe_wiping h).1, ?_, congrArg Auth.eval (startWipe_auth h), ?_, by simp, ?_⟩
  · simp [startWipe, h, hcred, hc]
  · simp [startWipe, h, htable]
  · simp [startWipe, h]

/-! ### An enrollment (R136 to R138, R38) -/

/-- The result of an enrollment's comparison is discarded where the enrollment no longer waits for it. -/
theorem comparisonEnds_discarded {s : State} {d : List Digit} {left : Nat}
    (h : s.cred.enroll = none ∨ ∃ e, s.cred.enroll = some e ∧ e.step ≠ .testing) :
    comparisonEnds ⟨.duplicate, d, left⟩ s = s := by
  rcases h with h | ⟨e, h, he⟩
  · simp [comparisonEnds, h]
  · simp [comparisonEnds, h, he]

theorem comparisonEnds_duplicate {s : State} {d : List Digit} {left : Nat} {e : Enroll}
    (h : s.cred.enroll = some e) (he : e.step = .testing) :
    comparisonEnds ⟨.duplicate, d, left⟩ s = duplicateResult e d s := by
  simp [comparisonEnds, h, he]

theorem exec_comparisonResult {s : State} {c : Comparison} (hc : s.cred.comparison = some c) :
    exec .comparisonResult s = .next (standbyCheck (comparisonEnds c { s with cred.comparison := none })) := by
  simp only [exec, execComparisonResult, hc]

/-- The pending form of a table of one entry. -/
theorem pendingOf_singleton (e : Entry) : pendingOf [e] = Vector.ofFn (fun p => if p = 0 then some e else none) := by
  unfold pendingOf
  congr 1
  funext p
  by_cases hp : p = 0
  · simp [hp]
  · have hval : p.val ≠ 0 := fun h => hp (Fin.ext h)
    rw [if_neg hp, List.getElem?_eq_none (by simp; omega)]

/-- What the default table makes of the slots while no profile is open. -/
theorem defaultSlots_without_profile {s : State} (ho : s.ctl.openProfile = none) :
    Vector.ofFn (defaultSlot s) = Vector.ofFn (fun k : SlotIx =>
      if k = 0 then ⟨.closed, some s.counters.keys, min (s.cipher.slots[k].gen + 1) 4294967295, 1⟩
      else if tableNames s.regions.table k then ⟨.empty, none, min (s.cipher.slots[k].gen + 1) 4294967295, 0⟩
      else s.cipher.slots[k]) := by
  congr 1
  funext k
  unfold defaultSlot
  by_cases hk : k = 0
  · rw [if_pos hk, if_pos hk, ho]
    rfl
  · rw [if_neg hk, if_neg hk]
    cases tableNames s.regions.table k <;> rfl

/-- The default table over a known user span, with no profile open. -/
theorem installDefault_eq {s : State} {u : Nat} (hu : s.uSpan = some u) (ho : s.ctl.openProfile = none)
    {slots : Vector KeySlot 8}
    (hslots : slots = Vector.ofFn (fun k : SlotIx =>
      if k = 0 then ⟨.closed, some s.counters.keys, min (s.cipher.slots[k].gen + 1) 4294967295, 1⟩
      else if tableNames s.regions.table k then ⟨.empty, none, min (s.cipher.slots[k].gen + 1) 4294967295, 0⟩
      else s.cipher.slots[k])) :
    installDefault s = requestCommit .map [.enrollMap] { s with
      regions := { s.regions with
        table := [⟨0, u - u % 8, .priv, true, some 0⟩], epoch := s.regions.epoch + 1
        pending := Vector.ofFn (fun p => if p = 0 then some ⟨0, u - u % 8, .priv, true, some 0⟩ else none)
        masks := slots.map KeySlot.mask }
      cipher.slots := slots
      counters.keys := s.counters.keys + 1 } := by
  unfold installDefault copyPending
  rw [← defaultSlots_without_profile ho] at hslots
  rw [hu, ← hslots, Option.getD_some, floor8, pendingOf_singleton, masksOf]

end Sys2Proof.Machine

namespace Sys2Proof.Proofs

open Sys2Proof Sys2Proof.Machine

/-- Settles O46: the purpose of the comparison, the match, and the case that it finds. -/
theorem comparisonOutcomes : Obligations.ComparisonOutcomes := by
  refine ⟨fun s hs hm => ⟨fun hc => by simp [exec, execComparisonResult, hc], ?_⟩, ?_⟩
  · intro d d' left hc he hd
    have hexec {t : State} (h : evaluationResult d { s with cred.comparison := none } = t) (hp : t.power = s.power) :
        exec .comparisonResult s = .next t := by
      rw [exec_comparisonResult_of_evaluation hc he, h, standbyCheck_of_power hs hp]
    have hwipe := startWipe_evaluating (s := { s with cred := { s.cred with comparison := none, eval := none } }) hd rfl
    refine ⟨fun p x hp hx => ⟨fun hk => ?_, fun hk => ⟨_, ?_, hwipe⟩⟩,
      fun hp => ⟨fun ht hn => ⟨_, ?_, hwipe⟩, fun ht => ?_⟩⟩
    · exact hexec (evaluationResult_match hp hx hk) (by simp)
    · exact hexec (evaluationResult_wipe hp hx hk) (by simp)
    · exact hexec (evaluationResult_miss_wipes hp ⟨ht, hn⟩) (by simp)
    · have hmiss := evaluationResult_miss (s := { s with cred.comparison := none }) hp
        (fun ⟨h0, hle⟩ => ht.elim h0 (fun hlt => Nat.not_le.mpr hlt hle))
      dsimp only at hmiss
      by_cases hf : s.store.effective.free ≤ s.cred.n
      · simp only [if_pos hf] at hmiss ⊢
        rw [backoff_milliseconds hf] at hmiss
        obtain ⟨k, hk, hkeypad⟩ := reject_selects (d := .backoff) (p := .backoff) (s := { s with
          cred := { s.cred with
            comparison := none, eval := none
            backoff := some (2000 * 2 ^ min (s.cred.n - s.store.effective.free) 10) } }) hm rfl
        exact ⟨k, hexec (hmiss.trans hk) rfl, hkeypad⟩
      · simp only [if_neg hf] at hmiss ⊢
        obtain ⟨k, hk, hkeypad⟩ := reject_selects (d := .locked) (p := .idleLocked) (s := { s with
          cred := { s.cred with comparison := none, eval := none } }) hm rfl
        exact ⟨k, hexec (hmiss.trans hk) rfl, hkeypad⟩
  · intro s d left hs hm hd hc
    have hexec {t : State} (h : comparisonEnds ⟨.duplicate, d, left⟩ { s with cred.comparison := none } = t)
        (hp : t.power = s.power) : exec .comparisonResult s = .next t := by
      rw [exec_comparisonResult hc, h, standbyCheck_of_power hs hp]
    refine ⟨fun h => hexec (comparisonEnds_discarded h) rfl, fun e he htest => ?_⟩
    have hends := comparisonEnds_duplicate (s := { s with cred.comparison := none }) (d := d) (left := left) he htest
    have hfails {r : EnrollResult}
        (h : duplicateResult e d { s with cred.comparison := none } =
          failEnroll e r { s with cred.comparison := none }) :
        ∃ t, exec .comparisonResult s = .next t ∧ { s with cred.comparison := none }.failedFrom e r t :=
      ⟨_, hexec (hends.trans h) (by simp), failEnroll_failedFrom (s := { s with cred.comparison := none }) hm e r⟩
    refine ⟨fun p hp => hfails ?_, fun hp => ⟨fun ho hmedia => hfails ?_, fun t ht => ⟨fun ho => ?_,
      fun u ho hmedia hu hopen slots hslots => ?_⟩⟩⟩
    · simp only [duplicateResult, hp]
    · simp only [duplicateResult, hp]
      exact if_pos ⟨ho, hmedia⟩
    · refine hexec (hends.trans ?_) (by simp [ht])
      simp only [duplicateResult, hp]
      rw [if_neg (by simp [ho]), succeedEnroll, if_neg (by simp [ho]), ht]
      rfl
    · refine hexec (hends.trans ?_) (by simp [ht])
      have hut : t.uSpan = some u := by rw [ht]; simpa [State.uSpan, State.cEff] using hu
      have hdefault := installDefault_eq (s := t) hut (by simp [ht, hopen]) (slots := slots)
        (by simpa [ht] using hslots)
      simp only [duplicateResult, hp]
      rw [if_neg (by simp [hmedia]), succeedEnroll, if_pos ho]
      have htt : requestCommit (.profile e.target) [.enrollProfile] { s with
          cred := { s.cred with
            comparison := none
            profiles := s.cred.profiles.set e.target (some ⟨e.kind, d.length, s.counters.salts, ⟨s.counters.salts, d⟩⟩)
            enroll := some { e with step := .committing, first := [], mapDone := e.origin == .opened } }
          counters.salts := s.counters.salts + 1 } = t := ht.symm
      rw [show _ = t from htt, hdefault, ht]
      simp

end Sys2Proof.Proofs
end

section
/-! SUPPORT. What the laws of the sweep speak of, those laws in one structure, and that the settings store and the jobs
of the erase queue keep them (R85, R87 to R91, R99, R101, R104). -/

namespace Sys2Proof.Machine

open Sys2Proof

/-! ### The laws (R91, R101) -/

/-- The fields that `eraseInv`, `sweepInv` and `sweepInside` speak of; of a snapshot, whether it is still to be swapped,
and of a cipher test run, whether it is the start-up run. -/
structure EraseView where
  queue   : List Job
  stage   : HeadStage
  sweep   : Option Sweep
  storing : Option StoredSweep
  copyA   : Option StoredSweep
  copyB   : Option StoredSweep
  drive   : DriveState
  startUp : Bool
  table   : List Entry
  toSwap  : Bool

def State.eraseView (s : State) : EraseView where
  queue := s.erase.queue
  stage := s.erase.stage
  sweep := s.erase.sweep
  storing := s.sweepStoring
  copyA := s.store.sweep.a.content.sweep
  copyB := s.store.sweep.b.content.sweep
  drive := s.ctl.drive
  startUp := s.cipher.run.any (fun r => r.kind == .startUp)
  table := s.regions.table
  toSwap := s.regions.snapshot.any (fun n => !n.swapped)

/-- The laws of a context against the checkpoint that a SWEEP commit in progress has captured. -/
structure Sweep.Lawful (storing : Option StoredSweep) (x : Sweep) : Prop where
  below    : x.c ≤ x.w
  chunk    : x.w ≤ x.q
  idle     : x.chunk = none → x.w = x.q
  keep     : keepLaw x.c x.keep
  captured : ∀ y, storing = some y → x.pos = y.pos → x.gen = y.gen → x.c ≤ y.checkpoint ∧ y.checkpoint ≤ x.w

/-- A context lies in its region of a table. -/
def Sweep.within (table : List Entry) (x : Sweep) : Prop :=
  ∃ e, table[x.pos.val]? = some e ∧ e.base ≤ x.c ∧ x.q ≤ e.base + e.length ∧
    ∀ k ∈ x.keep, e.base ≤ k.lo ∧ k.hi ≤ e.base + e.length

/-- Where in an event the laws are looked at: at its ends; while a completed commit's requesters are told, the commit
still in its place; and at the start of a wipe, before the engine is cleared. -/
inductive Phase where
  | steady
  | telling
  | clearing

/-- What a SWEEP commit that names a sweep says of an engine without a context. -/
def Phase.settled (p : Phase) (v : EraseView) : Prop :=
  match p with
  | .steady => v.storing ≠ none → v.sweep = none → v.drive = .wiping ∨ v.drive = .fault
  | .telling => v.storing ≠ none → v.sweep = none → v.queue = []
  | .clearing => v.sweep ≠ none

/-- The laws of the engine and of the sweep. `T` is the table that the event is to end with, where the context is to
stay in its region: once the table has left it, no swap may come that leads back to it. -/
structure EraseView.Lawful (p : Phase) (T : Option (List Entry)) (v : EraseView) : Prop where
  early   : v.stage = .idle ∨ v.stage = .waitCount ∨ v.stage = .waitMap → v.sweep = none
  empty   : v.queue = [] → v.stage = .idle ∧ v.sweep = none
  head    : ∀ x, v.sweep = some x → ∃ j rest, v.queue = j :: rest ∧ x.pos = j.pos
  wiping  : p ≠ .clearing → v.drive = .wiping → v.queue = []
  startUp : v.startUp = true → v.queue = [] ∧ v.storing = none
  settled : p.settled v
  sweep   : ∀ x, v.sweep = some x → x.Lawful v.storing
  stored  : ∀ y, v.storing = some y ∨ v.copyA = some y ∨ v.copyB = some y → keepLaw y.checkpoint y.keep
  inside  : ∀ t ∈ T, (v.table = t → ∀ x, v.sweep = some x → x.within t) ∧ (v.table ≠ t → v.toSwap = false)

theorem startUpRun_iff (s : State) :
    s.eraseView.startUp = true ↔ ∃ left, s.cipher.run = some ⟨.startUp, left⟩ := by
  cases hr : s.cipher.run with
  | none => simp [State.eraseView, hr]
  | some r =>
    obtain ⟨kind, left⟩ := r
    cases kind <;> simp [State.eraseView, hr]

/-- The invariants of O59 are these laws at the ends of an event. -/
theorem State.eraseView_lawful (s : State) : (s.eraseInv ∧ s.sweepInv) ↔ s.eraseView.Lawful .steady none := by
  constructor
  · rintro ⟨⟨hearly, hempty, hhead, hwiping, hstart, hsettled⟩, hsweep, hstored⟩
    refine ⟨hearly, hempty, hhead, fun _ => hwiping, fun h => ?_, hsettled, fun x hx => ?_, hstored, by simp⟩
    · obtain ⟨left, hrun⟩ := (startUpRun_iff s).mp h
      exact hstart left hrun
    · obtain ⟨hbelow, hchunk, hidle, hkeep, hcaptured⟩ := hsweep x hx
      exact ⟨hbelow, hchunk, hidle, hkeep, hcaptured⟩
  · intro h
    exact ⟨⟨h.early, h.empty, h.head, h.wiping (by simp),
      fun left hrun => h.startUp ((startUpRun_iff s).mpr ⟨left, hrun⟩), h.settled⟩, fun x hx =>
          ⟨(h.sweep x hx).below, (h.sweep x hx).chunk, (h.sweep x hx).idle, (h.sweep x hx).keep,
      (h.sweep x hx).captured⟩, h.stored⟩

theorem State.eraseView_inside (s : State) :
    (s.eraseInv ∧ s.sweepInv ∧ s.sweepInside) ↔ s.eraseView.Lawful .steady (some s.regions.table) := by
  rw [← and_assoc, s.eraseView_lawful]
  constructor
  · rintro ⟨h, hinside⟩
    refine { h with inside := ?_ }
    rintro t ⟨rfl⟩
    exact ⟨fun _ => hinside, fun hne => absurd rfl hne⟩
  · intro h
    exact ⟨{ h with inside := by simp }, (h.inside _ rfl).1 rfl⟩

section Rules

variable {p : Phase} {T : Option (List Entry)} {v : EraseView}

/-- While a job is queued and no context stands, a SWEEP commit in progress names no sweep. -/
theorem EraseView.Lawful.storing_none (h : v.Lawful p T) (hs : v.sweep = none) (hq : v.queue ≠ [])
    (hd : v.drive ≠ .fault) : v.storing = none := by
  by_contra hne
  cases p with
  | steady => exact (h.settled hne hs).elim (fun hw => hq (h.wiping (by simp) hw)) hd
  | telling => exact hq (h.settled hne hs)
  | clearing => exact h.settled hs

/-- The commit in progress gives way to one that captures the context, or to none. -/
theorem EraseView.Lawful.captures (h : v.Lawful p T) {o : Option StoredSweep}
    (ho : ∀ y, o = some y → ∃ x, v.sweep = some x ∧
      y = ⟨x.pos, x.gen, x.w, x.keep.filter (fun k => decide (x.w < k.hi))⟩) :
    EraseView.Lawful p T { v with storing := o } := by
  have hnone (hs : v.sweep = none) : o = none := by
    cases o with
    | none => rfl
    | some y =>
      obtain ⟨x, hx, -⟩ := ho y rfl
      rw [hs] at hx
      cases hx
  refine { h with
    startUp := fun hs => ⟨(h.startUp hs).1, hnone (h.empty (h.startUp hs).1).2⟩, settled := ?_,
    sweep := fun x hx => ?_, stored := fun y hy => ?_ }
  · cases p with
    | clearing => exact h.settled
    | _ => exact fun hne hs => absurd (hnone hs) hne
  · refine { h.sweep x hx with captured := fun y hy _ _ => ?_ }
    obtain ⟨x', hx', rfl⟩ := ho y hy
    obtain rfl := Option.some.inj (hx.symm.trans hx')
    exact ⟨(h.sweep x hx).below, Nat.le_refl _⟩
  · rcases hy with hy | hy
    · obtain ⟨x, hx, rfl⟩ := ho y hy
      obtain ⟨hsorted, hlength, -⟩ := (h.sweep x hx).keep
      exact ⟨keepSorted_filter hsorted _, (List.length_filter_le _ _).trans hlength,
        fun k hk => by simpa using (List.mem_filter.mp hk).2⟩
    · exact h.stored y (.inr hy)

/-- The context is changed to one that obeys its laws, in the same region. -/
theorem EraseView.Lawful.changes (h : v.Lawful p T) (f : Sweep → Sweep) (hf : ∀ x, v.sweep = some x →
    (f x).pos = x.pos ∧ (f x).Lawful v.storing ∧
      ∀ t ∈ T, x.within v.table → (f x).within v.table) :
    EraseView.Lawful p T { v with sweep := v.sweep.map f } := by
  refine { h with
    early := fun hs => by simp [h.early hs], empty := fun hq => ⟨(h.empty hq).1, by simp [(h.empty hq).2]⟩,
    head := fun y hy => ?_, settled := ?_, sweep := fun y hy => ?_, inside := fun t ht => ⟨fun htable y hy => ?_, ?_⟩ }
  · obtain ⟨x, hx, rfl⟩ := Option.map_eq_some_iff.mp hy
    exact (hf x hx).1 ▸ h.head x hx
  · cases p with
    | steady => exact fun hne hs => h.settled hne (Option.map_eq_none_iff.mp hs)
    | telling => exact fun hne hs => h.settled hne (Option.map_eq_none_iff.mp hs)
    | clearing => exact fun hs => h.settled (Option.map_eq_none_iff.mp hs)
  · obtain ⟨x, hx, rfl⟩ := Option.map_eq_some_iff.mp hy
    exact (hf x hx).2.1
  · obtain ⟨x, hx, rfl⟩ := Option.map_eq_some_iff.mp hy
    exact htable ▸ (hf x hx).2.2 t ht (htable.symm ▸ (h.inside t ht).1 htable x hx)
  · exact (h.inside t ht).2

/-- A change of the drive state that leads to WIPING nowhere, and at the ends of an event leaves WIPING and FAULT
nowhere. -/
theorem EraseView.Lawful.drives (h : v.Lawful p T) {d : DriveState} (hd : d ≠ .wiping)
    (hleaves : p = .telling ∨ v.drive ≠ .wiping ∧ v.drive ≠ .fault) : EraseView.Lawful p T { v with drive := d } := by
  refine { h with wiping := fun _ hw => absurd hw hd, settled := ?_ }
  cases p with
  | steady =>
    obtain ⟨hw, hf⟩ := hleaves.resolve_left (by simp)
    exact fun hne hs => ((h.settled hne hs).elim hw hf).elim
  | telling => exact h.settled
  | clearing => exact h.settled

/-- The engine waits with a job queued and without a context. -/
theorem EraseView.Lawful.waits (h : v.Lawful p T) (hs : v.sweep = none) (hq : v.queue ≠ []) (g : HeadStage) :
    EraseView.Lawful p T { v with stage := g } :=
  { h with early := fun _ => hs, empty := fun he => absurd he hq }

/-- The sweep of the head job is set up, with no SWEEP commit in progress that names one. -/
theorem EraseView.Lawful.setsUp (h : v.Lawful p T) {x : Sweep} {j : Job} {rest : List Job} (hq : v.queue = j :: rest)
    (hpos : x.pos = j.pos) (hstoring : v.storing = none) (hx : x.Lawful none) (hin : x.within v.table) :
    EraseView.Lawful p T { v with stage := .waitSweep, sweep := some x } := by
  refine { h with
    early := by simp, empty := fun he => absurd (hq.symm.trans he) (by simp), head := ?_, settled := ?_,
    sweep := ?_, inside := fun t ht => ⟨?_, (h.inside t ht).2⟩ }
  · rintro y ⟨rfl⟩
    exact ⟨j, rest, hq, hpos⟩
  · cases p with
    | clearing => simp [Phase.settled]
    | _ => exact fun hne => absurd hstoring hne
  · rintro y ⟨rfl⟩
    exact hstoring.symm ▸ hx
  · rintro htable y ⟨rfl⟩
    exact htable ▸ hin

/-- The head leaves the queue, with no SWEEP commit in progress that names a sweep. -/
theorem EraseView.Lawful.leaves (h : v.Lawful p T) (hp : p ≠ .clearing) (hstoring : v.storing = none) {rest : List Job}
    (hrest : v.queue = [] → rest = []) :
    EraseView.Lawful p T { v with queue := rest, stage := .idle, sweep := none } where
  early _ := rfl
  empty _ := ⟨rfl, rfl⟩
  head := by simp
  wiping hc hw := hrest (h.wiping hc hw)
  startUp hs := ⟨hrest (h.startUp hs).1, hstoring⟩
  settled := by
    cases p with
    | clearing => exact absurd rfl hp
    | _ => exact fun hne => absurd hstoring hne
  sweep := by simp
  stored := h.stored
  inside t ht := ⟨by simp, (h.inside t ht).2⟩

end Rules

/-! ### The settings store (R193) -/

theorem startNext_lawful {p : Phase} {T : Option (List Entry)} {s : State} (h : s.eraseView.Lawful p T) :
    (startNext s).eraseView.Lawful p T := by
  rcases startNext_cases s with heq | ⟨e, rest, -, -, -, heq⟩ <;> rw [heq]
  · exact h
  · refine h.captures (fun y hy => ?_)
    cases hr : e.record <;> rw [State.sweepStoring, hr] at hy <;> simp only [State.capture, reduceCtorEq] at hy
    cases hx : s.erase.sweep with
    | none => simp [State.sweepRecord, hx] at hy
    | some x =>
      refine ⟨x, hx, ?_⟩
      simp only [State.sweepRecord, hx, Option.ite_none_left_eq_some] at hy
      exact (Option.some.inj hy.2).symm

theorem requestCommit_lawful {p : Phase} {T : Option (List Entry)} {s : State} (h : s.eraseView.Lawful p T)
    (r : RecordId) (ws : List Waiter) : (requestCommit r ws s).eraseView.Lawful p T :=
  startNext_lawful (s := { s with store.queue := enqueue r ws s.store.queue }) h

/-! ### The jobs (R87 to R89) -/

/-- The context that the set-up of a sweep makes (R88). -/
def State.setUp (s : State) (p : Pos) (e : Entry) : Sweep where
  pos := p
  gen := (s.instanceOf e).map KeyInstance.gen
  c := e.base
  w := e.base
  q := e.base
  chunk := none
  keep := []
  retry := 0
  phase := .running
  outcome := .none

section Jobs

variable {p : Phase} {T : Option (List Entry)} {s : State}

theorem setUpSweep_lawful (h : s.eraseView.Lawful p T) {j : Job} {rest : List Job} {e : Entry}
    (hq : s.erase.queue = j :: rest) (he : s.entryAt j.pos = some e) (hstoring : s.sweepStoring = none) :
    (setUpSweep j.pos e s).eraseView.Lawful p T := by
  have hx : (s.setUp j.pos e).Lawful none := ⟨Nat.le_refl _, Nat.le_refl _, fun _ => rfl,
    ⟨rfl, Nat.zero_le _, fun k hk => absurd hk List.not_mem_nil⟩, fun y hy => absurd hy (by simp)⟩
  have hin : (s.setUp j.pos e).within s.regions.table :=
    ⟨e, he, Nat.le_refl _, Nat.le_add_right _ _, fun k hk => absurd hk List.not_mem_nil⟩
  exact requestCommit_lawful (h.setsUp hq rfl hstoring hx hin) _ _

/-- The head job acts once its wait has ended. -/
theorem runHead_lawful (h : s.eraseView.Lawful p T) {j : Job} {rest : List Job} (hq : s.erase.queue = j :: rest)
    (hw : s.erase.stage = .waitCount) (hd : s.ctl.drive ≠ .fault) : (runHead j s).eraseView.Lawful p T := by
  have hsweep : s.erase.sweep = none := h.early (.inr (.inl hw))
  have hqueue : s.eraseView.queue ≠ [] := fun he => absurd (hq.symm.trans he) (by simp)
  unfold runHead
  split
  · exact h
  · next e he =>
    split
    · exact requestCommit_lawful (s := { replaceKey _ s with erase.stage := .waitMap }) (h.waits hsweep hqueue .waitMap)
        _ _
    · split
      · exact setUpSweep_lawful h hq he (h.storing_none hsweep hqueue hd)
      · exact h
    · exact h

theorem dropHead_lawful (h : s.eraseView.Lawful p T) (hp : p ≠ .clearing) (hstoring : s.sweepStoring = none)
    {rest : List Job} (hrest : s.erase.queue = [] → rest = []) : (dropHead rest s).eraseView.Lawful p T := by
  have hleft := requestCommit_lawful (s := { s with erase.queue := rest, erase.stage := .idle, erase.sweep := none })
    (h.leaves hp hstoring hrest) .sweep []
  unfold dropHead
  dsimp only
  split
  · exact hleft
  · next hne =>
    refine hleft.waits (by simp [State.eraseView]) ?_ .waitCount
    simpa [State.eraseView, List.isEmpty_iff] using hne

theorem dropHead_queue (rest : List Job) (s : State) : (dropHead rest s).erase.queue = rest := by
  unfold dropHead
  dsimp only
  split <;> simp

theorem runJobs_lawful (l : List Job) {s : State} (h : s.eraseView.Lawful p T) (hl : s.erase.queue = l) :
    (runJobs l s).eraseView.Lawful p T := by
  induction l generalizing s with
  | nil => exact h
  | cons j rest ih =>
    unfold runJobs
    split
    · next hcond =>
      obtain ⟨hw, -, hd⟩ := hcond
      have hsweep : s.erase.sweep = none := h.early (.inr (.inl hw))
      split
      · have hqueue : s.eraseView.queue ≠ [] := fun he => absurd (hl.symm.trans he) (by simp)
        have hp : p ≠ .clearing := by
          rintro rfl
          exact h.settled hsweep
        refine ih (dropHead_lawful h hp (h.storing_none hsweep hqueue hd) ?_) (dropHead_queue rest s)
        exact fun he => absurd (hl.symm.trans he) (by simp)
      · exact runHead_lawful h hl hw hd
    · exact h

theorem headCheck_lawful (h : s.eraseView.Lawful p T) : (headCheck s).eraseView.Lawful p T :=
  runJobs_lawful _ h rfl

theorem startHead_lawful (h : s.eraseView.Lawful p T) (hsweep : s.erase.sweep = none) :
    (startHead s).eraseView.Lawful p T := by
  unfold startHead
  split
  · have hidle : EraseView.Lawful p T { s.eraseView with stage := .idle } :=
      { h with early := fun _ => hsweep, empty := fun _ => ⟨rfl, hsweep⟩ }
    exact hidle
  · next hne =>
    refine headCheck_lawful (s := { s with erase.stage := .waitCount }) (h.waits hsweep ?_ .waitCount)
    simpa [State.eraseView, List.isEmpty_iff] using hne

theorem headLeaves_lawful (h : s.eraseView.Lawful p T) (hp : p ≠ .clearing) (hstoring : s.sweepStoring = none) :
    (headLeaves s).eraseView.Lawful p T :=
  headCheck_lawful (dropHead_lawful h hp hstoring (fun he => by rw [he]; rfl))

/-- A swap, or any change of the table, closes the way back to the table that was in force. -/
theorem drainCheck_lawful (h : s.eraseView.Lawful p T) : (drainCheck s).eraseView.Lawful p T := by
  rcases drainCheck_cases s with heq | ⟨-, -, n, hn, hswap, heq⟩ | ⟨-, -, -, heq⟩ <;> rw [heq]
  · exact h
  · have htoSwap : s.eraseView.toSwap = true := by simp [State.eraseView, hn, hswap]
    refine requestCommit_lawful ?_ .map [.applyEnd]
    refine { h with inside := fun t ht => ⟨fun _ => ?_, fun _ => rfl⟩ }
    have htable : s.eraseView.table = t := by
      by_contra hne
      exact absurd (((h.inside t ht).2 hne).symm.trans htoSwap) (by simp)
    exact (h.inside t ht).1 htable
  · exact h

theorem notifyCounts_lawful (h : s.eraseView.Lawful p T) : (notifyCounts s).eraseView.Lawful p T :=
  headCheck_lawful (drainCheck_lawful h)

theorem endApply_lawful (h : s.eraseView.Lawful p T) : (endApply s).eraseView.Lawful p T := by
  unfold endApply
  split
  · have hends : EraseView.Lawful p T { s.eraseView with toSwap := false } :=
      { h with inside := fun t ht => ⟨(h.inside t ht).1, fun _ => rfl⟩ }
    exact hends
  · exact h

theorem clearRemoved_lawful (h : s.eraseView.Lawful p T) (r : ProfIx) : (clearRemoved r s).eraseView.Lawful p T := by
  refine requestCommit_lawful ?_ .map []
  have htoSwap : (s.regions.snapshot.map (fun n => { n with masks := n.masks.map (fun m => maskClear m r) })).any
      (fun n => !n.swapped) = s.regions.snapshot.any (fun n => !n.swapped) := by
    cases s.regions.snapshot <;> rfl
  have hview : ({ s with
      cipher.slots := s.cipher.slots.map (fun k => { k with mask := maskClear k.mask r })
      regions.masks := s.regions.masks.map (fun m => maskClear m r)
      regions.snapshot := s.regions.snapshot.map (fun n =>
        { n with masks := n.masks.map (fun m => maskClear m r) }) } : State).eraseView = s.eraseView := by
    unfold State.eraseView
    dsimp only
    rw [htoSwap]
    rfl
  exact hview ▸ h

end Jobs

end Sys2Proof.Machine
end

section
/-! SUPPORT. The fragments, the sweep after its start, the grants and the media port keep the laws of the sweep (R92 to
R100, R109, R110). -/

namespace Sys2Proof.Machine

open Sys2Proof

/-! ### Fragments and transactions -/

section Fragments

variable {p : Phase} {T : Option (List Entry)} {s : State}

theorem EraseView.Lawful.of_eq {t : State} (h : s.eraseView.Lawful p T) (ht : t.eraseView = s.eraseView) :
    t.eraseView.Lawful p T := ht ▸ h

theorem endFrag_eraseLawful (h : s.eraseView.Lawful p T) (id : Nat) (st : FragState) :
    (endFrag id st s).eraseView.Lawful p T := by
  unfold endFrag
  split
  · exact h
  · exact notifyCounts_lawful (h.of_eq (by simp [State.eraseView, State.sweepStoring]))

@[simp] theorem completeTxn_eraseView (id : Nat) (s : State) : (completeTxn id s).eraseView = s.eraseView := by
  simp [State.eraseView, State.sweepStoring]

@[simp] theorem setTxn_eraseView (id : Nat) (f : Txn → Txn) (s : State) : (setTxn id f s).eraseView = s.eraseView := rfl

@[simp] theorem setFrag_eraseView (id : Nat) (f : Frag → Frag) (s : State) :
    (setFrag id f s).eraseView = s.eraseView := rfl

theorem readResult_eraseLawful (h : s.eraseView.Lawful p T) (t : Txn) (g : Frag) (ok : Bool) (data : List Content) :
    (readResult t g ok data s).eraseView.Lawful p T := by
  unfold readResult
  split
  · exact endFrag_eraseLawful (s := setTxn t.id _ s) h _ _
  · split
    · exact endFrag_eraseLawful h _ _
    · split
      · exact endFrag_eraseLawful (s := setFrag g.id _ { s with counters.unrelated := _ }) h _ _
      · exact endFrag_eraseLawful (s := setTxn t.id _ s) h _ _

theorem fragResult_eraseLawful (h : s.eraseView.Lawful p T) (id : Nat) (ok : Bool) (data : List Content) :
    (fragResult id ok data s).eraseView.Lawful p T := by
  unfold fragResult
  split
  · exact h
  · rw [completeTxn_eraseView]
    split
    · exact endFrag_eraseLawful h _ _
    · split
      · exact readResult_eraseLawful h _ _ _ _
      · split
        · exact endFrag_eraseLawful h _ _
        · exact endFrag_eraseLawful (s := setTxn _ _ s) h _ _

theorem joinIssue_eraseLawful (h : s.eraseView.Lawful p T) (id : Nat) : (joinIssue id s).eraseView.Lawful p T := by
  unfold joinIssue
  split
  · exact fragResult_eraseLawful h id false []
  · exact h

theorem joinIfPulled_eraseLawful (h : s.eraseView.Lawful p T) (id : Nat) :
    (joinIfPulled id s).eraseView.Lawful p T := by
  unfold joinIfPulled
  split
  · exact h
  · split
    · exact joinIssue_eraseLawful h id
    · exact h

theorem failIssueQueue_eraseLawful (h : s.eraseView.Lawful p T) : (failIssueQueue s).eraseView.Lawful p T :=
  List.foldlRecOn (motive := fun t : State => t.eraseView.Lawful p T) s.filter.issueQ _
    (b := { s with filter.issueQ := [] }) h (fun _ ht id _ => fragResult_eraseLawful ht id false [])

theorem releaseHolds_eraseLawful (h : s.eraseView.Lawful p T) (serial : Nat) :
    (releaseHolds serial s).eraseView.Lawful p T :=
  List.foldlRecOn (motive := fun t : State => t.eraseView.Lawful p T) _ _ h
    (fun t ht id _ => joinIfPulled_eraseLawful (s := setFrag id (fun g => { g with kind := .pass }) t) ht id)

@[simp] theorem endWaits_eraseView (picks : Txn → Bool) (s : State) : (endWaits picks s).eraseView = s.eraseView := by
  simp [State.eraseView, State.sweepStoring]

@[simp] theorem faultWaits_eraseView (s : State) : (faultWaits s).eraseView = s.eraseView := by
  simp [State.eraseView, State.sweepStoring]

end Fragments

/-! ### The sweep after its start -/

/-- Marks that move up, under the same c and keep list, keep the laws. -/
theorem Sweep.Lawful.marks {storing : Option StoredSweep} {x y : Sweep} (h : x.Lawful storing) (hpos : y.pos = x.pos)
    (hgen : y.gen = x.gen) (hc : y.c = x.c) (hkeep : y.keep = x.keep) (hw : x.w ≤ y.w) (hq : y.w ≤ y.q)
    (hidle : y.chunk = none → y.w = y.q) : y.Lawful storing where
  below := hc ▸ h.below.trans hw
  chunk := hq
  idle := hidle
  keep := hc ▸ hkeep ▸ h.keep
  captured z hz hp hg := by
    obtain ⟨hlo, hhi⟩ := h.captured z hz (hpos ▸ hp) (hgen ▸ hg)
    exact ⟨hc ▸ hlo, hhi.trans hw⟩

theorem Sweep.within.marks {table : List Entry} {x y : Sweep} (h : x.within table) (hpos : y.pos = x.pos)
    (hc : y.c = x.c) (hkeep : y.keep = x.keep) (hq : y.q ≤ x.q) : y.within table := by
  obtain ⟨e, he, hbase, hend, hranges⟩ := h
  exact ⟨e, hpos ▸ he, hc ▸ hbase, hq.trans hend, hkeep ▸ hranges⟩

section Sweeping

variable {p : Phase} {T : Option (List Entry)} {s : State}

/-- A change of the context that moves its marks, w up and q down. -/
theorem setSweep_lawful (h : s.eraseView.Lawful p T) {f : Sweep → Sweep} (hsame : ∀ x, (f x).pos = x.pos ∧
    (f x).gen = x.gen ∧ (f x).c = x.c ∧ (f x).keep = x.keep)
    (hmarks : ∀ x : Sweep, x.w ≤ x.q → (x.chunk = none → x.w = x.q) →
      x.w ≤ (f x).w ∧ (f x).w ≤ (f x).q ∧ (f x).q ≤ x.q ∧ ((f x).chunk = none → (f x).w = (f x).q)) :
    (setSweep f s).eraseView.Lawful p T := by
  refine h.changes f (fun x hx => ?_)
  obtain ⟨hpos, hgen, hc, hkeep⟩ := hsame x
  obtain ⟨hw, hwq, hq, hidle⟩ := hmarks x (h.sweep x hx).chunk (h.sweep x hx).idle
  exact ⟨hpos, (h.sweep x hx).marks hpos hgen hc hkeep hw hwq hidle,
    fun _ _ hin => hin.marks hpos hc hkeep hq⟩

/-- A change of the context that leaves its marks. -/
theorem setSweep_lawful_of_same (h : s.eraseView.Lawful p T) {f : Sweep → Sweep} (hsame : ∀ x, (f x).pos = x.pos ∧
    (f x).gen = x.gen ∧ (f x).c = x.c ∧ (f x).keep = x.keep)
    (hmarks : ∀ x : Sweep, (f x).w = x.w ∧ (f x).q = x.q ∧ ((f x).chunk = none → x.chunk = none)) :
    (setSweep f s).eraseView.Lawful p T := by
  refine setSweep_lawful h hsame (fun x hx hidle => ?_)
  obtain ⟨hw, hq, hchunk⟩ := hmarks x
  rw [hw, hq]
  exact ⟨Nat.le_refl _, hx, Nat.le_refl _, fun hn => hidle (hchunk hn)⟩

theorem beginEnding_lawful (h : s.eraseView.Lawful p T) (r : SweepResult) :
    (beginEnding r s).eraseView.Lawful p T :=
  requestCommit_lawful (setSweep_lawful_of_same h (f := fun x => { x with phase := .ending, outcome := r })
    (fun _ => ⟨rfl, rfl, rfl, rfl⟩) (fun _ => ⟨rfl, rfl, id⟩)) _ _

theorem sweepDecide_lawful (h : s.eraseView.Lawful p T) : (sweepDecide s).eraseView.Lawful p T := by
  rcases sweepDecide_cases s with heq | ⟨x, l, -, -, -, -, -, -, heq⟩ <;> rw [heq]
  · exact h
  · exact beginEnding_lawful h .done

/-- A chunk that is dropped leaves q at w. -/
theorem droppedChunk_lawful (h : s.eraseView.Lawful p T) (f : Sweep → Sweep) (hf : ∀ x, (f x).pos = x.pos ∧
    (f x).gen = x.gen ∧ (f x).c = x.c ∧ (f x).keep = x.keep) (hmarks : ∀ x, (f x).w = x.w ∧ (f x).q = x.w) :
    (setSweep f s).eraseView.Lawful p T := by
  refine setSweep_lawful h hf (fun x hx _ => ?_)
  obtain ⟨hw, hq⟩ := hmarks x
  rw [hw, hq]
  exact ⟨Nat.le_refl _, Nat.le_refl _, hx, fun _ => rfl⟩

theorem dropChunk_lawful (h : s.eraseView.Lawful p T) : (dropChunk s).eraseView.Lawful p T :=
  droppedChunk_lawful h _ (fun _ => ⟨rfl, rfl, rfl, rfl⟩) (fun _ => ⟨rfl, rfl⟩)

theorem releaseChunkHolds_lawful (h : s.eraseView.Lawful p T) : (releaseChunkHolds s).eraseView.Lawful p T := by
  unfold releaseChunkHolds
  split
  · exact releaseHolds_eraseLawful h _
  · exact h

theorem releaseIdleHolds_lawful (h : s.eraseView.Lawful p T) : (releaseIdleHolds s).eraseView.Lawful p T := by
  unfold releaseIdleHolds
  split
  · split
    · exact h
    · exact releaseHolds_eraseLawful h _
  · exact h

theorem cancelNow_lawful (h : s.eraseView.Lawful p T) : (cancelNow s).eraseView.Lawful p T :=
  beginEnding_lawful (dropChunk_lawful (releaseChunkHolds_lawful h)) _

theorem chunkOk_lawful (h : s.eraseView.Lawful p T) (x : Sweep) : (chunkOk x s).eraseView.Lawful p T := by
  have hmoved : (setSweep (fun x => { x with w := x.q, chunk := none, retry := 0 })
      (releaseChunkHolds s)).eraseView.Lawful p T :=
    setSweep_lawful (releaseChunkHolds_lawful h) (fun _ => ⟨rfl, rfl, rfl, rfl⟩)
      (fun x hx _ => ⟨hx, Nat.le_refl _, Nat.le_refl _, fun _ => rfl⟩)
  unfold chunkOk
  dsimp only
  have hcommit (b : Prop) [Decidable b] : (if b then requestCommit .sweep []
      (setSweep (fun x => { x with w := x.q, chunk := none, retry := 0 }) (releaseChunkHolds s))
      else setSweep (fun x => { x with w := x.q, chunk := none, retry := 0 })
        (releaseChunkHolds s)).eraseView.Lawful p T := by
    split
    · exact requestCommit_lawful hmoved _ _
    · exact hmoved
  split
  · exact hcommit _
  · split
    · exact beginEnding_lawful (hcommit _) _
    · exact sweepDecide_lawful (hcommit _)

theorem chunkFail_lawful (h : s.eraseView.Lawful p T) (x : Sweep) (k : Chunk) :
    (chunkFail x k s).eraseView.Lawful p T := by
  unfold chunkFail
  split
  · exact setSweep_lawful_of_same (releaseChunkHolds_lawful h) (fun _ => ⟨rfl, rfl, rfl, rfl⟩)
      (fun _ => ⟨rfl, rfl, by simp⟩)
  · split
    · exact cancelNow_lawful h
    · split
      · exact setSweep_lawful_of_same h (fun _ => ⟨rfl, rfl, rfl, rfl⟩) (fun _ => ⟨rfl, rfl, by simp⟩)
      · exact beginEnding_lawful (dropChunk_lawful (releaseChunkHolds_lawful h)) _

theorem chunkResult_lawful (h : s.eraseView.Lawful p T) (serial : Nat) (ok : Bool) :
    (chunkResult serial ok s).eraseView.Lawful p T := by
  unfold chunkResult
  split
  · exact releaseHolds_eraseLawful h serial
  · split
    · exact releaseHolds_eraseLawful h serial
    · split
      · exact releaseHolds_eraseLawful h serial
      · split
        · exact chunkOk_lawful h _
        · exact chunkFail_lawful h _ _

theorem detachSweep_lawful (h : s.eraseView.Lawful p T) : (detachSweep s).eraseView.Lawful p T := by
  have hdropped : (setSweep (fun x => { x with q := x.w, chunk := none, retry := 0 }) s).eraseView.Lawful p T :=
    droppedChunk_lawful h _ (fun _ => ⟨rfl, rfl, rfl, rfl⟩) (fun _ => ⟨rfl, rfl⟩)
  unfold detachSweep
  split
  · exact h
  · dsimp only
    split
    · exact beginEnding_lawful hdropped _
    · exact hdropped

theorem sweepAtReady_lawful (h : s.eraseView.Lawful p T) : (sweepAtReady s).eraseView.Lawful p T := by
  unfold sweepAtReady
  split
  · split
    · split
      · exact sweepDecide_lawful (setSweep_lawful_of_same (dropChunk_lawful (releaseHolds_eraseLawful h _))
          (fun _ => ⟨rfl, rfl, rfl, rfl⟩) (fun _ => ⟨rfl, rfl, id⟩))
      · exact h
    · exact sweepDecide_lawful h
  · exact h

end Sweeping

/-! ### Chunks (R93) -/

/-- The next sweep sector does not lie below q. -/
theorem le_stepOver (keep : List Range) (q : Nat) : q ≤ stepOver keep q := by
  unfold stepOver
  split
  · next k hk =>
    have hhas := List.find?_some hk
    exact ((has_iff _ _).mp hhas).2.le
  · exact Nat.le_refl q

/-- The least start of a keep range above q lies above q. -/
theorem lt_nextKeepStart {q top : Nat} (h : q < top) (keep : List Range) : q < nextKeepStart q top keep :=
  List.foldlRecOn (motive := fun m : Nat => q < m) keep _ h (fun m hm k _ => by split <;> omega)

theorem chunkSize_pos (code : Nat) : 0 < chunkSize code := by
  unfold chunkSize
  split <;> decide

/-- A chunk that is ready to be formed is not empty, and ends in its region. -/
theorem formChunk_marks {s : State} {x : Sweep} (hx : s.sweeping = some x) (hready : s.chunkReady = true)
    (hchunk : x.chunk = none) :
    x.q ≤ (formChunk x s).1.w ∧ (formChunk x s).1.w ≤ (formChunk x s).1.q ∧
      (formChunk x s).1.q ≤ s.regionEnd x.pos := by
  have hlimit : ∃ u, s.uSpan = some u ∧ stepOver x.keep x.q < min (s.regionEnd x.pos) u := by
    simp only [State.chunkReady, hx, hchunk, State.sweepLimit, Bool.and_eq_true] at hready
    cases hu : s.uSpan with
    | none => simp [hu] at hready
    | some u => exact ⟨u, rfl, by simpa [hu] using hready.2⟩
  obtain ⟨u, hu, hlt⟩ := hlimit
  have hnext := lt_nextKeepStart (Nat.lt_add_of_pos_right (n := stepOver x.keep x.q)
    (chunkSize_pos s.store.effective.chunk)) x.keep
  simp only [formChunk, hchunk, chunkEnd, hu, Option.getD_some]
  exact ⟨le_stepOver _ _, by omega, by omega⟩

theorem formChunk_same (x : Sweep) (s : State) : (formChunk x s).1.pos = x.pos ∧ (formChunk x s).1.gen = x.gen ∧
    (formChunk x s).1.c = x.c ∧ (formChunk x s).1.keep = x.keep ∧ (formChunk x s).1.chunk ≠ none := by
  unfold formChunk
  split <;> simp

/-- A chunk is formed, or its retry goes out. -/
theorem formChunk_lawful {p : Phase} {T : Option (List Entry)} {s : State} (h : s.eraseView.Lawful p T) {x : Sweep}
    (hx : s.sweeping = some x) (hready : s.chunkReady = true) :
    EraseView.Lawful p T { s.eraseView with sweep := some (formChunk x s).1 } := by
  have hsweep : s.eraseView.sweep = some x := by
    unfold State.sweeping at hx
    split at hx
    · exact hx
    · simp at hx
  obtain ⟨hpos, hgen, hc, hkeep, hsome⟩ := formChunk_same x s
  have hidle : (formChunk x s).1.chunk = none → (formChunk x s).1.w = (formChunk x s).1.q := fun hn => absurd hn hsome
  have hformed : (formChunk x s).1.Lawful s.sweepStoring ∧
      (x.within s.regions.table → (formChunk x s).1.within s.regions.table) := by
    have hlaw := h.sweep x hsweep
    cases hchunk : x.chunk with
    | some k =>
      have hw : (formChunk x s).1.w = x.w ∧ (formChunk x s).1.q = x.q := by simp [formChunk, hchunk]
      exact ⟨hlaw.marks hpos hgen hc hkeep hw.1.ge (by rw [hw.1, hw.2]; exact hlaw.chunk) hidle,
        fun hin => hin.marks hpos hc hkeep hw.2.le⟩
    | none =>
      obtain ⟨hw, hq, hend⟩ := formChunk_marks hx hready hchunk
      refine ⟨hlaw.marks hpos hgen hc hkeep (hlaw.chunk.trans hw) hq hidle, ?_⟩
      rintro ⟨e, he, hbase, -, hranges⟩
      have hregion : s.regionEnd x.pos = e.base + e.length := by simp [State.regionEnd, State.entryAt, he, Entry.stop]
      exact ⟨e, hpos ▸ he, hc ▸ hbase, hregion ▸ hend, hkeep ▸ hranges⟩
  have hchanged := h.changes (fun _ => (formChunk x s).1) (fun y hy => by
    obtain rfl := Option.some.inj (hsweep.symm.trans hy)
    exact ⟨hpos, hformed.1, fun _ _ => hformed.2⟩)
  rwa [hsweep] at hchanged

/-! ### The media port -/

section Media

variable {p : Phase} {T : Option (List Entry)} {s : State}

@[simp] theorem issue_eraseView (tag : Tag) (req : Requester) (kind : Kind) (r : Range) (data : List Content)
    (s : State) : (issue tag req kind r data s).eraseView = s.eraseView := rfl

theorem grantTag_lawful (h : s.eraseView.Lawful p T) (tag : Tag) : (grantTag tag s).eraseView.Lawful p T := by
  unfold grantTag
  split
  · exact h
  · split
    · next x _ hx =>
      obtain ⟨hwins, hx⟩ := Option.ite_none_right_eq_some.mp hx
      exact formChunk_lawful h hx (Bool.and_eq_true_iff.mp hwins).1
    · unfold grantHead
      dsimp only
      split <;> exact h
    · exact h

@[simp] theorem issueSize_eraseView (s : State) : (issueSize s).eraseView = s.eraseView := by
  simp [State.eraseView, State.sweepStoring]

@[simp] theorem serveSize_eraseView (s : State) : (serveSize s).eraseView = s.eraseView := by
  simp [State.eraseView, State.sweepStoring]

@[simp] theorem imageResult_eraseView (c : Command) (ok : Bool) (s : State) :
    (imageResult c ok s).eraseView = s.eraseView := by
  simp [State.eraseView, State.sweepStoring]

@[simp] theorem testResult_eraseView (run : Nat) (kind : Kind) (ok : Bool) (data : List Content) (s : State) :
    (testResult run kind ok data s).eraseView = s.eraseView := by
  simp [State.eraseView, State.sweepStoring]

@[simp] theorem abortTest_eraseView (s : State) : (abortTest s).eraseView = s.eraseView := by
  simp [State.eraseView, State.sweepStoring]

/-- An entry into FAULT, where no lock or wipe is left to follow. -/
theorem enterFault_lawful_sweep (h : s.eraseView.Lawful .steady T) (c : FaultCause) :
    (enterFault c s).eraseView.Lawful .steady T := by
  by_cases hf : s.ctl.drive = .fault
  · rwa [enterFault_of_fault hf]
  · unfold enterFault
    rw [if_neg hf]
    refine releaseIdleHolds_lawful ?_
    rw [faultWaits_eraseView, abortTest_eraseView]
    refine endApply_lawful ?_
    have hfault : EraseView.Lawful .steady T { s.eraseView with drive := .fault } :=
      { h with wiping := by simp, settled := fun _ _ => .inr rfl }
    refine hfault.of_eq (s := { s with ctl.drive := .fault }) ?_
    simp [State.eraseView, State.sweepStoring]

theorem sizeResult_lawful (h : s.eraseView.Lawful .steady T) (ok : Bool) (span : Nat) :
    (sizeResult ok span s).eraseView.Lawful .steady T := by
  unfold sizeResult
  split
  · rwa [issueSize_eraseView]
  · split
    · exact sweepAtReady_lawful (s := { s with media.state := .ready, media.capacity := some span }) h
    · exact failIssueQueue_eraseLawful (enterFault_lawful_sweep
        (s := { s with media.state := .notReady, media.capacity := none }) h _)

theorem deliverResult_lawful (h : s.eraseView.Lawful .steady T) (c : Command) (ok : Bool) (span : Nat)
    (data : List Content) : (deliverResult c ok span data s).eraseView.Lawful .steady T := by
  have himage : (imageResult c ok s).eraseView.Lawful .steady T := h.of_eq (imageResult_eraseView ..)
  unfold deliverResult
  dsimp only
  split
  · exact fragResult_eraseLawful himage _ _ _
  · exact chunkResult_lawful himage _ _
  · exact himage.of_eq (testResult_eraseView ..)
  · exact sizeResult_lawful himage _ _

theorem failAll_lawful (h : s.eraseView.Lawful .steady T) (l : List Command) :
    (failAll l s).eraseView.Lawful .steady T :=
  List.foldlRecOn (motive := fun t : State => t.eraseView.Lawful .steady T) l _ h
    (fun _ ht c _ => deliverResult_lawful ht c false 0 [])

theorem mediaLinkReset_lawful (h : s.eraseView.Lawful .steady T) :
    (mediaLinkReset s).eraseView.Lawful .steady T :=
  failAll_lawful (s := { freeTags s with mediaOut := s.mediaOut ++ [.linkReset] }) h _

end Media

end Sys2Proof.Machine
end

section
/-! SUPPORT. The lock controller, the credential unit and the completion of a commit keep the laws of the sweep (R99,
R103, R106, R111, R166). -/

namespace Sys2Proof.Machine

open Sys2Proof

/-! ### Changes of the drive state -/

section Drive

variable {p : Phase} {T : Option (List Entry)} {s : State}

@[simp] theorem setDrive_eraseView (d : DriveState) (s : State) :
    (setDrive d s).eraseView = { s.eraseView with drive := d } := by
  simp [State.eraseView, State.sweepStoring]

@[simp] theorem requestOneShot_eraseView (x : Pattern) (s : State) :
    (requestOneShot x s).eraseView = s.eraseView := by
  simp [State.eraseView, State.sweepStoring]

@[simp] theorem endCollection_eraseView (s : State) : (endCollection s).eraseView = s.eraseView := rfl

@[simp] theorem standbyCheck_eraseView (s : State) : (standbyCheck s).eraseView = s.eraseView := by
  simp [State.eraseView, State.sweepStoring]

@[simp] theorem selectBackground_eraseView (s : State) : (selectBackground s).eraseView = s.eraseView := by
  simp [State.eraseView, State.sweepStoring]

@[simp] theorem restartInactivity_eraseView (s : State) : (restartInactivity s).eraseView = s.eraseView := by
  simp [State.eraseView, State.sweepStoring]

@[simp] theorem withdrawRaced_eraseView (s t : State) : (withdrawRaced s t).eraseView = t.eraseView := rfl

@[simp] theorem reportArrival_eraseView (s : State) : (reportArrival s).eraseView = s.eraseView := by
  simp [State.eraseView, State.sweepStoring]

@[simp] theorem lockDrive_eraseView (s : State) : (lockDrive s).eraseView = { s.eraseView with drive := .locked } := by
  simp [State.eraseView, State.sweepStoring, lockDrive_ctl]

theorem setDrive_lawful (h : s.eraseView.Lawful p T) {d : DriveState} (hd : d ≠ .wiping)
    (hleaves : p = .telling ∨ s.ctl.drive ≠ .wiping ∧ s.ctl.drive ≠ .fault) :
    (setDrive d s).eraseView.Lawful p T := by
  rw [setDrive_eraseView]
  exact h.drives hd hleaves

theorem lockTrigger_lawful (h : s.eraseView.Lawful p T) : (lockTrigger s).eraseView.Lawful p T := by
  rcases lockTrigger_cases s with ⟨hlock, heq⟩ | ⟨-, heq⟩ <;> rw [heq]
  · have hdrive : s.ctl.drive = .opened ∨ s.ctl.drive = .enrolling := by
      simp only [State.lockable, State.enrollingFrom, Bool.or_eq_true, Bool.and_eq_true, beq_iff_eq] at hlock
      exact hlock.imp id And.left
    rw [lockDrive_eraseView]
    refine h.drives (by simp) (.inr ?_)
    rcases hdrive with hd | hd <;> simp [State.eraseView, hd]
  · exact h

theorem openDrive_lawful (h : s.eraseView.Lawful p T) (r : ProfIx) (accept : Bool) :
    (openDrive r accept s).eraseView.Lawful p T := by
  by_cases hf : s.ctl.drive = .fault ∨ s.ctl.drive = .wiping
  · rwa [openDrive_of_fault hf]
  · obtain ⟨hfault, hwiping⟩ := not_or.mp hf
    have hview : (openDrive r accept s).eraseView = { s.eraseView with drive := .opened } := by
      have hdrive : (openDrive r accept s).ctl.drive = .opened := congrArg Auth.drive (openDrive_auth hf r accept)
      simp [State.eraseView, State.sweepStoring, hdrive]
    rw [hview]
    exact h.drives (by simp) (.inr ⟨hwiping, hfault⟩)

theorem Origin.drive_ne_wiping (o : Origin) : o.drive ≠ .wiping := by cases o <;> simp [Origin.drive]

theorem failEnroll_lawful (h : s.eraseView.Lawful p T) (hd : s.ctl.drive = .enrolling) (e : Enroll) (r : EnrollResult) :
    (failEnroll e r s).eraseView.Lawful p T := by
  unfold failEnroll
  refine setDrive_lawful ?_ (Origin.drive_ne_wiping _) (.inr (by simp [hd]))
  exact h.of_eq (by rw [requestOneShot_eraseView]; rfl)

theorem startEnroll_lawful (h : s.eraseView.Lawful p T) (hd : s.ctl.drive ≠ .wiping ∧ s.ctl.drive ≠ .fault)
    (r : ProfIx) (k : ProfileKind) (o : Origin) (x : EnrollStep) : (startEnroll r k o x s).eraseView.Lawful p T :=
  setDrive_lawful (s := { s with
    cred.enroll := some ⟨r, k, o, x, [], false, false, false⟩, cred.lastEnroll := .running }) h (by simp) (.inr hd)

/-! ### Keys -/

theorem keyFactory_lawful (h : s.eraseView.Lawful p T) (hd : s.ctl.drive = .factory) (k : Key) :
    (keyFactory k s).eraseView.Lawful p T := by
  unfold keyFactory
  split
  · split
    · exact h.of_eq (requestOneShot_eraseView ..)
    · split
      · exact h.of_eq (s := s) (requestOneShot_eraseView ..)
      · exact startEnroll_lawful h (by simp [hd]) _ _ _ _
  · exact h

theorem keyLocked_lawful (h : s.eraseView.Lawful p T) (hd : s.ctl.drive = .locked) (k : Key) :
    (keyLocked k s).eraseView.Lawful p T := by
  unfold keyLocked
  split
  · exact setDrive_lawful (s := beginCollection .unlock s) h (by simp) (.inr (by simp [hd]))
  · exact h

theorem keyEntry_lawful (h : s.eraseView.Lawful p T) (hd : s.ctl.drive = .entry) (k : Key) :
    (keyEntry k s).eraseView.Lawful p T := by
  have hends (x : Pattern) : (setDrive .locked (requestOneShot x (endCollection s))).eraseView.Lawful p T :=
    setDrive_lawful (s := requestOneShot x (endCollection s)) (h.of_eq (requestOneShot_eraseView ..)) (by simp)
      (.inr (by simp [hd]))
  unfold keyEntry
  split
  · split
    · exact h.of_eq (s := s) (requestOneShot_eraseView ..)
    · exact hends _
  · exact setDrive_lawful (s := endCollection s) h (by simp) (.inr (by simp [hd]))
  · split
    · exact hends _
    · exact requestCommit_lawful (setDrive_lawful (s := { endCollection s with
        cred.eval := some ⟨s.keypad.buffer, .counting⟩, cred.n := min (s.cred.n + 1) 255 }) h (by simp)
        (.inr (by simp [hd]))) _ _

theorem handOn_lawful (h : s.eraseView.Lawful p T) (hd : s.ctl.drive = .enrolling) (e : Enroll) :
    (handOn e s).eraseView.Lawful p T := by
  unfold handOn
  split
  · unfold firstEntry
    split
    · exact failEnroll_lawful (s := endCollection s) h hd _ _
    · exact h.of_eq (s := s) (requestOneShot_eraseView ..)
  · unfold secondEntry
    split
    · exact failEnroll_lawful (s := endCollection s) h hd _ _
    · split
      · exact failEnroll_lawful (s := endCollection s) h hd _ _
      · exact h
  · exact h

theorem enrollKey_lawful (h : s.eraseView.Lawful p T) (hd : s.ctl.drive = .enrolling) (e : Enroll) (k : Key) :
    (enrollKey e k s).eraseView.Lawful p T := by
  unfold enrollKey
  split
  · unfold enrollOpen
    split
    · exact handOn_lawful h hd e
    · split <;> exact h
  · unfold enrollDigit
    split
    · exact h.of_eq (s := s) (requestOneShot_eraseView ..)
    · exact failEnroll_lawful h hd _ _
  · unfold cancelEnroll
    split
    · exact lockTrigger_lawful h
    · unfold cancelFactoryEnroll
      split
      · exact h
      · exact setDrive_lawful (s := endCollection { s with cred.enroll := none, cred.lastEnroll := .cancelled }) h
          (by simp) (.inr (by simp [hd]))

theorem keyEnrolling_lawful (h : s.eraseView.Lawful p T) (hd : s.ctl.drive = .enrolling) (k : Key) :
    (keyEnrolling k s).eraseView.Lawful p T := by
  unfold keyEnrolling
  split
  · exact h
  · split
    · split
      · exact enrollKey_lawful (h.of_eq (restartInactivity_eraseView s)) (by simpa using hd) _ _
      · exact enrollKey_lawful h hd _ _
    · exact h

theorem keyPress_lawful (h : s.eraseView.Lawful p T) (k : Key) : (keyPress k s).eraseView.Lawful p T := by
  unfold keyPress
  split
  · next hd => exact keyFactory_lawful h hd k
  · next hd => exact keyLocked_lawful h hd k
  · next hd => exact keyEntry_lawful h hd k
  · unfold keyOpened
    split
    · exact lockTrigger_lawful (h.of_eq (restartInactivity_eraseView s))
    · exact h
  · next hd => exact keyEnrolling_lawful h hd k
  all_goals exact h

theorem pressAfter_lawful (h : s.eraseView.Lawful p T) (was now : Vector KeyState 12) :
    (pressAfter was now s).eraseView.Lawful p T := by
  unfold pressAfter
  split
  · unfold press
    rw [standbyCheck_eraseView, withdrawRaced_eraseView]
    exact keyPress_lawful (s := { s with power.idle := idleAtPress s.power.idle }) h _
  · exact h

end Drive

/-! ### The full wipe (R166) -/

/-- An engine that a wipe has cleared. -/
theorem EraseView.cleared_lawful {v : EraseView} (hd : v.drive = .wiping)
    (hstart : v.startUp = true → v.storing = none)
    (hstored : ∀ y, v.storing = some y ∨ v.copyA = some y ∨ v.copyB = some y → keepLaw y.checkpoint y.keep) :
    EraseView.Lawful .steady none { v with queue := [], stage := .idle, sweep := none } where
  early _ := rfl
  empty _ := ⟨rfl, rfl⟩
  head := by simp
  wiping _ _ := rfl
  startUp hs := ⟨rfl, hstart hs⟩
  settled _ _ := .inl hd
  sweep := by simp
  stored := hstored
  inside := by simp

/-- The release of the HOLD pieces at a wipe's start, before the engine is cleared (R111). -/
theorem releaseIdleHolds_stored {s : State} (h : s.eraseView.Lawful .steady none) (d : DriveState) {t : State}
    (ht : t.eraseView = { s.eraseView with drive := d }) :
    ((releaseIdleHolds t).eraseView.startUp = true → (releaseIdleHolds t).eraseView.storing = none) ∧
      ∀ y, (releaseIdleHolds t).eraseView.storing = some y ∨ (releaseIdleHolds t).eraseView.copyA = some y ∨
        (releaseIdleHolds t).eraseView.copyB = some y → keepLaw y.checkpoint y.keep := by
  have hview : EraseView.sweep t.eraseView = s.eraseView.sweep := by rw [ht]
  cases hsweep : s.eraseView.sweep with
  | none =>
    have hnone : t.erase.sweep = none := hview.trans hsweep
    have hkept : releaseIdleHolds t = t := by simp [releaseIdleHolds, hnone]
    rw [hkept, ht]
    exact ⟨fun hs => (h.startUp hs).2, h.stored⟩
  | some x =>
    have hclearing : t.eraseView.Lawful .clearing none := by
      rw [ht]
      exact { h with wiping := fun hp => absurd rfl hp, settled := fun hs => by simp [hsweep] at hs }
    have hreleased := releaseIdleHolds_lawful hclearing
    exact ⟨fun hs => (hreleased.startUp hs).2, hreleased.stored⟩

theorem EraseView.Lawful.untracked {p : Phase} {v : EraseView} (h : v.Lawful p none) (table : List Entry) (b : Bool) :
    EraseView.Lawful p none { v with table := table, toSwap := b } :=
  { h with inside := by simp }

theorem wipeTable_lawful {s : State} (h : s.eraseView.Lawful .steady none) :
    (wipeTable s).eraseView.Lawful .steady none :=
  endApply_lawful (s := copyPending { s with
    regions.table := [], regions.epoch := s.regions.epoch + 1, cipher.slots := s.cipher.slots.map wipeSlot })
    (h.untracked [] _)

@[simp] theorem rebaseAdditions_eraseView (s : State) : (rebaseAdditions s).eraseView = s.eraseView := by
  have hstoring : (rebaseAdditions s).sweepStoring = s.sweepStoring := by
    unfold State.sweepStoring rebaseAdditions
    cases s.store.busy <;> rfl
  unfold State.eraseView
  rw [hstoring]
  rfl

@[simp] theorem cancelEnrollAtWipe_eraseView (s : State) : (cancelEnrollAtWipe s).eraseView = s.eraseView := by
  simp [State.eraseView, State.sweepStoring]

theorem startWipe_lawful {s : State} (h : s.eraseView.Lawful .steady none) :
    (startWipe s).eraseView.Lawful .steady none := by
  by_cases hf : s.ctl.drive = .fault ∨ s.ctl.drive = .wiping
  · rwa [startWipe_of_fault hf]
  · have hcleared (u : State) (hd : u.ctl.drive = .wiping)
        (hu : (u.eraseView.startUp = true → u.eraseView.storing = none) ∧ ∀ y, u.eraseView.storing = some y ∨
          u.eraseView.copyA = some y ∨ u.eraseView.copyB = some y → keepLaw y.checkpoint y.keep) :
        (endCollection (cancelEnrollAtWipe (clearRegionCounts (abortTest (wipeTable (clearErase
          (rebaseAdditions u))))))).eraseView.Lawful .steady none := by
      have hempty : (clearErase (rebaseAdditions u)).eraseView =
          { (rebaseAdditions u).eraseView with queue := [], stage := .idle, sweep := none } := rfl
      have hlaw : (clearErase (rebaseAdditions u)).eraseView.Lawful .steady none := by
        rw [hempty, rebaseAdditions_eraseView]
        exact EraseView.cleared_lawful hd hu.1 hu.2
      refine (wipeTable_lawful hlaw).of_eq ?_
      rw [endCollection_eraseView, cancelEnrollAtWipe_eraseView]
      exact abortTest_eraseView _
    unfold startWipe
    rw [if_neg hf]
    refine requestCommit_lawful (hcleared _ ?_ (releaseIdleHolds_stored h .wiping ?_)) _ _
    · simp
    · rw [setDrive_eraseView]
      rfl

/-- A wipe that starts leaves no context. -/
theorem startWipe_sweep {s : State} (h : ¬(s.ctl.drive = .fault ∨ s.ctl.drive = .wiping)) :
    (startWipe s).erase.sweep = none := by
  unfold startWipe
  rw [if_neg h]
  simp [clearErase]

/-! ### Commits (R103, R106, R194) -/

section Told

variable {T : Option (List Entry)} {s : State}

/-- c takes the checkpoint that the completed commit has captured. -/
theorem moveCheckpoint_lawful {p : Phase} (h : s.eraseView.Lawful p T) {y : StoredSweep}
    (hy : s.sweepStoring = some y) : (moveCheckpoint y s).eraseView.Lawful p T := by
  refine h.changes _ (fun x hx => ?_)
  have hlaw := h.sweep x hx
  by_cases hnamed : x.named y = true
  · obtain ⟨hpos, hgen⟩ : x.pos = y.pos ∧ x.gen = y.gen := by simpa [Sweep.named] using hnamed
    obtain ⟨hlo, hhi⟩ := hlaw.captured y hy hpos hgen
    obtain ⟨hsorted, hlength, -⟩ := hlaw.keep
    rw [if_pos hnamed]
    refine ⟨rfl, ⟨hhi, hlaw.chunk, hlaw.idle, ⟨keepSorted_filter hsorted _,
      (List.length_filter_le _ _).trans hlength, fun k hk => by simpa using (List.mem_filter.mp hk).2⟩, ?_⟩, ?_⟩
    · intro z hz _ _
      obtain rfl := Option.some.inj (hy.symm.trans hz)
      exact ⟨Nat.le_refl _, hhi⟩
    · rintro t ht ⟨e, he, hbase, hend, hranges⟩
      exact ⟨e, he, hbase.trans hlo, hend, fun k hk => hranges k (List.mem_filter.mp hk).1⟩
  · rw [if_neg hnamed]
    exact ⟨rfl, hlaw, fun _ _ => id⟩

theorem sweepStored_lawful (h : s.eraseView.Lawful .telling T) {r : SweepRecord} (hr : s.sweepStoring = r.sweep)
    (noted : BitVec 32) : (sweepStored r noted s).eraseView.Lawful .telling T := by
  unfold sweepStored
  split
  · next y hy =>
    rw [endWaits_eraseView]
    exact moveCheckpoint_lawful h (hr.trans hy)
  · next hnone =>
    have hwaits := h.of_eq (endWaits_eraseView (waitEnds none noted) s)
    dsimp only
    split
    · next x hx =>
      split
      · refine headLeaves_lawful (s := { endWaits (waitEnds none noted) s with erase.lastResult := x.outcome }) hwaits
          (by simp) ?_
        exact (congrArg EraseView.storing (endWaits_eraseView (waitEnds none noted) s)).trans (hr.trans hnone)
      · exact hwaits
    · exact hwaits

theorem applyStored_lawful {p : Phase} (h : s.eraseView.Lawful p T) : (applyStored s).eraseView.Lawful p T := by
  unfold applyStored
  split
  · exact endApply_lawful h
  · exact h

theorem eraseMapStored_lawful (h : s.eraseView.Lawful .telling T) : (eraseMapStored s).eraseView.Lawful .telling T := by
  unfold eraseMapStored
  split
  · exact h
  · next j rest hq =>
    split
    · next hstage =>
      have hsweep : s.eraseView.sweep = none := h.early (.inr (.inr hstage))
      have hstoring : s.sweepStoring = none := by
        by_contra hne
        exact absurd (hq.symm.trans (h.settled hne hsweep)) (by simp)
      split
      · next he => exact setUpSweep_lawful h hq he hstoring
      · exact headLeaves_lawful h (by simp) hstoring
    · exact h

theorem eraseSweepStored_lawful {p : Phase} (h : s.eraseView.Lawful p T) :
    (eraseSweepStored s).eraseView.Lawful p T := by
  unfold eraseSweepStored
  split
  · next hstage =>
    have hsweeping : EraseView.Lawful p T { s.eraseView with stage := .sweeping } :=
      { h with
        early := by simp
        empty := fun hq => absurd ((h.empty hq).1.symm.trans hstage) (by simp) }
    exact sweepDecide_lawful (s := { s with erase.stage := .sweeping }) hsweeping
  · exact h

theorem finishEnroll_lawful_sweep (h : s.eraseView.Lawful .telling T) (e : Enroll) :
    (finishEnroll e s).eraseView.Lawful .telling T := by
  unfold finishEnroll
  split
  · exact setDrive_lawful (s := { s with cred.enroll := none, cred.lastEnroll := .ok }) h (by simp) (.inl rfl)
  · exact h
  · exact openDrive_lawful (s := { s with cred.enroll := none, cred.lastEnroll := .ok }) h _ _
  · exact setDrive_lawful (s := { s with cred.enroll := none, cred.lastEnroll := .ok }) h (by simp) (.inl rfl)

theorem enrollStored_lawful_sweep (h : s.eraseView.Lawful .telling T) (b : Bool) :
    (enrollStored b s).eraseView.Lawful .telling T := by
  have hnoted (f : Enroll) : (if f.profileDone ∧ f.mapDone then finishEnroll f s
      else { s with cred.enroll := some f }).eraseView.Lawful .telling T := by
    split
    · exact finishEnroll_lawful_sweep h f
    · exact h
  unfold enrollStored
  split
  · exact h
  · split
    · exact h
    · exact hnoted _

theorem wipeRequest_lawful {p : Phase} (h : s.eraseView.Lawful p T) (k : Nat) :
    (wipeRequest k s).eraseView.Lawful p T := by
  unfold wipeRequest
  dsimp only
  split
  · exact requestCommit_lawful (s := { s with ctl.wipeStep := some _ }) h _ _
  · exact requestCommit_lawful (s := { s with ctl.wipeStep := some _, cred.n := 0 }) h _ _
  · exact requestCommit_lawful (s := { s with ctl.wipeStep := some _, ctl.wipeFlag := false }) h _ _
  · exact requestCommit_lawful (s := { s with ctl.wipeStep := some k }) h _ _

theorem wipeStepDone_lawful_sweep (h : s.eraseView.Lawful .telling T) (k : Nat) :
    (wipeStepDone k s).eraseView.Lawful .telling T := by
  unfold wipeStepDone
  split
  · exact h
  · split
    · exact wipeRequest_lawful (s := { s with
        cred.profiles := Vector.replicate 8 none
        cred.removal := Vector.replicate 8 false
        cred.lastEnroll := .none }) h _
    · exact wipeRequest_lawful (h.of_eq (endWaits_eraseView _ s)) _
    · exact setDrive_lawful (s := { s with ctl.wipeStep := none }) h (by simp) (.inl rfl)
    · exact wipeRequest_lawful h _

theorem tellWaiter_lawful_sweep (h : s.eraseView.Lawful .telling T) (w : Waiter) :
    (tellWaiter w s).eraseView.Lawful .telling T := by
  unfold tellWaiter
  split
  · exact applyStored_lawful h
  · exact eraseMapStored_lawful h
  · exact eraseSweepStored_lawful h
  · unfold countStored
    split
    · split <;> exact h
    · exact h
  · unfold resetStored
    split
    · split
      · exact openDrive_lawful (s := { s with cred.eval := none }) h _ _
      · exact h
    · exact h
  · exact enrollStored_lawful_sweep h _
  · exact enrollStored_lawful_sweep h _
  · unfold removalStored
    split
    · exact clearRemoved_lawful (s := { s with cred.removal := s.cred.removal.set _ false }) h _
    · exact h
  · exact wipeStepDone_lawful_sweep h _

theorem tellRequesters_lawful_sweep (h : s.eraseView.Lawful .telling T) {c : Commit} (hc : s.store.busy = some c) :
    (tellRequesters c s).eraseView.Lawful .telling T := by
  have hfold {t : State} (ht : t.eraseView.Lawful .telling T) :
      (c.waiters.foldl (fun s w => tellWaiter w s) t).eraseView.Lawful .telling T :=
    List.foldlRecOn (motive := fun t : State => t.eraseView.Lawful .telling T) _ _ ht
      (fun _ ht w _ => tellWaiter_lawful_sweep ht w)
  unfold tellRequesters
  dsimp only
  split
  · next r hr => exact hfold (sweepStored_lawful h (by simp [State.sweepStoring, hc, hr]) _)
  · exact hfold h

/-- The commit in progress is answered, and gives way. -/
theorem EraseView.Lawful.answered {p : Phase} {v : EraseView} (h : v.Lawful p T) (hp : p ≠ .clearing) :
    EraseView.Lawful .steady T { v with storing := none } :=
  { h with
    wiping := fun _ => h.wiping hp
    startUp := fun hs => ⟨(h.startUp hs).1, rfl⟩
    settled := fun hne => absurd rfl hne
    sweep := fun x hx => { h.sweep x hx with captured := by simp }
    stored := fun y hy => h.stored y (.inr (hy.resolve_left (by simp))) }

theorem EraseView.Lawful.tells {v : EraseView} (h : v.Lawful .steady T) (hd : v.drive ≠ .fault) :
    v.Lawful .telling T :=
  { h with
    wiping := fun _ => h.wiping (by simp)
    settled := fun hne hs => h.wiping (by simp) ((h.settled hne hs).resolve_right hd) }

/-- A verified SWEEP commit is one of the record's copies. -/
theorem write_lawful {p : Phase} (h : s.eraseView.Lawful p T) {c : Commit} (hc : s.store.busy = some c) :
    ({ s with store := s.store.write c.content } : State).eraseView.Lawful p T := by
  have hcopies : ∃ a b, ({ s with store := s.store.write c.content } : State).eraseView =
        { s.eraseView with copyA := a, copyB := b } ∧
      (a = s.eraseView.copyA ∨ a = s.eraseView.storing) ∧ (b = s.eraseView.copyB ∨ b = s.eraseView.storing) := by
    cases hcontent : c.content with
    | sweep r =>
      have hstoring : s.eraseView.storing = r.sweep := by simp [State.eraseView, State.sweepStoring, hc, hcontent]
      by_cases hfirst : s.store.sweep.firstCurrent sweepLaw = true
      · refine ⟨s.eraseView.copyA, r.sweep, ?_, .inl rfl, .inr hstoring.symm⟩
        simp [State.eraseView, State.sweepStoring, Store.write, Copies.commit, hfirst]
      · refine ⟨r.sweep, s.eraseView.copyB, ?_, .inr hstoring.symm, .inl rfl⟩
        simp [State.eraseView, State.sweepStoring, Store.write, Copies.commit, hfirst]
    | _ => exact ⟨_, _, rfl, .inl rfl, .inl rfl⟩
  obtain ⟨a, b, hview, ha, hb⟩ := hcopies
  rw [hview]
  refine { h with stored := fun y hy => ?_ }
  rcases hy with hy | hy | hy
  · exact h.stored y (.inl hy)
  · rcases ha with rfl | rfl
    · exact h.stored y (.inr (.inl hy))
    · exact h.stored y (.inl hy)
  · rcases hb with rfl | rfl
    · exact h.stored y (.inr (.inr hy))
    · exact h.stored y (.inl hy)

theorem commitVerified_lawful_sweep (h : s.eraseView.Lawful .steady T) {c : Commit} (hc : s.store.busy = some c) :
    (commitVerified c s).eraseView.Lawful .steady T := by
  have hwritten := write_lawful h hc
  unfold commitVerified
  dsimp only
  split
  · exact hwritten.answered (by simp)
  · next hd =>
    have hbusy : ({ s with store := s.store.write c.content } : State).store.busy = some c := by
      cases hcontent : c.content <;> simpa [Store.write] using hc
    exact startNext_lawful
      (s := { tellRequesters c { s with store := s.store.write c.content } with store.busy := none })
      ((tellRequesters_lawful_sweep (hwritten.tells hd) hbusy).answered (by simp))

theorem commitFailed_lawful_sweep (h : s.eraseView.Lawful .steady T) (c : Commit) :
    (commitFailed c s).eraseView.Lawful .steady T := by
  have hcopies : ({ s with store := { s.store.spoil c.content with busy := none } } : State).eraseView =
      { s.eraseView with storing := none } := by
    cases hcontent : c.content with
    | sweep r =>
      by_cases hfirst : s.store.sweep.firstCurrent sweepLaw = true <;>
        simp [State.eraseView, State.sweepStoring, Store.spoil, Copies.spoil, hfirst]
    | _ => rfl
  exact enterFault_lawful_sweep (s := { s with store := { s.store.spoil c.content with busy := none } })
    (hcopies ▸ h.answered (by simp)) _

end Told

end Sys2Proof.Machine
end

section
/-! SUPPORT. Admission keeps the laws of the sweep: the range that a WRITE records lies in the sweeping region, above
the checkpoint, and the keep list takes it (R46, R49, R102). -/

namespace Sys2Proof.Machine

open Sys2Proof

/-! ### The recorded range (R46, R49) -/

/-- A segment of the split lies in the entry of its position. -/
theorem segment_of_splitTable {q : Pos} {e : Entry} {r : Range} (es : List Entry) {a b n : Nat}
    (h : Part.segment q e r ∈ splitTable a b n es) :
    ∃ i, es[i]? = some e ∧ q = Fin.ofNat 16 (n + i) ∧ e.base ≤ r.lo ∧ r.hi ≤ e.stop := by
  induction es generalizing a n with
  | nil =>
    obtain ⟨-, hpart⟩ := mem_partIf.mp h
    cases hpart
  | cons f es ih =>
    rw [splitTable, List.mem_append, List.mem_append, mem_partIf, mem_partIf] at h
    rcases h with (⟨-, hpart⟩ | ⟨-, hpart⟩) | h
    · cases hpart
    · cases hpart
      exact ⟨0, rfl, rfl, Nat.le_max_right _ _, Nat.min_le_right _ _⟩
    · obtain ⟨i, hi, hq, hin⟩ := ih h
      exact ⟨i + 1, hi, by rw [hq]; congr 1; omega, hin⟩

theorem segment_of_splitRequest {q : Pos} {e : Entry} {r req : Range} {u : Nat} {table : List Entry}
    (hlength : table.length ≤ 16) (h : Part.segment q e r ∈ splitRequest u table req) :
    table[q.val]? = some e ∧ e.base ≤ r.lo ∧ r.hi ≤ e.base + e.length := by
  rw [splitRequest, List.mem_append, mem_partIf] at h
  obtain ⟨i, hi, rfl, hin⟩ := segment_of_splitTable table (h.resolve_right (by simp))
  have hlt : i < table.length := (List.getElem?_eq_some_iff.mp hi).1
  refine ⟨?_, hin⟩
  rwa [Nat.zero_add, Fin.val_ofNat, Nat.mod_eq_of_lt (by omega)]

/-- What a cut may record of a segment of the sweeping region: a range above c that the keep list can take. -/
def Sweep.records (x : Sweep) (r recorded : Range) : Prop :=
  recorded = ⟨max r.lo x.c, r.hi⟩ ∧ recorded.lo < recorded.hi ∧ (keepMerge recorded x.keep).length ≤ 16

theorem cutWrite_records {s : State} {q : Pos} {e : Entry} {x : Sweep} {r recorded : Range} {y : Pieces}
    (h : cutWrite s q e x r = some y) (hy : y.recorded = some recorded) : x.records r recorded := by
  unfold cutWrite at h
  dsimp only at h
  split at h
  · obtain rfl := Option.some.inj h
    cases hy
  · next hne =>
    split at h
    · cases h
    · next hfull =>
      obtain rfl := Option.some.inj h
      obtain rfl := Option.some.inj hy
      exact ⟨rfl, Nat.lt_of_not_le hne, Nat.le_of_not_lt hfull⟩

theorem cutSegment_records {s : State} {k : Kind} {q : Pos} {e : Entry} {r recorded : Range} {y : Pieces}
    (h : cutSegment s k q e r = .ok y) (hy : y.recorded = some recorded) :
    s.eraseState q = .sweeping ∧ ∃ x, s.erase.sweep = some x ∧ x.records r recorded := by
  unfold cutSegment at h
  split at h
  · cases h
  · split at h
    · obtain rfl := Except.ok.inj h
      unfold cutRead at hy
      dsimp only at hy
      split at hy
      · cases hy
      · split at hy <;> cases hy
    · next x hx _ =>
      obtain ⟨hsweeping, hx⟩ := Option.ite_none_right_eq_some.mp hx
      split at h
      · next z hz =>
        obtain rfl := Except.ok.inj h
        exact ⟨hsweeping, x, hx, cutWrite_records hz hy⟩
      · cases h
    · obtain rfl := Except.ok.inj h
      cases hy
    · obtain rfl := Except.ok.inj h
      cases hy

theorem mem_passedPieces {y : Pieces} {l : List (Except FrontStatus Pieces)} (h : y ∈ passedPieces l) : .ok y ∈ l := by
  induction l with
  | nil => cases h
  | cons z l ih =>
    cases z with
    | error st => exact List.mem_cons_of_mem _ (ih h)
    | ok z =>
      rcases List.mem_cons.mp h with rfl | h
      · exact List.mem_cons_self
      · exact List.mem_cons_of_mem _ (ih h)

/-- A range that a request may record, in the sweeping region. -/
def State.recordable (s : State) (recorded : Range) : Prop :=
  ∃ q x r, s.eraseState q = .sweeping ∧ s.erase.sweep = some x ∧ x.records r recorded ∧
    (s.regions.table.length ≤ 16 →
      ∃ e, s.regions.table[q.val]? = some e ∧ e.base ≤ r.lo ∧ r.hi ≤ e.base + e.length)

theorem cutRequest_recordable {s : State} {k : Kind} {req recorded : Range}
    (h : (passedPieces (cutRequest s k req)).findSome? Pieces.recorded = some recorded) : s.recordable recorded := by
  obtain ⟨y, hy, hrecorded⟩ := List.exists_of_findSome?_eq_some h
  obtain ⟨part, hpart, hcut⟩ := List.mem_map.mp (mem_passedPieces hy)
  cases part with
  | beyond => cases hcut
  | gap => cases hcut
  | segment q e r =>
    obtain ⟨hsweeping, x, hx, hr⟩ := cutSegment_records hcut hrecorded
    exact ⟨q, x, r, hsweeping, hx, hr, fun hlength => ⟨e, segment_of_splitRequest hlength hpart⟩⟩

/-! ### The keep list takes it (R101, R102) -/

theorem keepMerge_law {c : Nat} {r : Range} {keep : List Range} (h : keepLaw c keep) (hr : r.lo < r.hi) (hc : c ≤ r.lo)
    (hlength : (keepMerge r keep).length ≤ 16) : keepLaw c (keepMerge r keep) := by
  obtain ⟨hsorted, -, habove⟩ := h
  refine ⟨keepSorted_keepMerge hr hsorted, hlength, fun k hk => ?_⟩
  rcases mem_keepMerge.mp hk with rfl | ⟨hk, -⟩
  · exact lt_merged_hi.mpr (.inl (hc.trans_lt hr))
  · exact habove k hk

/-- The merged list stays in the region that its ranges and the recorded one lie in. -/
theorem keepMerge_within {lo hi : Nat} {r : Range} {keep : List Range} (hlo : lo ≤ r.lo) (hhi : r.hi ≤ hi)
    (h : ∀ k ∈ keep, lo ≤ k.lo ∧ k.hi ≤ hi) : ∀ k ∈ keepMerge r keep, lo ≤ k.lo ∧ k.hi ≤ hi := by
  intro k hk
  rcases mem_keepMerge.mp hk with rfl | ⟨hk, -⟩
  · constructor
    · rcases merged_lo_le.mp (Nat.le_refl (merged r keep).lo) with hle | ⟨j, hj, -, hle⟩
      · exact hlo.trans hle
      · exact (h j hj).1.trans hle
    · by_contra hlt
      rcases lt_merged_hi.mp (Nat.lt_of_not_le hlt) with hlt | ⟨j, hj, -, hlt⟩
      · exact Nat.not_le.mpr hlt hhi
      · exact Nat.not_le.mpr hlt (h j hj).2
  · exact h k hk

section Admission

variable {p : Phase} {T : Option (List Entry)} {s : State}

theorem addKeep_lawful (h : s.eraseView.Lawful p T) {recorded : Range} (hr : s.recordable recorded)
    (hlength : ∀ t ∈ T, s.regions.table.length ≤ 16) : (addKeep recorded s).eraseView.Lawful p T := by
  obtain ⟨q, x, r, hsweeping, hx, ⟨hrecorded, hne, hfits⟩, hin⟩ := hr
  have hlow : x.c ≤ recorded.lo ∧ r.lo ≤ recorded.lo ∧ recorded.hi = r.hi := by
    rw [hrecorded]
    exact ⟨Nat.le_max_right _ _, Nat.le_max_left _ _, rfl⟩
  obtain ⟨habove, hfrom, hto⟩ := hlow
  have hpos : x.pos = q := by
    obtain ⟨j, rest, hq, hxj⟩ := h.head x hx
    have hqueue : s.erase.queue = j :: rest := hq
    by_contra hother
    rw [hxj] at hother
    simp [State.eraseState, hqueue, hother] at hsweeping
  have hlaw := h.sweep x hx
  refine sweepDecide_lawful (requestCommit_lawful (s := { s with
    erase.sweep := s.erase.sweep.map (fun x => { x with keep := keepMerge recorded x.keep })
    erase.additions := s.erase.additions + 1 }) ?_ _ _)
  refine h.changes _ (fun y hy => ?_)
  obtain rfl := Option.some.inj (hx.symm.trans hy)
  refine ⟨rfl, { hlaw with keep := keepMerge_law hlaw.keep hne habove hfits }, fun t ht hwithin => ?_⟩
  obtain ⟨e, he, hbase, hend, hranges⟩ := hwithin
  obtain ⟨f, hf, hlo, hhi⟩ := hin (hlength t ht)
  obtain rfl := Option.some.inj (he.symm.trans (hpos ▸ hf))
  exact ⟨e, he, hbase, hend, keepMerge_within (hlo.trans hfrom) (hto.trans_le hhi) hranges⟩

theorem State.recordable.of_eq {t : State} {r : Range} (h : s.recordable r) (he : t.erase = s.erase)
    (hr : t.regions = s.regions) : t.recordable r := by
  unfold State.recordable State.eraseState at h ⊢
  rwa [he, hr]

/-- The counts rise without a change of what the laws speak of. -/
theorem raised_lawful (h : s.eraseView.Lawful p T) (l : List Frag) {u : State} (herase : u.erase = s.erase)
    (hregions : u.regions = s.regions) (hview : u.eraseView = s.eraseView) :
    (l.foldl (fun s g => raiseCounts g s) u).eraseView.Lawful p T ∧
      (l.foldl (fun s g => raiseCounts g s) u).erase = s.erase ∧
      (l.foldl (fun s g => raiseCounts g s) u).regions = s.regions :=
  List.foldlRecOn (motive := fun t : State => t.eraseView.Lawful p T ∧ t.erase = s.erase ∧ t.regions = s.regions)
    l _ ⟨h.of_eq hview, herase, hregions⟩ (fun _ ht _ _ => ht)

theorem recorded_lawful (h : s.eraseView.Lawful p T) {r : Range} (hr : s.recordable r)
    (hlength : ∀ t ∈ T, s.regions.table.length ≤ 16) (l : List Frag) {u : State} (herase : u.erase = s.erase)
    (hregions : u.regions = s.regions) (hview : u.eraseView = s.eraseView) :
    (addKeep r (l.foldl (fun s g => raiseCounts g s) u)).eraseView.Lawful p T := by
  obtain ⟨hlaw, he, hreg⟩ := raised_lawful h l herase hregions hview
  exact addKeep_lawful hlaw (hr.of_eq he hreg) (fun t ht => hreg ▸ hlength t ht)

theorem foldl_joinIssue_lawful (h : s.eraseView.Lawful p T) (l : List Frag) :
    (l.foldl (fun s g => joinIssue g.id s) s).eraseView.Lawful p T :=
  List.foldlRecOn (motive := fun t : State => t.eraseView.Lawful p T) l _ h (fun _ ht _ _ => joinIssue_eraseLawful ht _)

theorem admitWith_lawful (h : s.eraseView.Lawful p T) (t : Txn) (frags : List Frag) {recorded : Option Range}
    (hr : ∀ r, recorded = some r → s.recordable r) (hlength : ∀ t ∈ T, s.regions.table.length ≤ 16) :
    (admitWith t frags recorded s).eraseView.Lawful p T := by
  unfold admitWith
  dsimp only
  rw [completeTxn_eraseView]
  cases recorded with
  | none =>
    dsimp only
    split
    · refine (raised_lawful h _ ?_ ?_ ?_).1 <;> rfl
    · refine foldl_joinIssue_lawful (raised_lawful h _ ?_ ?_ ?_).1 _ <;> rfl
  | some r =>
    split
    · exact recorded_lawful h (hr r rfl) hlength _ rfl rfl rfl
    · refine foldl_joinIssue_lawful ?_ _
      exact recorded_lawful h (hr r rfl) hlength _ rfl rfl rfl

theorem admitTxn_lawful (h : s.eraseView.Lawful p T) (t : Txn) (hlength : ∀ t ∈ T, s.regions.table.length ≤ 16) :
    (admitTxn t s).eraseView.Lawful p T := by
  unfold admitTxn
  split
  · split <;> exact h
  · split
    · exact h
    · exact admitWith_lawful h t _ (by simp) hlength
  · split
    · exact h
    · dsimp only
      split
      · exact h
      · exact admitWith_lawful h t _ (fun _ hr => cutRequest_recordable hr) hlength

theorem pullSector_lawful (h : s.eraseView.Lawful p T) (t : Txn) (x : Sector) :
    (pullSector t x s).eraseView.Lawful p T := by
  unfold pullSector
  split
  · exact h
  · exact joinIfPulled_eraseLawful (s := setFrag _ (storeSector x)
      (setTxn t.id (fun t => { t with pulled := t.pulled + 1 }) s)) h _

end Admission

end Sys2Proof.Machine
end

section
/-! SUPPORT. Requests, comparisons, the links, start-up and every command keep the laws of the sweep. -/

namespace Sys2Proof.Machine

open Sys2Proof

/-! ### What a step is to keep -/

/-- The context lies in its region of the table in force. -/
def EraseView.inside (v : EraseView) : Prop := ∀ x, v.sweep = some x → x.within v.table

/-- The laws hold, and the context stays in its region where the table stays and start-up does not run (R107). -/
def EraseView.keeps (v w : EraseView) : Prop :=
  w.Lawful .steady none ∧
    (v.inside → v.table.length ≤ 16 → v.startUp = false → w.table = v.table → w.inside)

section Keeps

variable {s t : State}

/-- What `T` may be in a step from `s`. -/
def State.tracks (s : State) (T : Option (List Entry)) : Prop :=
  ∀ x ∈ T, s.regions.table = x ∧ x.length ≤ 16 ∧ s.eraseView.startUp = false

theorem keeps_of_lawful (h : s.eraseView.Lawful .steady none)
    (hop : ∀ T, s.tracks T → s.eraseView.Lawful .steady T → t.eraseView.Lawful .steady T) :
    s.eraseView.keeps t.eraseView := by
  refine ⟨hop none (by simp [State.tracks]) h, fun hinside hlength hstart htable x hx => ?_⟩
  have hlaw : s.eraseView.Lawful .steady (some s.eraseView.table) := by
    refine { h with inside := ?_ }
    rintro _ ⟨rfl⟩
    exact ⟨fun _ => hinside, fun hne => absurd rfl hne⟩
  have htracks : s.tracks (some s.eraseView.table) := by
    rintro _ ⟨rfl⟩
    exact ⟨rfl, hlength, hstart⟩
  exact htable.symm ▸ ((hop _ htracks hlaw).inside _ rfl).1 htable x hx

/-- A context that stays as it is stays in its region, where the table stays. -/
theorem keeps_of_same (h : t.eraseView.Lawful .steady none) (hs : t.erase.sweep = s.erase.sweep) :
    s.eraseView.keeps t.eraseView := by
  refine ⟨h, fun hinside _ _ htable x hx => ?_⟩
  rw [htable]
  exact hinside x (hs.symm.trans hx)

theorem keeps_of_none (h : t.eraseView.Lawful .steady none) (hs : t.erase.sweep = none) :
    s.eraseView.keeps t.eraseView :=
  ⟨h, fun _ _ _ _ x hx => absurd (hs.symm.trans hx) (by simp)⟩

theorem keeps_refl (h : s.eraseView.Lawful .steady none) : s.eraseView.keeps s.eraseView :=
  keeps_of_same h rfl

theorem startWipe_keeps (h : s.eraseView.Lawful .steady none) : s.eraseView.keeps (startWipe s).eraseView := by
  by_cases hf : s.ctl.drive = .fault ∨ s.ctl.drive = .wiping
  · rw [startWipe_of_fault hf]
    exact keeps_refl h
  · exact keeps_of_none (startWipe_lawful h) (startWipe_sweep hf)

end Keeps

/-! ### Requests (chapter 9) -/

section Requests

variable {T : Option (List Entry)} {s : State}

theorem takeLock_lawful (h : s.eraseView.Lawful .steady T) : (takeLock s).2.2.eraseView.Lawful .steady T := by
  unfold takeLock
  split
  · exact h
  · next hd =>
    exact (setDrive_lawful (s := endCollection s) h (by simp) (.inr (by simp [hd]))).of_eq (standbyCheck_eraseView _)
  · exact (lockTrigger_lawful h).of_eq (standbyCheck_eraseView _)

/-- A snapshot to swap is taken of the table that the event is to end with. -/
theorem takeApplyTable_lawful (h : s.eraseView.Lawful .steady T) (hT : s.tracks T) :
    (takeApplyTable s).2.2.eraseView.Lawful .steady T := by
  have htaken : EraseView.Lawful .steady T { s.eraseView with toSwap := true } :=
    { h with inside := fun t ht => ⟨(h.inside t ht).1, fun hne => absurd (hT t ht).1 hne⟩ }
  unfold takeApplyTable
  split
  · exact h
  · split
    · exact h
    · split
      · exact h
      · split
        · exact h
        · split
          · exact h
          · split
            · exact h
            · exact drainCheck_lawful (s := { s with
                regions.snapshot := some (takeSnapshot s), regions.apply := .draining
                filter.quiesce := .apply }) htaken

/-- While admin is open, no wipe and no start-up run stands. -/
def State.adminActs (s : State) : Prop :=
  s.adminOpen = true → (s.ctl.drive = .opened ∨ s.ctl.drive = .enrolling) ∧ s.eraseView.startUp = false

theorem State.modeInv.adminActs (h : s.modeInv) : s.adminActs := by
  obtain ⟨hopened, -, -, hrun, -⟩ := h
  intro ha
  have hp : s.ctl.openProfile = some 0 := by simpa [State.adminOpen] using ha
  have hdrive := hopened (by simp [hp])
  refine ⟨hdrive, ?_⟩
  by_contra hstart
  obtain ⟨left, hleft⟩ := (startUpRun_iff s).mp (by simpa using hstart)
  rcases hrun left hleft with hd | hd <;> simp [hd] at hdrive

/-- A job joins the tail of the queue. -/
theorem acceptErase_lawful (h : s.eraseView.Lawful .steady T) (hd : s.ctl.drive = .opened ∨ s.ctl.drive = .enrolling)
    (hstart : s.eraseView.startUp = false) (q : Pos) (e : Entry) (m : EraseMode) :
    (acceptErase q e m s).2.2.eraseView.Lawful .steady T := by
  have hwiping : s.eraseView.drive ≠ .wiping := by
    rcases hd with hd | hd <;> simp [State.eraseView, hd]
  have hjoined : EraseView.Lawful .steady T { s.eraseView with queue := s.erase.queue ++ [⟨q, m⟩] } := by
    refine { h with
      empty := by simp
      wiping := fun _ hw => absurd hw hwiping
      startUp := fun hs => absurd (hstart.symm.trans hs) (by simp)
      head := fun x hx => ?_ }
    obtain ⟨j, rest, hq, hpos⟩ := h.head x hx
    have hq : s.erase.queue = j :: rest := hq
    exact ⟨j, rest ++ [⟨q, m⟩], by rw [hq]; rfl, hpos⟩
  have hasked := requestCommit_lawful (s := { s with erase.queue := s.erase.queue ++ [⟨q, m⟩] }) hjoined .sweep []
  unfold acceptErase
  split_ifs with _ _ _ _ hempty
  · exact h
  · exact h
  · exact h
  · exact h
  · refine startHead_lawful hasked ?_
    have hsweep := (h.empty (List.isEmpty_iff.mp hempty)).2
    simpa [State.eraseView] using hsweep
  · exact hasked

theorem takeEraseRegion_lawful (h : s.eraseView.Lawful .steady T) (ha : s.adminActs) (position mode : Byte) :
    (takeEraseRegion position mode s).2.2.eraseView.Lawful .steady T := by
  unfold takeEraseRegion
  split
  · exact h
  · next hadmin =>
    obtain ⟨hd, hstart⟩ := ha (by simpa using hadmin)
    split
    · split
      · split
        · exact h
        · exact acceptErase_lawful h hd hstart _ _ _
      · exact h
    · exact h

theorem takeCancelSweep_lawful (h : s.eraseView.Lawful .steady T) :
    (takeCancelSweep s).2.2.eraseView.Lawful .steady T := by
  unfold takeCancelSweep
  split
  · exact h
  · split
    · exact h
    · split
      · exact h
      · split
        · exact setSweep_lawful_of_same (f := fun x => { x with phase := .cancelling }) h
            (fun _ => ⟨rfl, rfl, rfl, rfl⟩) (fun _ => ⟨rfl, rfl, id⟩)
        · exact cancelNow_lawful h

theorem takeEnroll_lawful (h : s.eraseView.Lawful .steady T) (ha : s.adminActs) (slot kind : Byte) :
    (takeEnroll slot kind s).2.2.eraseView.Lawful .steady T := by
  unfold takeEnroll
  split
  · exact h
  · next hadmin =>
    have hd : s.ctl.drive ≠ .wiping ∧ s.ctl.drive ≠ .fault := by
      rcases (ha (by simpa using hadmin)).1 with hd | hd <;> simp [hd]
    split
    · exact h
    · split
      · split_ifs
        · exact h
        · exact h
        · exact h
        · exact startEnroll_lawful h hd _ _ _ _
      · exact h

theorem takeRemoveProfile_lawful (h : s.eraseView.Lawful .steady T) (slot : Byte) :
    (takeRemoveProfile slot s).2.2.eraseView.Lawful .steady T := by
  unfold takeRemoveProfile
  split_ifs
  · exact h
  · exact h
  · split
    · exact h
    · split_ifs
      · exact h
      · exact h
      · exact requestCommit_lawful (s := { s with
          cred.profiles := s.cred.profiles.set _ none, cred.removal := s.cred.removal.set _ true }) h _ _

theorem takeSelfTestCipher_lawful (h : s.eraseView.Lawful .steady T) {k : RunKind} (hk : k ≠ .startUp) :
    (takeSelfTestCipher k s).2.2.eraseView.Lawful .steady T := by
  unfold takeSelfTestCipher
  split_ifs with hd hrun
  · exact h
  · exact h
  · refine h.of_eq ?_
    have hnone : s.cipher.run = none := by simpa using hrun
    simp [answer, State.eraseView, State.sweepStoring, hnone, beq_false_of_ne hk]

theorem takeSelfTestMedia_lawful (h : s.eraseView.Lawful .steady T) (passes : Byte) :
    (takeSelfTestMedia passes s).2.2.eraseView.Lawful .steady T := by
  unfold takeSelfTestMedia
  split_ifs
  · exact h
  · exact h
  · exact h
  · exact h
  · exact drainCheck_lawful (s := { s with
      cipher.test := ⟨.draining, passes.toNat, 0, 0, 0, none, s.cipher.test.run⟩, filter.quiesce := .test }) h

end Requests

/-- A taking that keeps the laws while admin stands for an open drive. -/
def KeepsSweep (take : State → Taken) : Prop :=
  ∀ s : State, s.adminActs → s.eraseView.Lawful .steady none → s.eraseView.keeps (take s).2.2.eraseView

theorem faultGate_keepsSweep {take : State → Taken} (h : KeepsSweep take) : KeepsSweep (faultGate take) := by
  intro s ha hs
  unfold faultGate
  split
  · exact keeps_refl hs
  · exact h s ha hs

theorem keepsSweep_of_lawful {take : State → Taken} (h : ∀ {T : Option (List Entry)} {s : State}, s.adminActs →
    s.tracks T → s.eraseView.Lawful .steady T → (take s).2.2.eraseView.Lawful .steady T) : KeepsSweep take :=
  fun _ ha hs => keeps_of_lawful hs (fun _ hT hlaw => h ha hT hlaw)

theorem keepsSweep_of_same {take : State → Taken} (h : ∀ s : State, (take s).2.2.eraseView = s.eraseView) :
    KeepsSweep take :=
  fun s _ hs => (h s).symm ▸ keeps_refl hs

theorem takeSetOptions_keepsSweep (o : RawOptions) : KeepsSweep (takeSetOptions o) := by
  refine keepsSweep_of_lawful (fun {T s} _ _ h => ?_)
  unfold takeSetOptions
  split
  · exact h
  · exact requestCommit_lawful (s := { s with window.staged := o }) h _ _

theorem takeWipeAll_keepsSweep : KeepsSweep takeWipeAll := by
  intro s _ h
  unfold takeWipeAll
  split
  · exact startWipe_keeps h
  · exact keeps_refl h

theorem takeStageRegion_eraseView (position present cls writable slot : Byte) (base length : BitVec 32) (s : State) :
    (takeStageRegion position present cls writable slot base length s).2.2.eraseView = s.eraseView := by
  unfold takeStageRegion
  (repeat' split) <;> rfl

theorem takeSetSlotMask_eraseView (slot mask : Byte) (s : State) :
    (takeSetSlotMask slot mask s).2.2.eraseView = s.eraseView := by
  unfold takeSetSlotMask
  (repeat' split) <;> rfl

theorem takeClearPending_eraseView (s : State) : (takeClearPending s).2.2.eraseView = s.eraseView := by
  unfold takeClearPending
  split <;> rfl

theorem takeReadTable_eraseView (s : State) : (takeReadTable s).2.2.eraseView = s.eraseView := by
  unfold takeReadTable
  split <;> rfl

theorem takingOf_keepsSweep (c : Instr) : KeepsSweep (takingOf c) := by
  cases c with
  | lock => exact faultGate_keepsSweep (keepsSweep_of_lawful (fun _ _ h => takeLock_lawful h))
  | readTable => exact faultGate_keepsSweep (keepsSweep_of_same takeReadTable_eraseView)
  | stageRegion => exact faultGate_keepsSweep (keepsSweep_of_same (takeStageRegion_eraseView _ _ _ _ _ _ _))
  | setSlotMask => exact faultGate_keepsSweep (keepsSweep_of_same (takeSetSlotMask_eraseView _ _))
  | clearPending => exact faultGate_keepsSweep (keepsSweep_of_same takeClearPending_eraseView)
  | applyTable => exact faultGate_keepsSweep (keepsSweep_of_lawful (fun _ hT h => takeApplyTable_lawful h hT))
  | eraseRegion => exact faultGate_keepsSweep (keepsSweep_of_lawful (fun ha _ h => takeEraseRegion_lawful h ha _ _))
  | cancelSweep => exact faultGate_keepsSweep (keepsSweep_of_lawful (fun _ _ h => takeCancelSweep_lawful h))
  | enroll => exact faultGate_keepsSweep (keepsSweep_of_lawful (fun ha _ h => takeEnroll_lawful h ha _ _))
  | removeProfile => exact faultGate_keepsSweep (keepsSweep_of_lawful (fun _ _ h => takeRemoveProfile_lawful h _))
  | setOptions => exact faultGate_keepsSweep (takeSetOptions_keepsSweep _)
  | selfTestCipher | selfTestCipherInject =>
    exact faultGate_keepsSweep (keepsSweep_of_lawful (fun _ _ h => takeSelfTestCipher_lawful h (by simp)))
  | selfTestMedia => exact faultGate_keepsSweep (keepsSweep_of_lawful (fun _ _ h => takeSelfTestMedia_lawful h _))
  | wipeAll => exact faultGate_keepsSweep takeWipeAll_keepsSweep
  | _ => exact keepsSweep_of_same (fun _ => rfl)

/-- A request sector that arrives asks for the taking of its code, or for none (R176, R185). -/
theorem takeSector_keepsSweep (x : Sector) : KeepsSweep (takeSector x) := by
  generalize htake : takeSector x = take
  unfold takeSector at htake
  split at htake
  case h_13 =>
    split at htake <;> subst htake
    · exact takingOf_keepsSweep (.selfTestCipher 0 0)
    · exact takingOf_keepsSweep (.selfTestCipherInject 0 0)
    · exact takingOf_keepsSweep (.selfTestMedia 0 0 _)
    · exact faultGate_keepsSweep (keepsSweep_of_same (fun _ => rfl))
  case h_1 | h_15 => exact htake ▸ keepsSweep_of_same (fun _ => rfl)
  case h_2 => exact htake ▸ takingOf_keepsSweep (.lock 0 0)
  case h_3 => exact htake ▸ takingOf_keepsSweep (.readTable 0 0)
  case h_4 => exact htake ▸ takingOf_keepsSweep (.stageRegion 0 0 _ _ _ _ _ _ _)
  case h_5 => exact htake ▸ takingOf_keepsSweep (.setSlotMask 0 0 _ _)
  case h_6 => exact htake ▸ takingOf_keepsSweep (.clearPending 0 0)
  case h_7 => exact htake ▸ takingOf_keepsSweep (.applyTable 0 0)
  case h_8 => exact htake ▸ takingOf_keepsSweep (.eraseRegion 0 0 _ _)
  case h_9 => exact htake ▸ takingOf_keepsSweep (.cancelSweep 0 0)
  case h_10 => exact htake ▸ takingOf_keepsSweep (.enroll 0 0 _ _)
  case h_11 => exact htake ▸ takingOf_keepsSweep (.removeProfile 0 0 _)
  case h_12 => exact htake ▸ takingOf_keepsSweep (.setOptions 0 0 _ _ _ _ _ _)
  case h_14 => exact htake ▸ takingOf_keepsSweep (.wipeAll 0 0)

/-- An arrival is reported before a request is taken (R160). -/
theorem taken_keeps {take : State → Taken} (h : KeepsSweep take) {s : State} (ha : s.adminActs)
    (hs : s.eraseView.Lawful .steady none) : s.eraseView.keeps (take (reportArrival s)).2.2.eraseView := by
  have hreport := reportArrival_eraseView s
  have hacts : (reportArrival s).adminActs := by
    simpa [State.adminActs, State.adminOpen] using ha
  have hkeeps := h (reportArrival s) hacts (hreport.symm ▸ hs)
  rwa [hreport] at hkeeps

theorem windowRequest_keeps {take : State → Taken} (h : KeepsSweep take) {s : State} (ha : s.adminActs)
    (hs : s.eraseView.Lawful .steady none) (tag : Tag) (seq code : Byte) :
    s.eraseView.keeps (windowRequest tag seq code take s).eraseView := by
  have hreport : s.eraseView.keeps (reportArrival s).eraseView := (reportArrival_eraseView s).symm ▸ keeps_refl hs
  unfold windowRequest
  split
  · exact keeps_refl hs
  · dsimp only
    split
    · exact hreport
    · exact taken_keeps h ha hs

theorem arrivalChecks_keeps {s : State} (ha : s.adminActs) (hs : s.eraseView.Lawful .steady none) (kind : Byte)
    (tag : Tag) (start count : Nat) (x : Sector) :
    s.eraseView.keeps (arrivalChecks kind tag start count x (reportArrival s)).eraseView := by
  have hreport : s.eraseView.keeps (reportArrival s).eraseView := (reportArrival_eraseView s).symm ▸ keeps_refl hs
  unfold arrivalChecks
  split
  · exact hreport
  · split
    · exact hreport
    · split
      · split
        · exact hreport
        · split
          · unfold windowAccess windowSector
            split
            · split
              · exact taken_keeps (takeSector_keepsSweep x) ha hs
              · exact hreport
            · split <;> exact hreport
          · exact hreport
      · exact hreport

/-! ### Comparisons (R132) -/

theorem installDefault_lawful {p : Phase} {s : State} (h : s.eraseView.Lawful p none) :
    (installDefault s).eraseView.Lawful p none :=
  requestCommit_lawful (s := copyPending { s with
    regions.table := [⟨0, floor8 (s.uSpan.getD 0), .priv, true, some 0⟩]
    regions.epoch := s.regions.epoch + 1
    cipher.slots := Vector.ofFn (defaultSlot s)
    counters.keys := s.counters.keys + 1 }) (h.untracked _ _) _ _

theorem succeedEnroll_keeps {s : State} (h : s.eraseView.Lawful .steady none) (e : Enroll) (d : List Digit) :
    s.eraseView.keeps (succeedEnroll e d s).eraseView := by
  have hasked := requestCommit_lawful (s := { s with
    cred.profiles := s.cred.profiles.set e.target
      (some ⟨e.kind, d.length, s.counters.salts, ⟨s.counters.salts, d⟩⟩)
    cred.enroll := some { e with step := .committing, first := [], mapDone := e.origin == .opened }
    counters.salts := s.counters.salts + 1 }) h (.profile e.target) [.enrollProfile]
  refine keeps_of_same ?_ (by simp)
  unfold succeedEnroll
  dsimp only
  split
  · exact installDefault_lawful hasked
  · exact hasked

theorem duplicateResult_keeps {s : State} (h : s.eraseView.Lawful .steady none) (hd : s.ctl.drive = .enrolling)
    (e : Enroll) (d : List Digit) : s.eraseView.keeps (duplicateResult e d s).eraseView := by
  have hfails (r : EnrollResult) : s.eraseView.keeps (failEnroll e r s).eraseView :=
    keeps_of_lawful h (fun _ _ hlaw => failEnroll_lawful hlaw hd e r)
  unfold duplicateResult
  split
  · exact hfails _
  · split
    · exact hfails _
    · exact succeedEnroll_keeps h e d

theorem evaluationResult_keeps {s : State} (h : s.eraseView.Lawful .steady none) (hd : s.ctl.drive = .evaluating)
    (d : List Digit) : s.eraseView.keeps (evaluationResult d s).eraseView := by
  have hwipe : s.eraseView.keeps (startWipe { s with cred.eval := none }).eraseView :=
    startWipe_keeps (s := { s with cred.eval := none }) h
  have hends (u : State) (x : DriveState) (hu : u.eraseView = s.eraseView) (hx : x ≠ .wiping) :
      s.eraseView.keeps (requestOneShot .reject (setDrive x u)).eraseView := by
    have hdrive : u.ctl.drive = .evaluating := (congrArg EraseView.drive hu).trans hd
    rw [requestOneShot_eraseView]
    exact keeps_of_lawful h (fun _ _ hlaw => setDrive_lawful (hlaw.of_eq hu) hx (.inr (by simp [hdrive])))
  unfold evaluationResult
  split
  · split
    · exact hwipe
    · exact keeps_of_lawful h (fun _ _ hlaw => requestCommit_lawful
        (s := { s with cred.eval := some ⟨[], .resetting _⟩, cred.n := 0 }) hlaw _ _)
  · dsimp only
    split
    · exact hwipe
    · split
      · exact hends _ .backoff rfl (by simp)
      · exact hends _ .locked rfl (by simp)

theorem comparisonEnds_keeps {s : State} (h : s.eraseView.Lawful .steady none) (hm : s.modeInv) (c : Comparison) :
    s.eraseView.keeps (comparisonEnds c s).eraseView := by
  obtain ⟨-, heval, henroll, -, -⟩ := hm
  unfold comparisonEnds
  split
  · split
    · next e he =>
      split
      · exact evaluationResult_keeps h (heval (by simp [he])) _
      · exact keeps_refl h
    · exact keeps_refl h
  · split
    · next e he =>
      split
      · next hstep =>
        have hd := (henroll e he).1.resolve_right (fun hc => by simp [hstep] at hc)
        exact duplicateResult_keeps h hd e _
      · exact keeps_refl h
    · exact keeps_refl h

/-! ### The links -/

section Links

variable {T : Option (List Entry)} {s : State}

theorem attachTaken_eraseView (s : State) : (attachTaken s).eraseView = s.eraseView := by
  unfold attachTaken
  dsimp only
  rw [selectBackground_eraseView]
  split <;> split <;> rfl

theorem detachTaken_lawful (h : s.eraseView.Lawful .steady T) : (detachTaken s).eraseView.Lawful .steady T := by
  have hdown := detachSweep_lawful (notifyCounts_lawful (s := mediaDown (dropAll s)) h)
  unfold detachTaken
  dsimp only
  rw [standbyCheck_eraseView, selectBackground_eraseView]
  refine lockTrigger_lawful (s := { abortTest (detachSweep (notifyCounts (mediaDown (dropAll s)))) with
    front.link := .detached, power.source := .battery, ctl.attached := false }) ?_
  exact hdown.of_eq (abortTest_eraseView _)

theorem dropFront_eraseView (s : State) : (dropFront s).eraseView = s.eraseView := by
  simp [State.eraseView, State.sweepStoring]

theorem mediaReady_lawful (h : s.eraseView.Lawful .steady T) (l : List Command) :
    (startSizing (abortTest (failAll l
      { freeTags s with media.sizeWaiting := false }))).eraseView.Lawful .steady T := by
  have hfailed := failAll_lawful (s := { freeTags s with media.sizeWaiting := false }) h l
  refine hfailed.of_eq ?_
  unfold startSizing
  rw [issueSize_eraseView]
  exact abortTest_eraseView _

end Links

end Sys2Proof.Machine
end

section
/-! SUPPORT. Start-up and every step keep the laws of the sweep (R91, R101, R107, R108). -/

namespace Sys2Proof.Machine

open Sys2Proof

/-! ### Start-up (R107, R108, R198) -/

/-- An engine without work, and no SWEEP commit that names a sweep: whatever the drive state, the laws hold. -/
structure EraseView.Rests (v : EraseView) : Prop where
  queue   : v.queue = []
  stage   : v.stage = .idle
  sweep   : v.sweep = none
  storing : v.storing = none
  startUp : v.startUp = false
  copies  : ∀ y, v.copyA = some y ∨ v.copyB = some y → keepLaw y.checkpoint y.keep

theorem EraseView.Rests.lawful {v : EraseView} (h : v.Rests) : v.Lawful .steady none where
  early _ := h.sweep
  empty _ := ⟨h.stage, h.sweep⟩
  head x hx := absurd (h.sweep.symm.trans hx) (by simp)
  wiping _ _ := h.queue
  startUp hs := absurd (h.startUp.symm.trans hs) (by simp)
  settled hne := absurd h.storing hne
  sweep x hx := absurd (h.sweep.symm.trans hx) (by simp)
  stored y hy := h.copies y (hy.resolve_left (by simp [h.storing]))
  inside := by simp

section StartUp

variable {s : State}

theorem startNext_rests (h : s.eraseView.Rests) : (startNext s).eraseView.Rests := by
  rcases startNext_cases s with heq | ⟨e, rest, -, -, -, heq⟩ <;> rw [heq]
  · exact h
  · refine { h with storing := ?_ }
    have hsweep : s.erase.sweep = none := h.sweep
    cases hr : e.record <;> simp [State.eraseView, State.sweepStoring, State.capture, State.sweepRecord, hsweep]

theorem requestCommit_rests (h : s.eraseView.Rests) (r : RecordId) (ws : List Waiter) :
    (requestCommit r ws s).eraseView.Rests :=
  startNext_rests (s := { s with store.queue := enqueue r ws s.store.queue }) h

theorem clearEmptyMasks_rests (h : s.eraseView.Rests) : (clearEmptyMasks s).eraseView.Rests := by
  unfold clearEmptyMasks
  dsimp only
  split
  · exact { h with }
  · exact requestCommit_rests (s := { s with
      cipher.slots := s.cipher.slots.map (fun k => { k with mask := maskActive s.cred.profiles k.mask })
      regions.masks := s.regions.masks.map (maskActive s.cred.profiles) }) { h with } _ _

theorem setDrive_rests (h : s.eraseView.Rests) (d : DriveState) : (setDrive d s).eraseView.Rests := by
  rw [setDrive_eraseView]
  exact { h with }

/-- A wipe starts, or is not heard in FAULT. -/
theorem startWipe_rests (h : s.eraseView.Rests) : (startWipe s).eraseView.Lawful .steady none ∧
    ((startWipe s).ctl.drive ≠ .wiping → (startWipe s).eraseView.Rests) := by
  refine ⟨startWipe_lawful h.lawful, fun hd => ?_⟩
  by_cases hf : s.ctl.drive = .fault ∨ s.ctl.drive = .wiping
  · rwa [startWipe_of_fault hf]
  · exact absurd (startWipe_wiping hf).1 hd

theorem chooseState_rests (h : s.eraseView.Rests) : (chooseState s).eraseView.Lawful .steady none ∧
    ((chooseState s).ctl.drive ≠ .wiping → (chooseState s).eraseView.Rests) := by
  have hset {u : State} (hu : u.eraseView.Rests) (d : DriveState) : (setDrive d u).eraseView.Lawful .steady none ∧
      ((setDrive d u).ctl.drive ≠ .wiping → (setDrive d u).eraseView.Rests) :=
    ⟨(setDrive_rests hu d).lawful, fun _ => setDrive_rests hu d⟩
  unfold chooseState
  split_ifs
  · exact hset h _
  · exact startWipe_rests h
  · exact hset (u := { s with cred.backoff := some (1000 * backoffSeconds s.store.effective.free s.cred.n) }) h _
  · exact hset h _

/-- The SWEEP record that start-up loads keeps the law of its keep list (R192). -/
theorem loadedSweep_keepLaw (h : s.eraseView.Rests) {y : StoredSweep}
    (hy : ((s.store.sweep.load sweepLaw).getD .delivered).sweep = some y) : keepLaw y.checkpoint y.keep := by
  cases hl : s.store.sweep.load sweepLaw with
  | none => simp [hl, SweepRecord.delivered] at hy
  | some r =>
    rw [hl, Option.getD_some] at hy
    rcases (load_some hl).2 with rfl | rfl
    · exact h.copies y (.inl hy)
    · exact h.copies y (.inr hy)

/-- The recorded sweep is resumed at its checkpoint, as the head job. -/
theorem resumed_lawful (h : s.eraseView.Rests) (hd : s.ctl.drive ≠ .wiping) {y : StoredSweep}
    (hy : keepLaw y.checkpoint y.keep) (jobs : List Job) :
    ({ s with
      erase.queue := ⟨y.pos, .full⟩ :: jobs, erase.stage := .sweeping,
      erase.sweep := some (resumedSweep y) } : State).eraseView.Lawful .steady none where
  early := by simp [State.eraseView]
  empty := by simp [State.eraseView]
  head := by
    rintro x ⟨rfl⟩
    exact ⟨⟨y.pos, .full⟩, jobs, rfl, rfl⟩
  wiping _ hw := absurd hw hd
  startUp hs := absurd (h.startUp.symm.trans hs) (by simp)
  settled hne := absurd h.storing hne
  sweep := by
    rintro x ⟨rfl⟩
    refine ⟨Nat.le_refl _, Nat.le_refl _, fun _ => rfl, hy, fun z hz => ?_⟩
    exact absurd (h.storing.symm.trans hz) (by simp)
  stored z hz := h.copies z (hz.resolve_left (fun hz => absurd (h.storing.symm.trans hz) (by simp)))
  inside := by simp

/-- The recorded jobs are queued, with no sweep to resume. -/
theorem queued_lawful (h : s.eraseView.Rests) (hd : s.ctl.drive ≠ .wiping) (jobs : List Job) :
    ({ s with erase.queue := jobs } : State).eraseView.Lawful .steady none :=
  { h.lawful with
    empty := fun _ => ⟨h.stage, h.sweep⟩
    head := fun x hx => absurd (h.sweep.symm.trans hx) (by simp)
    wiping := fun _ hw => absurd hw hd
    startUp := fun hs => absurd (h.startUp.symm.trans hs) (by simp)
    settled := fun hne => absurd h.storing hne }

theorem restoreErase_lawful (h : s.eraseView.Rests) (hd : s.ctl.drive ≠ .wiping) {r : SweepRecord}
    (hr : ∀ y, r.sweep = some y → keepLaw y.checkpoint y.keep) :
    (restoreErase r s).eraseView.Lawful .steady none := by
  unfold restoreErase
  dsimp only
  cases hresumed : r.sweep.filter (sweepRestored s) with
  | some y =>
    have hlaw := resumed_lawful h hd (hr y (Option.filter_eq_some_iff.mp hresumed).1) (r.jobs.filter (jobRestored s))
    simp only [Option.isSome_some, if_true]
    split
    · exact requestCommit_lawful hlaw _ _
    · exact hlaw
  | none =>
    have hlaw := queued_lawful h hd (r.jobs.filter (jobRestored s))
    simp only [Option.isSome_none, Bool.false_eq_true, if_false]
    split
    · exact startHead_lawful (requestCommit_lawful hlaw _ _) (by simpa [State.eraseView] using h.sweep)
    · exact startHead_lawful hlaw h.sweep

/-- In WIPING nothing is restored (R199). -/
theorem restored_lawful_sweep (h : s.eraseView.Lawful .steady none ∧ (s.ctl.drive ≠ .wiping → s.eraseView.Rests))
    {r : SweepRecord} (hr : ∀ y, r.sweep = some y → keepLaw y.checkpoint y.keep) :
    (startUpEnd (if s.ctl.drive = .wiping then s else restoreErase r s)).eraseView.Lawful .steady none := by
  have hend (u : State) (hu : u.eraseView.Lawful .steady none) : (startUpEnd u).eraseView.Lawful .steady none := hu
  refine hend _ ?_
  split
  · exact h.1
  · next hd => exact restoreErase_lawful (h.2 hd) hd hr

theorem startUpRest_lawful_sweep (h : s.eraseView.Rests) : (startUpRest s).eraseView.Lawful .steady none := by
  have hmasks := clearEmptyMasks_rests h
  refine restored_lawful_sweep ?_ (fun _ hy => loadedSweep_keepLaw h hy)
  split
  · exact startWipe_rests hmasks
  · exact chooseState_rests hmasks

/-! ### Power (R192, R197, R201) -/

/-- A commit cut short leaves the contents of the SWEEP record's copies. -/
theorem spoil_sweep (st : Store) (x : RecordContent) : (st.spoil x).sweep.a.content = st.sweep.a.content ∧
    (st.spoil x).sweep.b.content = st.sweep.b.content := by
  cases x with
  | sweep r =>
    unfold Store.spoil Copies.spoil
    dsimp only
    split <;> exact ⟨rfl, rfl⟩
  | _ => exact ⟨rfl, rfl⟩

/-- A loss of power leaves an engine without work. -/
theorem powerDown_rests (h : s.eraseView.Lawful .steady none) : (powerDown s).eraseView.Rests := by
  have hcopies : (powerDown s).eraseView.copyA = s.eraseView.copyA ∧
      (powerDown s).eraseView.copyB = s.eraseView.copyB := by
    unfold powerDown
    split
    · next c hc =>
      obtain ⟨ha, hb⟩ := spoil_sweep s.store c.content
      exact ⟨congrArg SweepRecord.sweep ha, congrArg SweepRecord.sweep hb⟩
    · exact ⟨rfl, rfl⟩
  refine ⟨rfl, rfl, rfl, rfl, rfl, fun y hy => h.stored y (.inr ?_)⟩
  rwa [hcopies.1, hcopies.2] at hy

theorem restarted_rests (h : s.eraseView.Lawful .steady none) (d : BitVec 24) : (s.restarted d).eraseView.Rests :=
  { powerDown_rests h with }

theorem startUp_lawful_sweep (h : (s.eraseView).Rests) : (startUp s).eraseView.Lawful .steady none := by
  have hloaded : (loadRecords s).eraseView.Rests := { h with }
  unfold startUp
  dsimp only
  split
  · have hfault := enterFault_lawful_sweep hloaded.lawful .storeCheck
    exact hfault
  · exact { hloaded.lawful with startUp := fun _ => ⟨hloaded.queue, hloaded.storing⟩ }

theorem startUp_sweep (h : s.eraseView.Rests) : (startUp s).erase.sweep = none := by
  have hsweep : (loadRecords s).erase.sweep = none := h.sweep
  have hfault : (enterFault .storeCheck (loadRecords s)).erase.sweep = none := by
    by_cases hd : (loadRecords s).ctl.drive = .fault
    · rwa [enterFault_of_fault hd]
    · rw [enterFault_without_sweep hd _ hsweep]
      simpa [State.faulted] using hsweep
  unfold startUp
  dsimp only
  split
  · exact hfault
  · exact hsweep

end StartUp

/-! ### Every command -/

section Rows

variable {s t : State}

theorem execCipherTestEnd_keeps (h : s.eraseView.Lawful .steady none) {m : BitVec 16}
    (ht : execCipherTestEnd m s = .next t) : s.eraseView.keeps t.eraseView := by
  obtain rfl := Host.Outcome.next.inj ht
  split
  · exact keeps_refl h
  · next r hr =>
    rw [standbyCheck_eraseView]
    obtain ⟨kind, left⟩ := r
    have hrun : s.eraseView.startUp = (kind == .startUp) := by simp [State.eraseView, hr]
    have hended {T : Option (List Entry)} (hlaw : s.eraseView.Lawful .steady T) :
        ({ s with cipher.run := none } : State).eraseView.Lawful .steady T :=
      { hlaw with startUp := fun hs => absurd hs (by simp [State.eraseView]) }
    have hfault {u : State} (hu : u.eraseView = ({ s with cipher.run := none } : State).eraseView) (c : FaultCause) :
        s.eraseView.keeps (enterFault c u).eraseView :=
      keeps_of_lawful h (fun _ _ hlaw => enterFault_lawful_sweep ((hended hlaw).of_eq hu) c)
    have hpass {u : State} (hu : u.eraseView = ({ s with cipher.run := none } : State).eraseView) :
        s.eraseView.keeps u.eraseView :=
      keeps_of_lawful h (fun _ _ hlaw => (hended hlaw).of_eq hu)
    unfold cipherEnd
    cases kind with
    | startUp =>
      have hstart : s.eraseView.startUp = true := hrun
      obtain ⟨hqueue, hstoring⟩ := h.startUp hstart
      have hrests : ({ s with cipher.run := none } : State).eraseView.Rests :=
        ⟨hqueue, (h.empty hqueue).1, (h.empty hqueue).2, hstoring, rfl, fun y hy => h.stored y (.inr hy)⟩
      dsimp only
      split
      · exact ⟨startUpRest_lawful_sweep hrests, fun _ _ hno => absurd (hstart.symm.trans hno) (by simp)⟩
      · exact hfault rfl _
    | plain =>
      dsimp only
      split
      · exact hpass (u := { s with cipher.run := none, cipher.result := .pass }) rfl
      · exact hfault (u := { s with cipher.run := none, cipher.result := .fail }) rfl _
    | inject =>
      dsimp only
      split
      · exact hpass (u := { s with cipher.run := none, cipher.result := .injectDetected }) rfl
      · exact hfault (u := { s with cipher.run := none, cipher.result := .fail }) rfl _

theorem execMediaReady_keeps (h : s.eraseView.Lawful .steady none) (ht : execMediaReady s = .next t) :
    s.eraseView.keeps t.eraseView := by
  obtain rfl := Host.Outcome.next.inj ht
  refine keeps_of_lawful h (fun T _ hlaw => ?_)
  split
  · exact hlaw
  · split
    · exact hlaw.of_eq (s := s) (issueSize_eraseView _)
    · exact mediaReady_lawful hlaw _

theorem execMediaCompletion_keeps (h : s.eraseView.Lawful .steady none) {tag : Tag} {status : Byte} {span : BitVec 32}
    {data : MediaData} (ht : execMediaCompletion tag status span data s = .next t) :
    s.eraseView.keeps t.eraseView := by
  obtain rfl := Host.Outcome.next.inj ht
  refine keeps_of_lawful h (fun T _ hlaw => ?_)
  split
  · exact hlaw
  · exact hlaw.of_eq (s := s) (serveSize_eraseView _)
  · rw [standbyCheck_eraseView, serveSize_eraseView]
    exact deliverResult_lawful (s := { s with media.tags := s.media.tags.set tag .free }) hlaw _ _ _ _

theorem execTagTimeout_keeps (h : s.eraseView.Lawful .steady none) {tag : Tag} (ht : execTagTimeout tag s = .next t) :
    s.eraseView.keeps t.eraseView := by
  obtain rfl := Host.Outcome.next.inj ht
  refine keeps_of_lawful h (fun T _ hlaw => ?_)
  split
  · next c _ =>
    have hresult := deliverResult_lawful (s := { s with
      media.tags := s.media.tags.set tag .retired, media.retired := s.media.retired + 1 }) hlaw c false 0 []
    dsimp only
    split
    · rw [serveSize_eraseView]
      exact mediaLinkReset_lawful hresult
    · exact hresult
  · exact hlaw

theorem execKeypadScan_keeps (h : s.eraseView.Lawful .steady none) {pressed : BitVec 12}
    (ht : execKeypadScan pressed s = .next t) : s.eraseView.keeps t.eraseView := by
  obtain rfl := Host.Outcome.next.inj ht
  refine keeps_of_lawful h (fun T _ hlaw => ?_)
  split
  · exact pressAfter_lawful (s := { s with keypad.keys := debounceAll pressed s.keypad.keys }) hlaw _ _
  · split
    · exact pressAfter_lawful (s := { s with power.lastScan := none }) hlaw _ _
    · exact hlaw

theorem execEntryTimerExpiry_keeps (h : s.eraseView.Lawful .steady none) (ht : execEntryTimerExpiry s = .next t) :
    s.eraseView.keeps t.eraseView := by
  obtain rfl := Host.Outcome.next.inj ht
  refine keeps_of_lawful h (fun T _ hlaw => ?_)
  split
  · exact hlaw
  · split
    · exact hlaw
    · rw [standbyCheck_eraseView]
      split
      · next hd => exact setDrive_lawful (s := endCollection s) hlaw (by simp) (.inr (by simp [hd]))
      · next hd _ => exact failEnroll_lawful (s := endCollection s) hlaw hd _ _
      · exact hlaw

theorem execCommitCompletion_keeps (h : s.eraseView.Lawful .steady none) {verified : Bool}
    (ht : execCommitCompletion verified s = .next t) : s.eraseView.keeps t.eraseView := by
  obtain rfl := Host.Outcome.next.inj ht
  refine keeps_of_lawful h (fun T _ hlaw => ?_)
  split
  · exact hlaw
  · next c hc =>
    rw [standbyCheck_eraseView]
    split
    · exact commitVerified_lawful_sweep hlaw hc
    · exact commitFailed_lawful_sweep hlaw c

theorem execAdmission_keeps (h : s.eraseView.Lawful .steady none) (ht : execAdmission s = .next t) :
    s.eraseView.keeps t.eraseView := by
  obtain rfl := Host.Outcome.next.inj ht
  refine keeps_of_lawful h (fun T hT hlaw => ?_)
  split
  · exact hlaw
  · next x rest _ =>
    split
    · exact admitTxn_lawful (s := { s with filter.queue := rest }) hlaw x
        (fun t ht => (hT t ht).1 ▸ (hT t ht).2.1)
    · exact hlaw

theorem exec_keepsSweep {c : Instr} (hm : s.modeInv) (h : s.eraseView.Lawful .steady none) (ht : exec c s = .next t) :
    s.eraseView.keeps t.eraseView := by
  cases c with
  | powerOn d =>
    obtain rfl := Host.Outcome.next.inj ht
    exact keeps_of_none (startUp_lawful_sweep (restarted_rests h d)) (startUp_sweep (restarted_rests h d))
  | powerLoss =>
    obtain rfl := Host.Outcome.next.inj ht
    exact keeps_of_none (powerDown_rests h).lawful (powerDown_rests h).sweep
  | status | lock | readTable | stageRegion | setSlotMask | clearPending | applyTable | eraseRegion | cancelSweep
  | enroll | removeProfile | setOptions | selfTestCipher | selfTestCipherInject | selfTestMedia | wipeAll
  | unknownRequest =>
    rw [exec_request rfl] at ht
    obtain rfl := Host.Outcome.next.inj ht
    exact windowRequest_keeps (takingOf_keepsSweep _) hm.adminActs h _ _ _
  | frontRequestArrival =>
    obtain rfl := Host.Outcome.next.inj ht
    split
    · exact arrivalChecks_keeps hm.adminActs h _ _ _ _ _
    · exact keeps_refl h
  | mediaReady => exact execMediaReady_keeps h ht
  | mediaCompletion => exact execMediaCompletion_keeps h ht
  | tagTimeout => exact execTagTimeout_keeps h ht
  | keypadScan => exact execKeypadScan_keeps h ht
  | entryTimerExpiry => exact execEntryTimerExpiry_keeps h ht
  | commitCompletion => exact execCommitCompletion_keeps h ht
  | cipherTestEnd => exact execCipherTestEnd_keeps h ht
  | admission => exact execAdmission_keeps h ht
  | comparisonResult =>
    obtain rfl := Host.Outcome.next.inj ht
    split
    · exact keeps_refl h
    · rw [standbyCheck_eraseView]
      exact comparisonEnds_keeps (s := { s with cred.comparison := none }) h hm _
  | attach =>
    obtain rfl := Host.Outcome.next.inj ht
    split
    · exact (attachTaken_eraseView s).symm ▸ keeps_refl h
    · exact keeps_refl h
  | detach =>
    obtain rfl := Host.Outcome.next.inj ht
    refine keeps_of_lawful h (fun T _ hlaw => ?_)
    split
    · exact detachTaken_lawful hlaw
    · exact hlaw
  | linkReset =>
    obtain rfl := Host.Outcome.next.inj ht
    refine keeps_of_lawful h (fun T _ hlaw => ?_)
    split
    · exact notifyCounts_lawful (hlaw.of_eq (dropFront_eraseView s))
    · exact hlaw
  | writeDataSector =>
    obtain rfl := Host.Outcome.next.inj ht
    refine keeps_of_lawful h (fun T _ hlaw => ?_)
    split
    · exact pullSector_lawful hlaw _ _
    · exact hlaw
  | slotGrant =>
    obtain rfl := Host.Outcome.next.inj ht
    refine keeps_of_lawful h (fun T _ hlaw => ?_)
    split
    · split
      · exact grantTag_lawful hlaw _
      · exact hlaw
    · exact hlaw
  | backoffTimerExpiry =>
    obtain rfl := Host.Outcome.next.inj ht
    refine keeps_of_lawful h (fun T _ hlaw => ?_)
    split
    · exact hlaw
    · rw [standbyCheck_eraseView]
      split
      · next hd => exact setDrive_lawful (s := { s with cred.backoff := none }) hlaw (by simp) (.inr (by simp [hd]))
      · exact hlaw
  | attachWindowExpiry =>
    obtain rfl := Host.Outcome.next.inj ht
    refine keeps_of_lawful h (fun T _ hlaw => ?_)
    split
    · exact hlaw
    · rw [standbyCheck_eraseView]
      exact lockTrigger_lawful (s := { s with ctl.window := none }) hlaw
  | inactivityExpiry =>
    obtain rfl := Host.Outcome.next.inj ht
    refine keeps_of_lawful h (fun T _ hlaw => ?_)
    split
    · exact hlaw
    · split
      · exact hlaw
      · rw [standbyCheck_eraseView]
        exact lockTrigger_lawful (s := { s with ctl.inactivity := none }) hlaw
  | standbyIdleTimerExpiry =>
    obtain rfl := Host.Outcome.next.inj ht
    split
    · exact (standbyCheck_eraseView { s with power.idle := .expired }).symm ▸ keeps_refl h
    all_goals exact keeps_refl h
  | patternStepExpiry =>
    obtain rfl := Host.Outcome.next.inj ht
    split
    · split <;> exact keeps_refl h
    · exact keeps_refl h
  | keypadColumnEdge =>
    obtain rfl := Host.Outcome.next.inj ht
    split <;> exact keeps_refl h
  | settlingTimerExpiry =>
    obtain rfl := Host.Outcome.next.inj ht
    split <;> exact keeps_refl h

theorem tick_eraseView (s : State) : (tick s).eraseView = s.eraseView := by
  have hrun : (s.cipher.run.map (fun r => { r with left := r.left - 1 })).any (fun r => r.kind == .startUp) =
      s.cipher.run.any (fun r => r.kind == .startUp) := by
    cases s.cipher.run <;> rfl
  unfold State.eraseView tick
  dsimp only
  rw [hrun]
  rfl

theorem step_keepsSweep (hm : s.modeInv) (h : s.eraseView.Lawful .steady none) (ht : step s = .next t) :
    s.eraseView.keeps t.eraseView := by
  unfold step at ht
  split at ht
  · obtain rfl := Host.Outcome.next.inj ht
    exact (tick_eraseView s).symm ▸ keeps_refl h
  · next c rest _ => exact exec_keepsSweep (s := { s with pending := rest }) hm h ht

end Rows

end Sys2Proof.Machine

namespace Sys2Proof.Proofs

open Sys2Proof Sys2Proof.Machine

/-- Settles O59: the laws in one structure, kept by every command, with the table that the step is to end with. -/
theorem sweepKeepsItsLaws : Obligations.SweepKeepsItsLaws := by
  refine ⟨fun s t hm herase hsweep ht => ?_, fun s t hm herase hsweep hinside hlength hstart ht htable => ?_⟩
  · have hlaw := s.eraseView_lawful.mp ⟨herase, hsweep⟩
    exact t.eraseView_lawful.mpr (step_keepsSweep hm hlaw ht).1
  · have hlaw := s.eraseView_lawful.mp ⟨herase, hsweep⟩
    have hrun : s.eraseView.startUp = false := by
      by_contra hrunning
      obtain ⟨left, hleft⟩ := (startUpRun_iff s).mp (by simpa using hrunning)
      exact hstart left hleft
    exact (step_keepsSweep hm hlaw ht).2 hinside hlength hrun htable

end Sys2Proof.Proofs
end
